-- ==== Sys2Proof/Word.lean ====
section
/-! DEFINITION. The words of the Ravitel SK32: the byte, the opaque identifiers and keys that travel as bytes,
and the numbers by which the manual names screens, slots and the like. -/

namespace Sys2Proof

/-- One byte of a frame. -/
abbrev Byte := BitVec 8

/-- A bundle id, feature id or playback unit id: a 64-bit opaque value, compared for equality only (00_scope,
"Identifiers"). -/
abbrev Ident := BitVec 64

/-- A LAN station address, 48 bits (R166). -/
abbrev StationAddress := BitVec 48

/-- A 32-byte value of the provisioning store: the authority fingerprint or the unwrap identity (R166). -/
abbrev Fingerprint := BitVec 256

/-- A delivered wrapped reel key, or a reel key rewrapped for one playback unit: 40 bytes (R42, section 12.5). -/
abbrev WrappedReelKey := BitVec 320

/-- A wrapped link key as BIND_SCREEN carries it: 48 bytes (section 12.4). -/
abbrev WrappedLinkKey := BitVec 384

/-- Key material in clear (a reel key in the pool, a link key).  The manual gives its length nowhere and no reply
carries it, so it is a byte string of any length. -/
abbrev KeyMaterial := List Byte

/-- A screen or lane: the value `i` stands for the manual's number `i + 1`, 1 to 32 (00_scope, "Numbering"). -/
abbrev LaneNo := Fin 32

/-- A keyring slot, 0 to 63 (R38). -/
abbrev SlotNo := Fin 64

/-- A reel key pool entry, 0 to 767 (R40). -/
abbrev PoolNo := Fin 768

/-- An engine requester: 0 is the intake requester, `i` is lane `i` (R88). -/
abbrev RequesterNo := Fin 33

/-- A membership shape or a margin term, 0 to 7 (R23, R25). -/
abbrev TableNo := Fin 8

/-- A notice subject in the fixed order of R157: 0 the link, 1 the clock, 2 to 33 the lanes, 34 to 97 the slots. -/
abbrev SubjectNo := Fin 98

/-- The set of kinds pending under one subject, bit by bit as section 12.5 lays out the kind-set byte. -/
abbrev KindSet := BitVec 5

end Sys2Proof
end

