-- ==== Sys2Proof/Config.lean ====
section
/-! DEFINITION. The numbers the manual fixes for the SK32 (00_scope: "every number in this manual is the SK32's"),
and the two values it leaves open (the padding bytes of a short LAN frame and the check sequence of a LAN frame). -/

namespace Sys2Proof.Config

/-- The last value of part time; part time saturates there and does not wrap (R2). -/
def timeMax : Nat := 4294967295

/-- The largest adjustment allowance (R6). -/
def allowanceMax : Nat := 900

/-- The allowance gained at one replenish (R6). -/
def allowanceStep : Nat := 30

/-- The allowance an accepted claim in UNSET leaves (R8). -/
def allowanceAtSet : Nat := 300

/-- The limit of the residual offset's magnitude (R9). -/
def residualMax : Nat := 65535

/-- The value at which staleness saturates (R5). -/
def stalenessMax : Nat := 65535

/-- Ticks of one staleness minute (R5). -/
def minuteTicks : Nat := 60

/-- Ticks between two replenishes (R6). -/
def replenishTicks : Nat := 86400

/-- The upper clamp of the margin, of a term's proposed margin and of the two margin parameters (R27). -/
def marginMax : Nat := 3600

/-- The clamp of a shape's centre and spreads (R23). -/
def shapeMax : Nat := 65535

/-- The largest grade and the largest weight (R24, R26). -/
def gradeMax : Nat := 255

/-- The clamp of a bundle's grace (R43). -/
def graceMax : Nat := 14400

/-- The entries of the reel key pool (R40). -/
def poolSize : Nat := 768

/-- The bundles the intake queue has room for (R41). -/
def intakeRoom : Nat := 4

/-- The non-tombstone bundles one feature may hold (R38). -/
def featureRoom : Nat := 4

/-- The entries the revocation list holds (R73). -/
def revocationRoom : Nat := 32

/-- The frames the receive buffer holds (R153). -/
def receiveRoom : Nat := 4

/-- The subjects one COLLECT takes at most (R158). -/
def collectRoom : Nat := 8

/-- The status records one LIST_BUNDLES returns at most (R52). -/
def listRoom : Nat := 16

/-- The entries a screening report keeps (R144). -/
def reportRoom : Nat := 64

/-- The report entries one FETCH_REPORT returns at most (R146). -/
def reportPage : Nat := 16

/-- The lead of a default needed-by (R109, R129). -/
def neededLead : Nat := 600

/-- The largest frame payload (R150, R151). -/
def payloadMax : Nat := 1400

/-- The source station address while the STATION slot is BLANK (R151). -/
def blankStation : StationAddress := 0x020000000000

/-- The frame type of a LAN message (R151). -/
def frameType : Nat := 0x88B6

/-- The padding byte at a place of a LAN frame that is shorter than the Ethernet minimum.  The manual says that
padding is there and not what it holds (section 12.2): a free value (assumption log, entry 11). -/
opaque lanPadding : Nat → Byte

/-- The check sequence of a LAN frame that the controller sends, of the bytes before it.  The manual says that 4 bytes
are there and treats them as a check that passes or fails (R151): a free value (assumption log, entry 11). -/
opaque lanCheck : List Byte → BitVec 32

end Sys2Proof.Config
end

