-- ==== Sys2Proof/Syntax.lean ====
section
/-! DEFINITION. The commands of the SK32: one constructor per row of spec/opcode_table.json, and the operands that
reach the controller from outside with a command.

A row that serves a request takes no operand for the request's own fields: the frame that carries them waits in
the receive buffer, and serving it begins by taking it from there (R154).  What a command does carry is what only
the world outside the modelled state decides: the bytes on a port, the outcome of a cryptographic check (00_scope:
"each such check passes or fails"), and, where the manual lets two events be taken in either order, the order. -/

namespace Sys2Proof

/-- What the tag of a time claim was computed over: the claimed time, the site number and the authority's
fingerprint (R7). -/
structure ClaimTag where
  /-- The authority fingerprint under which the tag verifies. -/
  authority : Fingerprint
  /-- The site number the tag covers. -/
  site : BitVec 16
  /-- The claimed time the tag covers. -/
  time : Nat
  deriving DecidableEq, Repr

/-- What the distributor's tag of a delivery was computed over: the bytes before the tag, and the unwrap identity
(R44). -/
structure BundleTag where
  /-- The unwrap identity under which the tag verifies. -/
  identity : Fingerprint
  /-- The bytes of the body before the tag. -/
  covered : List Byte
  deriving DecidableEq, Repr

/-- What the tag of a revocation order was computed over: its four fields, and the authority's fingerprint (R74). -/
structure OrderTag where
  /-- The authority fingerprint under which the tag verifies. -/
  authority : Fingerprint
  /-- The bytes of target kind, id, mode and until. -/
  covered : List Byte
  deriving DecidableEq, Repr

/-- The two sweeps of one tick or claim are two events at two blocks, and either may be taken first (R68). -/
inductive SweepOrder where
  /-- The Keyring's window sweep is taken first. -/
  | windowFirst
  /-- The Lane Controller's stop-time sweep is taken first. -/
  | stopTimeFirst
  deriving DecidableEq, Repr

/-- How much of a tick one TICK command takes.  A tick is one event at the Part Clock, and the passes it triggers
are separate events at other blocks, between which another event may fall (R3, R68, R125). -/
inductive TickPart where
  /-- The tick with the three passes it triggers, nothing falling between. -/
  | whole (order : SweepOrder)
  /-- The Part Clock's own event alone; the passes it triggers become due. -/
  | clockOnly
  /-- The revocation expiry pass that a tick has made due (R82). -/
  | expiryPass
  /-- The window sweep that a tick has made due (R58). -/
  | windowSweep
  /-- The stop-time sweep that a tick has made due (R110). -/
  | stopTimeSweep
  deriving DecidableEq, Repr

/-- How far the margin's part of stage 3 of a start-up has got (R173): the window sweep reads the evaluation, so it is
never ahead of it. -/
inductive JudgedSoFar where
  /-- The POWER_UP evaluation has not been made. -/
  | nothing
  /-- The evaluation has been made, the window sweep not. -/
  | evaluated
  /-- The evaluation and the window sweep have been made. -/
  | swept
  deriving DecidableEq, Repr

/-- How far a start-up gets before main power is lost again, if it is (R172, R173). -/
inductive StartUpRun where
  /-- The start-up completes and the controller begins operation. -/
  | complete
  /-- Main power fails before the start-up's update of the retained domain. -/
  | cutBeforeUpdate
  /-- Main power fails after that update and before the controller begins operation.  In stage 3 the evaluation and
  the window sweep had got as far as `judged`, and the expiry pass had been made or not; each reached the domain by
  itself.  Where there is no stage 3 to speak of (R174, or a clock in UNSET), neither operand says anything. -/
  | cutAfterUpdate (judged : JudgedSoFar) (expired : Bool)
  deriving DecidableEq, Repr

/-- The commands, one per row of the table, in the table's order. -/
inductive Instr where
  /-- SERIAL_FRAME (R150): bytes arrive on the serial line with no gap over 50 ms among them. -/
  | serialFrame (bytes : List Byte)
  /-- LAN_FRAME (R151): an Ethernet frame arrives, from its destination address to its check sequence inclusive;
  `checkPasses` is the outcome of the check sequence. -/
  | lanFrame (bytes : List Byte) (checkPasses : Bool)
  /-- SERIAL_BYTE_TIMEOUT (R150): more than 50 ms pass inside a serial frame. -/
  | serialByteTimeout
  /-- FRAME_SENT (R152): the oldest frame handed to transmit has been sent. -/
  | frameSent
  /-- UNKNOWN_KIND (R154): the link serves a request of unknown kind. -/
  | unknownKind
  /-- IDENTIFY (R170). -/
  | identify
  /-- PROVISION_WRITE (R167). -/
  | provisionWrite
  /-- PROVISION_FINALIZE (R168). -/
  | provisionFinalize
  /-- COLLECT (R158). -/
  | collect
  /-- DISMISS (R159). -/
  | dismiss
  /-- NOTICE_HOLD (R161). -/
  | noticeHold
  /-- RESTART (R163). -/
  | restart
  /-- RESTART_RESET (R163): the restart is taken. -/
  | restartReset
  /-- SITE_PARAMETER (R162). -/
  | siteParameter
  /-- TIME_CLAIM (R7): `tagOver` says what the claim's tag was computed over (`none`: over nothing that verifies). -/
  | timeClaim (tagOver : Option ClaimTag) (order : SweepOrder)
  /-- CLOCK_STATUS (R15). -/
  | clockStatus
  /-- SET_SHAPE (R31). -/
  | setShape
  /-- SET_TERM (R32). -/
  | setTerm
  /-- MARGIN_STATUS (R34). -/
  | marginStatus
  /-- DELIVER_BUNDLE (R42): `tagOver` says what the distributor's tag was computed over. -/
  | deliverBundle (tagOver : Option BundleTag)
  /-- BUNDLE_STATUS (R51). -/
  | bundleStatus
  /-- LIST_BUNDLES (R52). -/
  | listBundles
  /-- DELETE_BUNDLE (R53). -/
  | deleteBundle
  /-- REVOKE (R74): `tagOver` says what the authority's tag was computed over. -/
  | revoke (tagOver : Option OrderTag)
  /-- LIST_REVOCATIONS (R83). -/
  | listRevocations
  /-- ENGINE_STATUS (R95). -/
  | engineStatus
  /-- SYNC (R96). -/
  | sync
  /-- BIND_SCREEN (R103). -/
  | bindScreen
  /-- UNBIND_SCREEN (R105). -/
  | unbindScreen
  /-- SET_BIAS (R105). -/
  | setBias
  /-- OPEN_SCREENING (R107). -/
  | openScreening
  /-- LANE_STATUS (R115). -/
  | laneStatus
  /-- END_SCREENING (R113). -/
  | endScreening
  /-- CLOSE_LANE (R114). -/
  | closeLane
  /-- FETCH_REEL (R125). -/
  | fetchReel
  /-- REEL_BEGIN (R128). -/
  | reelBegin
  /-- AMEND_SCREENING (R137). -/
  | amendScreening
  /-- FETCH_REPORT (R146). -/
  | fetchReport
  /-- TICK (R3). -/
  | tick (part : TickPart)
  /-- STALENESS_MINUTE (R5): the tick at which the minute countdown reaches 0. -/
  | stalenessMinute (order : SweepOrder)
  /-- REPLENISH (R6): the tick at which the replenish countdown reaches 0. -/
  | replenish (order : SweepOrder)
  /-- INTAKE_UNWRAP_COMPLETE (R48): `outcome` is the unwrapped reel key on pass, `none` on fail. -/
  | intakeUnwrapComplete (outcome : Option KeyMaterial)
  /-- REWRAP_COMPLETE (R122): `outcome` is the reel key wrapped under the link key on pass, `none` on fail. -/
  | rewrapComplete (outcome : Option WrappedReelKey)
  /-- BIND_COMPLETE (R104): `outcome` is the unwrapped link key on pass, `none` on fail. -/
  | bindComplete (outcome : Option KeyMaterial)
  /-- POWER_UP (R172): `checkMatches` is whether the retained domain's contents agree with its check value. -/
  | powerUp (checkMatches : Bool) (run : StartUpRun)
  /-- MAIN_POWER_LOSS (R16). -/
  | mainPowerLoss
  /-- BATTERY_SECOND (R171). -/
  | batterySecond
  /-- CELL_FAILED (R171). -/
  | cellFailed
  deriving DecidableEq, Repr

end Sys2Proof
end

