-- ==== Sys2Proof/Decode.lean ====
section
/-! DEFINITION. The block decodes no instruction words: spec/opcode_table.json gives its rows no bits (98_reader:
"n_rows_with_fixed": 0), so no word spells a command. -/

namespace Sys2Proof

/-- The command a word spells by the table's bits: none, because no row of the table has any. -/
def decodeTableWord (_nbits _w : Nat) : Option Instr := none

end Sys2Proof
end

