-- ==== Sys2Proof/Machine/Types.lean ====
section
/-! DEFINITION. The state each block of the SK32 owns (00_scope, "Blocks of the controller"), as plain data.
Counts, times and durations are numbers; identifiers, keys and kind sets, which travel as bytes, are bit vectors;
states and modes are named. -/

namespace Sys2Proof.Machine

/-! ### Part Clock -/

/-- Whether part time has been set from an accepted claim since the last retained loss (R1). -/
inductive ClockState where
  | unset
  | running
  deriving DecidableEq, Repr

/-- The Part Clock's seven pieces of state (section 1.1). -/
structure Clock where
  /-- Clock state (R1). -/
  state : ClockState
  /-- Part time, "now" (R2). -/
  now : Nat
  /-- Adjustment allowance A (R6). -/
  allowance : Nat
  /-- Residual offset D (R12). -/
  residual : Int
  /-- Staleness S in minutes (R5). -/
  staleness : Nat
  /-- Ticks left until staleness next rises (R5). -/
  minuteCountdown : Nat
  /-- Ticks left until the allowance is next replenished (R6). -/
  replenishCountdown : Nat
  deriving DecidableEq, Repr

/-! ### Margin Unit -/

/-- The input a shape grades (R22). -/
inductive ShapeInput where
  /-- The magnitude of the residual offset. -/
  | x1
  /-- Staleness. -/
  | x2
  deriving DecidableEq, Repr

/-- A membership shape (R23). -/
structure Shape where
  /-- Whether the shape takes part in evaluation. -/
  inUse : Bool
  /-- The input it grades. -/
  input : ShapeInput
  /-- Where the grade is 255. -/
  centre : Nat
  /-- The distance below the centre over which the grade falls to 0. -/
  leftSpread : Nat
  /-- The distance above the centre over which the grade falls to 0. -/
  rightSpread : Nat
  /-- Grade 255 for every value below the centre. -/
  leftShoulder : Bool
  /-- Grade 255 for every value above the centre. -/
  rightShoulder : Bool
  deriving DecidableEq, Repr

/-- How the two antecedents of a term combine (R25). -/
inductive Combinator where
  | and
  | or
  deriving DecidableEq, Repr

/-- One antecedent of a term (R25). -/
structure Antecedent where
  /-- The shape it listens to. -/
  shape : TableNo
  /-- Whether its value is 255 less the grade. -/
  negate : Bool
  deriving DecidableEq, Repr

/-- A margin term (R25).  A term with antecedent B absent has no combinator. -/
structure Term where
  /-- Whether the term takes part in evaluation. -/
  inUse : Bool
  /-- Antecedent A. -/
  a : Antecedent
  /-- Antecedent B with its combinator, when B is present. -/
  b : Option (Antecedent × Combinator)
  /-- The proposed margin m. -/
  proposed : Nat
  deriving DecidableEq, Repr

/-- What led to an evaluation, in the order of R21. -/
inductive EvalCause where
  | staleness
  | claim
  | shape
  | term
  | parameter
  | powerUp
  | retainedLoss
  deriving DecidableEq, Repr

/-- The record of one evaluation (R21). -/
structure Evaluation where
  /-- Input x1 the evaluation used. -/
  x1 : Nat
  /-- Input x2 the evaluation used. -/
  x2 : Nat
  /-- The grade of each shape. -/
  grades : Vector Nat 8
  /-- The weight of each term. -/
  weights : Vector Nat 8
  /-- The sum of weights W. -/
  weightSum : Nat
  /-- The sum P of weight times proposed margin. -/
  productSum : Nat
  /-- Whether the no-opinion margin was used. -/
  usedNoOpinion : Bool
  /-- The raw margin before clamping. -/
  rawMargin : Nat
  /-- The resulting M. -/
  margin : Nat
  /-- What led to the evaluation. -/
  cause : EvalCause
  /-- The part time at which it was made. -/
  time : Nat
  deriving DecidableEq, Repr

/-- The Margin Unit (R20, R21, R23, R25). -/
structure MarginUnit where
  /-- The eight membership shapes. -/
  shapes : Vector Shape 8
  /-- The eight margin terms. -/
  terms : Vector Term 8
  /-- The current margin M. -/
  margin : Nat
  /-- The record of the last evaluation. -/
  last : Evaluation
  deriving DecidableEq, Repr

/-- The four site parameters (R162). -/
structure SiteParameters where
  /-- Late allowance L. -/
  lateAllowance : Nat
  /-- Margin floor. -/
  marginFloor : Nat
  /-- No-opinion margin. -/
  noOpinion : Nat
  /-- Closing lead. -/
  closingLead : Nat
  deriving DecidableEq, Repr

/-! ### Keyring -/

/-- The state of a bundle record (section 3.1). -/
inductive BundleState where
  | unwrapping
  | waiting
  | live
  | closing
  | expired
  | revoked
  | failed
  deriving DecidableEq, Repr

/-- How a revocation order treats running screenings (section 5.2). -/
inductive RevocationMode where
  | immediate
  | afterScreening
  deriving DecidableEq, Repr

/-- The screens a bundle permits: all, or a list of distinct screens in ascending order (section 3.1). -/
inductive ScreenSet where
  | all
  | only (screens : List LaneNo)
  deriving DecidableEq, Repr

/-- A bundle record (R39).  Its slot is the place it stands in. -/
structure Bundle where
  /-- Bundle id. -/
  bundleId : Ident
  /-- Feature id. -/
  featureId : Ident
  /-- Not-before NB. -/
  notBefore : Nat
  /-- Not-after NA. -/
  notAfter : Nat
  /-- Grace G, clamped. -/
  grace : Nat
  /-- Screening allowance K, clamped. -/
  allowance : Nat
  /-- Screen set, cleaned. -/
  screens : ScreenSet
  /-- Reel count n. -/
  reelCount : Nat
  /-- The pool entries of reels 1 to n, in reel order; empty once the keys are erased. -/
  poolRefs : List PoolNo
  /-- State. -/
  state : BundleState
  /-- State-entry time. -/
  entryTime : Nat
  /-- Use count. -/
  useCount : Nat
  /-- Reels unwrapped. -/
  reelsUnwrapped : Nat
  /-- Revocation mode, while REVOKED and in use. -/
  revocationMode : Option RevocationMode
  /-- The delivered wrapped keys of the reels not yet unwrapped, lowest reel first. -/
  wrappedKeys : List WrappedReelKey
  deriving DecidableEq, Repr

/-- A pool entry that is not free: reserved and empty (`key = none`) or filled with one reel key (R40). -/
structure PoolCell where
  /-- The entry's number. -/
  number : PoolNo
  /-- The reel key, when filled. -/
  key : Option KeyMaterial
  deriving DecidableEq, Repr

/-- The Keyring: its three collections (chapter 3) and the list cursor (R52). -/
structure Keyring where
  /-- The 64 slots, each empty or holding one record (R38). -/
  slots : Vector (Option Bundle) 64
  /-- The pool entries that are not free, numbers strictly rising; every other entry is free (R40). -/
  pool : List PoolCell
  /-- The intake queue, oldest acceptance first (R41). -/
  intakeQueue : List SlotNo
  /-- The list cursor (R52). -/
  listCursor : SlotNo
  deriving DecidableEq, Repr

/-! ### Revocation List -/

/-- Whether an entry bars one bundle or a whole feature (R73). -/
inductive TargetKind where
  | bundle
  | feature
  deriving DecidableEq, Repr

/-- An entry of the revocation list (R73). -/
structure RevocationEntry where
  /-- Target kind. -/
  kind : TargetKind
  /-- The bundle id or feature id barred. -/
  target : Ident
  /-- The entry stands while now is not greater than this. -/
  expires : Nat
  deriving DecidableEq, Repr

/-! ### Screens, lanes and reel slots -/

/-- The state of a screen map entry with what it holds in that state (R101). -/
inductive Binding where
  | unbound
  | binding (unitId : Ident) (wrapped : WrappedLinkKey)
  | bound (unitId : Ident) (linkKey : KeyMaterial)
  deriving DecidableEq, Repr

/-- A screen map entry (R101). -/
structure Screen where
  /-- State, unit and keys. -/
  binding : Binding
  /-- Urgency bias, 0 to 2. -/
  bias : Nat
  deriving DecidableEq, Repr

/-- A position: cycle and reel (R119). -/
structure Position where
  /-- Cycle, from 1. -/
  cycle : Nat
  /-- Reel, from 1. -/
  reel : Nat
  deriving DecidableEq, Repr

/-- What a filled reel slot is doing, with the key it holds where it holds one (R118). -/
inductive SlotPhase where
  | queued
  | unwrapping
  | ready (key : WrappedReelKey)
  | delivered (key : WrappedReelKey)
  deriving DecidableEq, Repr

/-- A reel slot (R118): EMPTY, or holding a position, a needed-by and a phase. -/
inductive ReelSlot where
  | empty
  | holds (position : Position) (neededBy : Nat) (phase : SlotPhase)
  deriving DecidableEq, Repr

/-- The two reel slots of a lane (R118). -/
inductive SlotName where
  | x
  | y
  deriving DecidableEq, Repr

/-- The state of a lane that is not CLOSED (R106). -/
inductive LaneStatus where
  | running
  | stopping
  | ended
  | faulted
  deriving DecidableEq, Repr

/-- Why a screening ended (section 7.2). -/
inductive EndCause where
  | completed
  | stopTime
  | revoked
  | integrity
  deriving DecidableEq, Repr

/-- A pending amendment (R136). -/
structure Amendment where
  /-- New planned end, when present. -/
  plannedEnd : Option Nat
  /-- New repeat total, when present. -/
  repeatTotal : Option Nat
  deriving DecidableEq, Repr

/-- A report entry: one first release of a reel key (R127). -/
structure ReportEntry where
  /-- Cycle and reel released. -/
  position : Position
  /-- Release time. -/
  released : Nat
  /-- The slot's needed-by. -/
  neededBy : Nat
  /-- Lateness. -/
  lateness : Nat
  deriving DecidableEq, Repr

/-- The part of a screening report that the lane record does not already hold (R144): its feature id, bundle id,
start time, end time and end cause are the lane's own. -/
structure Report where
  /-- Release entries, oldest first. -/
  entries : List ReportEntry
  /-- Truncated flag. -/
  truncated : Bool
  /-- Report cursor. -/
  cursor : Nat
  deriving DecidableEq, Repr

/-- A lane's record of one screening, from the open until CLOSE_LANE (section 7.2). -/
structure Screening where
  /-- State. -/
  status : LaneStatus
  /-- Feature id. -/
  featureId : Ident
  /-- Bundle slot. -/
  bundleSlot : SlotNo
  /-- Bundle id. -/
  bundleId : Ident
  /-- Start time. -/
  startTime : Nat
  /-- Planned end E. -/
  plannedEnd : Nat
  /-- Stop time H. -/
  stopTime : Nat
  /-- M_open. -/
  openMargin : Nat
  /-- First reel f. -/
  firstReel : Nat
  /-- Repeat total k. -/
  repeatTotal : Nat
  /-- Current cycle and current reel; the reel is 0 before the first begin (R119). -/
  current : Position
  /-- Reel slot X. -/
  slotX : ReelSlot
  /-- Reel slot Y. -/
  slotY : ReelSlot
  /-- Pending amendment. -/
  amendment : Option Amendment
  /-- Closing-notice flag. -/
  closingNotice : Bool
  /-- End cause and end time, once ENDED or FAULTED. -/
  ending : Option (EndCause × Nat)
  /-- Screening report. -/
  report : Report
  deriving DecidableEq, Repr

/-! ### Unwrap Engine -/

/-- What a job works on (R86, R87). -/
inductive JobItem where
  /-- The intake unwrap of one reel of the bundle in a keyring slot. -/
  | intake (slot : SlotNo) (reel : Nat)
  /-- The rewrap for one reel slot of a lane: the position and needed-by the slot holds. -/
  | rewrap (lane : LaneNo) (slot : SlotName) (position : Position) (neededBy : Nat)
  /-- The bind of one screen entry. -/
  | bind (screen : LaneNo)
  deriving DecidableEq, Repr

/-- A job (R87), and whether it belongs to the pending SYNC's snapshot (R96). -/
structure Job where
  /-- Kind, owner and item. -/
  item : JobItem
  /-- Whether the snapshot holds it. -/
  inSnapshot : Bool
  deriving DecidableEq, Repr

/-- What a job reads at its grant and the engine holds while it is in service (R86): an input is absent only where
the owner holds none. -/
inductive JobInputs where
  | intake (wrapped : Option WrappedReelKey) (identity : Option Fingerprint)
  | rewrap (reelKey : Option KeyMaterial) (linkKey : Option KeyMaterial)
  | bind (wrapped : Option WrappedLinkKey) (identity : Option Fingerprint)
  deriving DecidableEq, Repr

/-- The job in service (section 6.1). -/
structure ServiceJob where
  /-- The job. -/
  job : Job
  /-- The class it was granted at (R89). -/
  jobClass : Nat
  /-- Discard mark (R93). -/
  discard : Bool
  /-- The inputs it read at grant. -/
  inputs : JobInputs
  deriving DecidableEq, Repr

/-- The Unwrap Engine and Arbiter (section 6.1).  It is BUSY exactly while a job is in service (R86); the snapshot is
the set of jobs marked as belonging to it. -/
structure Engine where
  /-- The job in service. -/
  inService : Option ServiceJob
  /-- The queued jobs of every requester, oldest first. -/
  queued : List Job
  /-- The rotation rank of each requester (R91). -/
  ranks : Vector Nat 33
  deriving DecidableEq, Repr

/-! ### Provisioning Store -/

/-- The store state (R166). -/
inductive StoreState where
  | open_
  | final
  deriving DecidableEq, Repr

/-- The provisioning store (R166); a BLANK slot holds no value. -/
structure Store where
  /-- Store state. -/
  state : StoreState
  /-- SERIAL. -/
  serial : Option (BitVec 64)
  /-- SITE. -/
  site : Option (BitVec 16)
  /-- LINE_ADDRESS. -/
  lineAddress : Option Byte
  /-- STATION. -/
  station : Option StationAddress
  /-- AUTHORITY. -/
  authority : Option Fingerprint
  /-- IDENTITY. -/
  identity : Option Fingerprint
  deriving DecidableEq, Repr

/-! ### Message Link -/

/-- A physical port (R149). -/
inductive Port where
  | serial
  | lan
  deriving DecidableEq, Repr

/-- A peer address (chapter 10): the line address of a serial frame or the source station address of a LAN frame. -/
inductive Peer where
  | line (address : Byte)
  | station (address : StationAddress)
  deriving DecidableEq, Repr

/-- An accepted request frame waiting in the receive buffer (R153). -/
structure Request where
  /-- Kind byte. -/
  kind : Byte
  /-- Tag byte. -/
  tag : Byte
  /-- Body. -/
  body : List Byte
  /-- The address the frame came with. -/
  sender : Peer
  deriving DecidableEq, Repr

/-- What a frame on the transmit side is, as far as the link's own rules tell frames apart (R152, R163). -/
inductive FrameRole where
  /-- A reply, SYNC's included. -/
  | reply
  /-- ATTENTION. -/
  | attention
  /-- The OK reply of a valid RESTART. -/
  | restartReply
  deriving DecidableEq, Repr

/-- Where a frame of the controller's goes (R151, R152). -/
inductive Route where
  | serial (address : Byte)
  | lan (destination : StationAddress) (source : StationAddress)
  deriving DecidableEq, Repr

/-- A frame handed to transmit and not yet sent (R152).  Where it goes is settled as its sending begins. -/
structure OutFrame where
  /-- What it is. -/
  role : FrameRole
  /-- Its payload. -/
  payload : List Byte
  deriving DecidableEq, Repr

/-- Where a RESTART stands (R163). -/
inductive RestartPhase where
  /-- No RESTART is being taken. -/
  | idle
  /-- Its reply has been handed to transmit and not yet sent. -/
  | replying
  /-- Its reply has been sent and the restart is to be taken now. -/
  | due
  deriving DecidableEq, Repr

/-- The cause STARTED carries (R157). -/
inductive StartCause where
  | power
  | retainedLost
  | restart
  deriving DecidableEq, Repr

/-- The Message Link's session state (chapter 10, first table), with its transmit side. -/
structure Link where
  /-- Port latch. -/
  latch : Option Port
  /-- Peer address. -/
  peer : Option Peer
  /-- Bytes of an unfinished serial frame, from its start byte on (R150). -/
  serialHeld : List Byte
  /-- Receive buffer, oldest first. -/
  receive : List Request
  /-- Frames handed to transmit and not yet sent, oldest first. -/
  transmit : List OutFrame
  /-- Where the frame now being sent, the oldest on the transmit side, goes; absent while none is being sent. -/
  sending : Option Route
  /-- The pending kinds of each of the 98 subjects. -/
  notices : Vector KindSet 98
  /-- The cause that the last STARTED carries. -/
  startCause : StartCause
  /-- Armed flag. -/
  armed : Bool
  /-- Notice hold. -/
  hold : Bool
  /-- Collection cursor. -/
  cursor : SubjectNo
  /-- The tag of the pending SYNC. -/
  pendingSync : Option Byte
  /-- Where a RESTART stands. -/
  restart : RestartPhase
  deriving DecidableEq, Repr

/-! ### Retained Domain -/

/-- What the power-up check would find of the retained domain's holding (R171). -/
inductive DomainStatus where
  /-- The domain has never been written. -/
  | neverWritten
  /-- It was written whole with its check value and has been held since. -/
  | sound
  /-- The cell failed or was removed while main power was off. -/
  | cellFailed
  /-- Its contents were found not to agree with the check value. -/
  | mismatched
  deriving DecidableEq, Repr

/-- The retained domain itself (R171): what the other blocks keep in it is their own state above, because each event
reaches it whole (R16, R55, R72, R85). -/
structure Domain where
  /-- Whether it is held and sound. -/
  status : DomainStatus
  /-- Battery second count. -/
  batterySeconds : Nat
  deriving DecidableEq, Repr

/-- Which passes a tick has triggered that have not been taken yet (R3 step 4, R82, R125). -/
structure DuePasses where
  /-- The revocation expiry pass. -/
  expiry : Bool
  /-- The Keyring's window sweep. -/
  window : Bool
  /-- The Lane Controller's stop-time sweep. -/
  stopTime : Bool
  deriving DecidableEq, Repr

end Sys2Proof.Machine
end

