-- ==== Sys2Proof/Machine/Bytes.lean ====
section
/-! DEFINITION. Byte order (R175), the CRC of the serial frame, and how frames are found on the two ports (R150,
R151). -/

namespace Sys2Proof.Machine

/-! ### Numbers on the link, most significant byte first (R175) -/

/-- The number a run of bytes spells, most significant byte first. -/
def beNat (bytes : List Byte) : Nat := bytes.foldl (fun n b => 256 * n + b.toNat) 0

/-- The `width` bytes that write a number, most significant byte first. -/
def beBytes : (width : Nat) → (n : Nat) → List Byte
  | 0, _ => []
  | width + 1, n => BitVec.ofNat 8 (n / 256 ^ width) :: beBytes width n

/-- The four bytes of a 32-bit signed number in two's complement (R175). -/
def beInt32 (i : Int) : List Byte := beBytes 4 (BitVec.ofInt 32 i).toNat

/-- The field of `width` bytes at `offset`, as bytes. -/
def fieldBytes (body : List Byte) (offset width : Nat) : List Byte := (body.drop offset).take width

/-- The number in the field of `width` bytes at `offset`. -/
def field (body : List Byte) (offset width : Nat) : Nat := beNat (fieldBytes body offset width)

/-- The opaque value of `8 * width` bits in the field of `width` bytes at `offset`. -/
def fieldBits (body : List Byte) (offset width : Nat) : BitVec (8 * width) := BitVec.ofNat _ (field body offset width)

/-- A flag byte is read as set when it is not 0 (R175). -/
def flagAt (body : List Byte) (offset : Nat) : Bool := field body offset 1 != 0

/-- Bit `bit` of the presence byte at `offset` (R175). -/
def presentAt (body : List Byte) (offset bit : Nat) : Bool := (field body offset 1).testBit bit

/-- A flag as the controller writes it: 1 when set (R175). -/
def flagByte (b : Bool) : Byte := if b then 1 else 0

/-- A one-byte number. -/
def byteOf (n : Nat) : Byte := BitVec.ofNat 8 n

/-! ### Serial frames (R150) -/

/-- The start byte of a serial frame. -/
def startByte : Byte := 0xA5

/-- One bit of the CRC: polynomial x¹⁶ + x¹² + x⁵ + 1, no reflection (R150). -/
def crcBit (c : BitVec 16) : BitVec 16 := if c.msb then (c <<< 1) ^^^ 0x1021 else c <<< 1

/-- One byte of the CRC. -/
def crcByte (c : BitVec 16) (b : Byte) : BitVec 16 := Nat.iterate crcBit 8 (c ^^^ (b.setWidth 16 <<< 8))

/-- The CRC-16 over address, length and payload, initial value 0xFFFF, no final inversion (R150). -/
def crc16 (bytes : List Byte) : BitVec 16 := bytes.foldl crcByte 0xFFFF

/-- A payload length the link takes: 2 to 1,400 (R150, R151). -/
def lengthAllowed (n : Nat) : Bool := decide (2 ≤ n ∧ n ≤ Config.payloadMax)

/-- What the bytes after a start byte make. -/
inductive SerialRead where
  /-- The frame has not ended yet. -/
  | unfinished
  /-- A length out of range or a CRC that does not match. -/
  | bad
  /-- A frame whose checks pass, and the bytes behind it. -/
  | good (address : Byte) (payload rest : List Byte)
  deriving DecidableEq, Repr

/-- Reads the bytes after a start byte: line address, two-byte payload length, payload, two-byte CRC (R150). -/
def readSerial (bytes : List Byte) : SerialRead :=
  if bytes.length < 3 then .unfinished
  else
    let n := field bytes 1 2
    if lengthAllowed n = false then .bad
    else if bytes.length < 5 + n then .unfinished
    else if field bytes (3 + n) 2 = (crc16 (bytes.take (3 + n))).toNat then
      .good (byteOf (field bytes 0 1)) (fieldBytes bytes 3 n) (bytes.drop (5 + n))
    else .bad

/-- The serial address filter: every address while LINE_ADDRESS is BLANK, the written one after (R150). -/
def lineAccepts (slot : Option Byte) (address : Byte) : Bool :=
  match slot with
  | none => true
  | some own => own == address

/-- Hunts for frames in a run of bytes (R150): the frames addressed to the controller, in order, and the bytes of a
frame not yet ended.  After a discard, and after a frame ignored for its address, the hunt resumes at the byte
after the start byte.  With `gap` set, more than 50 ms have passed since the last of the bytes, so a frame not
ended is discarded like a bad one (assumption log, entry 8).  Each turn uses up at least one byte, so `fuel` need
not exceed the number of bytes. -/
def hunt (filter : Option Byte) (gap : Bool) : (fuel : Nat) → List Byte → List (Byte × List Byte) × List Byte
  | 0, bytes => ([], bytes)
  | _ + 1, [] => ([], [])
  | fuel + 1, b :: rest =>
    if b = startByte then
      match readSerial rest with
      | .unfinished => if gap then hunt filter gap fuel rest else ([], b :: rest)
      | .bad => hunt filter gap fuel rest
      | .good address payload behind =>
        if lineAccepts filter address then
          let found := hunt filter gap fuel behind
          ((address, payload) :: found.1, found.2)
        else hunt filter gap fuel rest
    else hunt filter gap fuel rest

/-- The wire bytes of a serial frame (section 12.2). -/
def serialWire (address : Byte) (payload : List Byte) : List Byte :=
  let checked := address :: (beBytes 2 payload.length ++ payload)
  startByte :: (checked ++ beBytes 2 (crc16 checked).toNat)

/-! ### LAN frames (R151) -/

/-- The LAN address filter: every destination while STATION is BLANK, the written one after (R151). -/
def stationAccepts (slot : Option StationAddress) (destination : StationAddress) : Bool :=
  match slot with
  | none => true
  | some own => own == destination

/-- The source address and payload of an Ethernet frame that the link takes, given from its destination address to
its check sequence inclusive (R151): `none` for a frame it discards or ignores. -/
def readLan (slot : Option StationAddress) (bytes : List Byte) (checkPasses : Bool) :
    Option (StationAddress × List Byte) :=
  let n := field bytes 14 2
  if checkPasses = true ∧ 64 ≤ bytes.length ∧ bytes.length ≤ 1518 ∧ field bytes 12 2 = Config.frameType ∧
      lengthAllowed n = true ∧ n ≤ bytes.length - 20 ∧ stationAccepts slot (fieldBits bytes 0 6) = true then
    some (fieldBits bytes 6 6, fieldBytes bytes 16 n)
  else none

/-- The padding of a LAN frame of `n` payload bytes: up to the Ethernet minimum of 64 bytes with the check sequence,
its values open (Config.lanPadding). -/
def lanPad (n : Nat) : List Byte := (List.range (44 - n)).map Config.lanPadding

/-- The bytes of a LAN frame from its destination address to its padding (section 12.2). -/
def lanChecked (destination source : StationAddress) (payload : List Byte) : List Byte :=
  beBytes 6 destination.toNat ++ beBytes 6 source.toNat ++ beBytes 2 Config.frameType ++
    beBytes 2 payload.length ++ payload ++ lanPad payload.length

/-- The bytes of a LAN frame, its 4-byte check sequence the last (section 12.2).  The manual treats the check sequence
as a check that passes or fails (R151), so what it holds is open (Config.lanCheck). -/
def lanWire (destination source : StationAddress) (payload : List Byte) : List Byte :=
  let checked := lanChecked destination source payload
  checked ++ beBytes 4 (Config.lanCheck checked).toNat

/-- The bytes a frame puts on its port when it is sent by a route (section 12.2). -/
def OutFrame.wire (f : OutFrame) (route : Route) : List Byte :=
  match route with
  | .serial address => serialWire address f.payload
  | .lan destination source => lanWire destination source f.payload

end Sys2Proof.Machine
end

