-- ==== Sys2Proof/Machine/Flags.lean ====
section
/-! DEFINITION. Codes and flag bits (chapter 12): request kinds, status codes, enumerated bytes, kind-set bits and
written flags. -/

namespace Sys2Proof.Machine

/-! ### Requests -/

/-- The requests of the part (R154). -/
inductive RequestKind where
  | identify | provisionWrite | provisionFinalize | collect | dismiss | noticeHold | restart | siteParameter
  | timeClaim | clockStatus | setShape | setTerm | marginStatus | deliverBundle | bundleStatus | listBundles
  | deleteBundle | revoke | listRevocations | engineStatus | sync | bindScreen | unbindScreen | setBias
  | openScreening | laneStatus | endScreening | closeLane | fetchReel | reelBegin | amendScreening | fetchReport
  deriving DecidableEq, Repr

/-- The kind byte of a request (section 12.2). -/
def RequestKind.code : RequestKind → Byte
  | .identify => 0x01
  | .provisionWrite => 0x02
  | .provisionFinalize => 0x03
  | .collect => 0x04
  | .dismiss => 0x05
  | .noticeHold => 0x06
  | .restart => 0x07
  | .siteParameter => 0x08
  | .timeClaim => 0x09
  | .clockStatus => 0x0A
  | .setShape => 0x0B
  | .setTerm => 0x0C
  | .marginStatus => 0x0D
  | .deliverBundle => 0x0E
  | .bundleStatus => 0x0F
  | .listBundles => 0x10
  | .revoke => 0x11
  | .listRevocations => 0x12
  | .engineStatus => 0x13
  | .sync => 0x14
  | .bindScreen => 0x15
  | .unbindScreen => 0x16
  | .setBias => 0x17
  | .openScreening => 0x18
  | .laneStatus => 0x19
  | .endScreening => 0x1A
  | .closeLane => 0x1B
  | .fetchReel => 0x1C
  | .reelBegin => 0x1D
  | .amendScreening => 0x1E
  | .fetchReport => 0x1F
  | .deleteBundle => 0x21

/-- Whether a kind byte is a request kind: 0x01 to 0x1F and 0x21 (section 12.2). -/
def kindKnown (kind : Byte) : Bool :=
  decide ((0x01 ≤ kind.toNat ∧ kind.toNat ≤ 0x1F) ∨ kind.toNat = 0x21)

/-- The requests served before the provisioning store is FINAL (R154). -/
def RequestKind.servedBeforeFinal : RequestKind → Bool
  | .identify | .provisionWrite | .provisionFinalize | .collect | .dismiss | .noticeHold | .restart => true
  | _ => false

/-- A reply's kind byte: the request's with its top bit set (R154). -/
def replyKind (kind : Byte) : Byte := kind ||| 0x80

/-- ATTENTION's payload: its own kind and tag 0 (R154). -/
def attentionPayload : List Byte := [0x7F, 0x00]

/-! ### Status codes -/

/-- The status of a reply (R156). -/
inductive Status where
  | ok | badRequest | unknownKind | busy | notProvisioned | final | alreadyWritten | incomplete | clockUnset
  | integrity | revoked | duplicate | featureFull | keyringFull | poolFull | expired | noSuch | inUse | listFull
  | laneBusy | screenUnbound | windowNotOpen | windowClosed | screenNotPermitted | runTooLong | concurrencyFull
  | notRunning | notEnded | notReady | notDelivered | outOfSequence
  deriving DecidableEq, Repr

/-- The status byte (section 12.2). -/
def Status.code : Status → Byte
  | .ok => 0x00
  | .badRequest => 0x01
  | .unknownKind => 0x02
  | .busy => 0x03
  | .notProvisioned => 0x04
  | .final => 0x05
  | .alreadyWritten => 0x06
  | .incomplete => 0x07
  | .clockUnset => 0x08
  | .integrity => 0x09
  | .revoked => 0x0A
  | .duplicate => 0x0B
  | .featureFull => 0x0C
  | .keyringFull => 0x0D
  | .poolFull => 0x0E
  | .expired => 0x0F
  | .noSuch => 0x10
  | .inUse => 0x11
  | .listFull => 0x12
  | .laneBusy => 0x13
  | .screenUnbound => 0x14
  | .windowNotOpen => 0x15
  | .windowClosed => 0x16
  | .screenNotPermitted => 0x17
  | .runTooLong => 0x18
  | .concurrencyFull => 0x19
  | .notRunning => 0x1A
  | .notEnded => 0x1B
  | .notReady => 0x1C
  | .notDelivered => 0x1D
  | .outOfSequence => 0x1E

/-! ### Enumerated bytes -/

/-- The clock state byte (section 12.3). -/
def ClockState.code : ClockState → Byte
  | .unset => 1
  | .running => 2

/-- The input byte of a shape (section 12.4). -/
def ShapeInput.code : ShapeInput → Byte
  | .x1 => 1
  | .x2 => 2

/-- The combinator byte of a stored term: 0 none, 1 AND, 2 OR (section 12.5). -/
def combinatorCode : Option Combinator → Byte
  | none => 0
  | some .and => 1
  | some .or => 2

/-- The evaluation cause byte, 1 STALENESS to 7 RETAINED_LOSS (section 12.5). -/
def EvalCause.code : EvalCause → Byte
  | .staleness => 1
  | .claim => 2
  | .shape => 3
  | .term => 4
  | .parameter => 5
  | .powerUp => 6
  | .retainedLoss => 7

/-- The bundle state byte (section 12.5). -/
def BundleState.code : BundleState → Byte
  | .unwrapping => 1
  | .waiting => 2
  | .live => 3
  | .closing => 4
  | .expired => 5
  | .revoked => 6
  | .failed => 7

/-- The revocation mode byte of a status record: 0 absent (section 12.5). -/
def revocationModeCode : Option RevocationMode → Byte
  | none => 0
  | some .immediate => 1
  | some .afterScreening => 2

/-- The target kind byte (section 12.3). -/
def TargetKind.code : TargetKind → Byte
  | .bundle => 1
  | .feature => 2

/-- The screen state byte (section 12.5). -/
def Binding.code : Binding → Byte
  | .unbound => 1
  | .binding _ _ => 2
  | .bound _ _ => 3

/-- The lane state byte (section 12.5); CLOSED is 1. -/
def LaneStatus.code : LaneStatus → Byte
  | .running => 2
  | .stopping => 3
  | .ended => 4
  | .faulted => 5

/-- The end cause byte (section 12.5). -/
def EndCause.code : EndCause → Byte
  | .completed => 1
  | .stopTime => 2
  | .revoked => 3
  | .integrity => 4

/-- The reel slot state byte (section 12.5); EMPTY is 0. -/
def SlotPhase.code : SlotPhase → Byte
  | .queued => 1
  | .unwrapping => 2
  | .ready _ => 3
  | .delivered _ => 4

/-- The job kind byte (section 12.5). -/
def JobItem.code : JobItem → Byte
  | .intake _ _ => 1
  | .rewrap _ _ _ _ => 2
  | .bind _ => 3

/-- The store state byte (section 12.5). -/
def StoreState.code : StoreState → Byte
  | .open_ => 1
  | .final => 2

/-- The cause byte of a notice item (R176). -/
def StartCause.code : StartCause → Byte
  | .power => 1
  | .retainedLost => 2
  | .restart => 3

/-! ### Notices -/

/-- A notice: its subject and its kind (R157). -/
inductive Notice where
  | started
  | linkOverrun
  | clockClamped
  | marginChanged
  | reelReady (lane : LaneNo)
  | windowClosing (lane : LaneNo)
  | laneEnded (lane : LaneNo)
  | laneFaulted (lane : LaneNo)
  | bindFailed (lane : LaneNo)
  | bundleReady (slot : SlotNo)
  | bundleLive (slot : SlotNo)
  | bundleClosing (slot : SlotNo)
  | bundleExpired (slot : SlotNo)
  | bundleFailed (slot : SlotNo)
  deriving DecidableEq, Repr

/-- The link subject (R157). -/
def linkSubject : SubjectNo := 0

/-- The clock subject (R157). -/
def clockSubject : SubjectNo := 1

/-- A lane's subject: 2 to 33 for lanes 1 to 32 (section 12.5). -/
def laneSubject (lane : LaneNo) : SubjectNo := ⟨2 + lane.val, by omega⟩

/-- A keyring slot's subject: 34 to 97 for slots 0 to 63 (section 12.5). -/
def slotSubject (slot : SlotNo) : SubjectNo := ⟨34 + slot.val, by omega⟩

/-- The subject a notice is posted under. -/
def Notice.subject : Notice → SubjectNo
  | .started | .linkOverrun => linkSubject
  | .clockClamped | .marginChanged => clockSubject
  | .reelReady l | .windowClosing l | .laneEnded l | .laneFaulted l | .bindFailed l => laneSubject l
  | .bundleReady s | .bundleLive s | .bundleClosing s | .bundleExpired s | .bundleFailed s => slotSubject s

/-- The notice's bit of its subject's kind set (section 12.5). -/
def Notice.kindBit : Notice → KindSet
  | .started | .clockClamped | .reelReady _ | .bundleReady _ => 0b00001
  | .linkOverrun | .marginChanged | .windowClosing _ | .bundleLive _ => 0b00010
  | .laneEnded _ | .bundleClosing _ => 0b00100
  | .laneFaulted _ | .bundleExpired _ => 0b01000
  | .bindFailed _ | .bundleFailed _ => 0b10000

/-- The kinds a subject takes: two for the link and the clock, five for the others (R157). -/
def subjectKinds (subject : SubjectNo) : KindSet := if subject.val < 2 then 0b00011 else 0b11111

/-! ### Written flags -/

/-- The written flags of the six slots, bit 0 SERIAL to bit 5 IDENTITY (section 12.5). -/
def Store.writtenFlags (st : Store) : Byte :=
  (if st.serial.isSome then 0b000001 else 0) ||| (if st.site.isSome then 0b000010 else 0) |||
  (if st.lineAddress.isSome then 0b000100 else 0) ||| (if st.station.isSome then 0b001000 else 0) |||
  (if st.authority.isSome then 0b010000 else 0) ||| (if st.identity.isSome then 0b100000 else 0)

/-- Whether all six slots are WRITTEN (R168). -/
def Store.complete (st : Store) : Bool :=
  st.serial.isSome && st.site.isSome && st.lineAddress.isSome && st.station.isSome && st.authority.isSome &&
    st.identity.isSome

end Sys2Proof.Machine
end

