-- ==== Sys2Proof/Machine/MarginEval.lean ====
section
/-! DEFINITION. The arithmetic of one margin evaluation (R22 to R28), and the values the blocks take at retained loss
(R18, R36, R57, R85, R117, R162). -/

namespace Sys2Proof.Machine

/-- A vector given entry by entry. -/
def tabulate {α : Type} {n : Nat} (f : Fin n → α) : Vector α n := ⟨⟨List.ofFn f⟩, by simp⟩

/-! ### Grades, weights and the average -/

/-- The grade of an in-use shape for input `x`: the first case of R24 that applies. -/
def Shape.gradeAt (s : Shape) (x : Nat) : Nat :=
  if x = s.centre then Config.gradeMax
  else if x < s.centre then
    if s.leftShoulder then Config.gradeMax
    else if s.leftSpread = 0 ∨ s.leftSpread ≤ s.centre - x then 0
    else Config.gradeMax * (s.leftSpread - (s.centre - x)) / s.leftSpread
  else
    if s.rightShoulder then Config.gradeMax
    else if s.rightSpread = 0 ∨ s.rightSpread ≤ x - s.centre then 0
    else Config.gradeMax * (s.rightSpread - (x - s.centre)) / s.rightSpread

/-- The grade an evaluation records: 0 for a shape not in use, which is not computed (R23). -/
def Shape.grade (s : Shape) (x1 x2 : Nat) : Nat :=
  if s.inUse then s.gradeAt (match s.input with | .x1 => x1 | .x2 => x2) else 0

/-- An antecedent's value: the grade of its shape, or 255 less it (R26 step 2). -/
def Antecedent.value (a : Antecedent) (grades : Vector Nat 8) : Nat :=
  if a.negate then Config.gradeMax - grades[a.shape] else grades[a.shape]

/-- The weight of a term (R26): 0 for a term not in use, and 0 when a shape it names is not in use. -/
def Term.weight (t : Term) (shapes : Vector Shape 8) (grades : Vector Nat 8) : Nat :=
  if t.inUse = false then 0
  else if shapes[t.a.shape].inUse = false then 0
  else
    match t.b with
    | none => t.a.value grades
    | some (b, combinator) =>
      if shapes[b.shape].inUse = false then 0
      else
        match combinator with
        | .and => min (t.a.value grades) (b.value grades)
        | .or => max (t.a.value grades) (b.value grades)

/-- The sum of `f` over table entries 0 to 7. -/
def sumTable (f : TableNo → Nat) : Nat := ((List.finRange 8).map f).sum

/-- M from the raw margin: clamped from the margin floor to 3,600 (R27). -/
def clampMargin (floor raw : Nat) : Nat := min Config.marginMax (max floor raw)

/-- One complete pass over the tables (R28), as the record of R21. -/
def evaluation (shapes : Vector Shape 8) (terms : Vector Term 8) (params : SiteParameters) (x1 x2 : Nat)
    (cause : EvalCause) (time : Nat) : Evaluation :=
  let grades := tabulate fun i : TableNo => shapes[i].grade x1 x2
  let weights := tabulate fun i : TableNo => terms[i].weight shapes grades
  let weightSum := sumTable fun i => weights[i]
  let productSum := sumTable fun i => weights[i] * terms[i].proposed
  let rawMargin := if weightSum = 0 then params.noOpinion else productSum / weightSum
  { x1, x2, grades, weights, weightSum, productSum
    usedNoOpinion := decide (weightSum = 0)
    rawMargin
    margin := clampMargin params.marginFloor rawMargin
    cause, time }

/-! ### Values at retained loss -/

/-- The Part Clock after retained loss (R18). -/
def Clock.afterLoss : Clock :=
  { state := .unset, now := 0, allowance := 0, residual := 0, staleness := Config.stalenessMax
    minuteCountdown := Config.minuteTicks, replenishCountdown := Config.replenishTicks }

/-- The site parameters' defaults (R162). -/
def SiteParameters.default : SiteParameters :=
  { lateAllowance := 1200, marginFloor := 0, noOpinion := 1800, closingLead := 600 }

/-- A shape not in use, as the default table has it (R36). -/
def Shape.unused : Shape :=
  { inUse := false, input := .x1, centre := 0, leftSpread := 0, rightSpread := 0, leftShoulder := false
    rightShoulder := false }

/-- The default shapes (R36): settled, drifting, lost, fresh, stale, and three not in use. -/
def defaultShapes : Vector Shape 8 :=
  #v[{ inUse := true, input := .x1, centre := 0, leftSpread := 0, rightSpread := 30, leftShoulder := true
       rightShoulder := false },
     { inUse := true, input := .x1, centre := 60, leftSpread := 50, rightSpread := 120, leftShoulder := false
       rightShoulder := false },
     { inUse := true, input := .x1, centre := 300, leftSpread := 200, rightSpread := 0, leftShoulder := false
       rightShoulder := true },
     { inUse := true, input := .x2, centre := 0, leftSpread := 0, rightSpread := 720, leftShoulder := true
       rightShoulder := false },
     { inUse := true, input := .x2, centre := 2880, leftSpread := 2160, rightSpread := 0, leftShoulder := false
       rightShoulder := true },
     Shape.unused, Shape.unused, Shape.unused]

/-- A term not in use, as the default table has it (R36). -/
def Term.unused : Term := { inUse := false, a := { shape := 0, negate := false }, b := none, proposed := 0 }

/-- The default terms (R36). -/
def defaultTerms : Vector Term 8 :=
  #v[{ inUse := true, a := { shape := 0, negate := false }
       b := some ({ shape := 3, negate := false }, .and), proposed := 0 },
     { inUse := true, a := { shape := 1, negate := false }
       b := some ({ shape := 4, negate := false }, .or), proposed := 300 },
     { inUse := true, a := { shape := 2, negate := false }, b := none, proposed := 1800 },
     { inUse := true, a := { shape := 4, negate := false }
       b := some ({ shape := 0, negate := true }, .and), proposed := 900 },
     Term.unused, Term.unused, Term.unused, Term.unused]

/-- The RETAINED_LOSS evaluation (R36): default tables and parameters, x1 = 0, x2 = 65,535. -/
def evaluationAfterLoss : Evaluation :=
  evaluation defaultShapes defaultTerms .default 0 Config.stalenessMax .retainedLoss 0

/-- The Margin Unit after retained loss (R36). -/
def MarginUnit.afterLoss : MarginUnit :=
  { shapes := defaultShapes, terms := defaultTerms, margin := evaluationAfterLoss.margin
    last := evaluationAfterLoss }

/-- The Keyring after retained loss: empty, the pool free (R57). -/
def Keyring.empty : Keyring :=
  { slots := Vector.replicate 64 none, pool := [], intakeQueue := [], listCursor := 0 }

/-- A screen map entry after retained loss: UNBOUND with bias 0 (R117). -/
def Screen.afterLoss : Screen := { binding := .unbound, bias := 0 }

/-- The screen map after retained loss (R117). -/
def screensAfterLoss : Vector Screen 32 := Vector.replicate 32 .afterLoss

/-! ### Values at every start-up -/

/-- The ranks at every reset: requester i takes rank i (R91). -/
def identityRanks : Vector Nat 33 := tabulate fun i : RequesterNo => i.val

/-- The engine at power-up: IDLE, no queued job, ranks by number (R99). -/
def Engine.idle : Engine := { inService := none, queued := [], ranks := identityRanks }

/-- The lanes at every start: all CLOSED, with no slots and no report (R117). -/
def lanesClosed : Vector (Option Screening) 32 := Vector.replicate 32 none

/-- The notice set just after a start: STARTED alone under the link subject (R163, R164). -/
def noticesStarted : Vector KindSet 98 := (Vector.replicate 98 (0 : KindSet)).set 0 0b00001

/-- The Message Link's state at power-up (R164). -/
def Link.atPowerUp (cause : StartCause) : Link :=
  { latch := none, peer := none, serialHeld := [], receive := [], transmit := [], sending := none
    notices := noticesStarted, startCause := cause, armed := true, hold := false, cursor := 0, pendingSync := none, restart := .idle }

/-- No pass is due. -/
def DuePasses.none : DuePasses := { expiry := false, window := false, stopTime := false }

/-- The retained domain just after it was written whole with a battery count of 0 (R174). -/
def Domain.written : Domain := { status := .sound, batterySeconds := 0 }

/-- The provisioning store as it leaves the factory: SERIAL written, the rest BLANK, OPEN (R166).  The serial number
itself is the model's choice (assumption log, entry 2). -/
def Store.fromFactory : Store :=
  { state := .open_, serial := some 0, site := none, lineAddress := none, station := none, authority := none
    identity := none }

end Sys2Proof.Machine
end

