-- ==== Sys2Proof/Machine/State.lean ====
section
/-! DEFINITION. The state of the controller, why a step can stop, and the state right after reset. -/

namespace Sys2Proof.Machine

/-- The controller: the state of its nine blocks (00_scope, "Blocks of the controller"), whether main power is on,
the passes a tick has made due, and the commands waiting to be taken. -/
structure State where
  /-- Whether main power is on and the controller has begun operation (section 11.6). -/
  powered : Bool
  /-- The retained domain's own state (R171). -/
  domain : Domain
  /-- The Part Clock. -/
  clock : Clock
  /-- The Margin Unit. -/
  margin : MarginUnit
  /-- The site parameters (R162). -/
  params : SiteParameters
  /-- The Keyring. -/
  keyring : Keyring
  /-- The revocation list, oldest arrival first (R73). -/
  revocations : List RevocationEntry
  /-- The Unwrap Engine and Arbiter. -/
  engine : Engine
  /-- The screen map: the entry of each screen (R101). -/
  screens : Vector Screen 32
  /-- The lanes: `none` is a CLOSED lane (R106). -/
  lanes : Vector (Option Screening) 32
  /-- The Provisioning Store. -/
  store : Store
  /-- The Message Link. -/
  link : Link
  /-- Passes triggered by a tick and not yet taken. -/
  due : DuePasses
  /-- Commands waiting, first in, first out.  The model's own field: the block's input. -/
  pending : List Instr
  deriving DecidableEq, Repr

/-- Why a step stops with a fault.  The manual gives the controller no fault that stops it: every check that fails
gives a reply, and every failing job has an effect.  So there is no constructor, and no step faults. -/
inductive Fault where
  deriving DecidableEq, Repr

/-- Why a step has no meaning. -/
inductive Refusal where
  /-- Raised by `exec` for a command that has no meaning in the model, named by its mnemonic.  Safe: the model stops
  where the hardware goes on.  No arm raises it. -/
  | notModelled (mnemonic : String)
  deriving DecidableEq, Repr

/-- The controller right after its first power-up, on the retained-loss path, a new part from the factory (R174,
R166; assumption log, entries 1 and 2): every block at its retained-loss values, STARTED pending with cause
RETAINED_LOST, the ports receiving. -/
def State.reset : State :=
  { powered := true
    domain := .written
    clock := .afterLoss
    margin := .afterLoss
    params := .default
    keyring := .empty
    revocations := []
    engine := .idle
    screens := screensAfterLoss
    lanes := lanesClosed
    store := .fromFactory
    link := .atPowerUp .retainedLost
    due := .none
    pending := [] }

end Sys2Proof.Machine
end

