-- ==== Sys2Proof/Machine/Ops.lean ====
section
/-! DEFINITION. The Message Link's shared operations: handing frames to transmit, posting notices, ATTENTION,
accepting a frame, and serving the oldest request (chapter 10). -/

namespace Sys2Proof.Machine

/-! ### The transmit side (R152) -/

/-- Where a frame to `peer` goes whose sending begins now: on the latched port (R152), from the written station address
or the blank one on the LAN (R151).  `none` while no port is latched. -/
def State.route (s : State) (peer : Option Peer) : Option Route :=
  match s.link.latch, peer with
  | some .serial, some (.line address) => some (.serial address)
  | some .lan, some (.station address) => some (.lan address (s.store.station.getD Config.blankStation))
  | _, _ => none

/-- Where the frame being sent goes once a frame for `route` has been handed to a transmit side that held `waiting`: a
frame handed behind others waits, and its sending begins at once otherwise, but not while a RESTART is to be taken
(R152, R163; assumption log, entry 9). -/
def sendingAfter (waiting : List OutFrame) (restart : RestartPhase) (sending : Option Route) (route : Route) :
    Option Route :=
  if waiting.isEmpty && restart != .due then some route else sending

/-- Hands a frame to transmit, behind every frame handed before it (R152). -/
def handFrame (role : FrameRole) (payload : List Byte) (s : State) : State :=
  match s.route s.link.peer with
  | none => s
  | some route =>
    { s with
      link :=
        { s.link with
          transmit := s.link.transmit ++ [{ role, payload }]
          sending := sendingAfter s.link.transmit s.link.restart s.link.sending route } }

/-- Hands a served request's reply to transmit at the end of its event: behind the frames already handed, and ahead
of an ATTENTION that the event itself has brought about (R152).  Its sending begins at once, to `peer`, unless the
event has released a SYNC, whose reply is then being sent. -/
def handReply (role : FrameRole) (peer : Option Peer) (payload : List Byte) (s : State) : State :=
  match s.route peer with
  | none => s
  | some route =>
    { s with
      link :=
        { s.link with
          transmit :=
            s.link.transmit.filter (fun f => f.role != .attention) ++ [{ role, payload }] ++
              s.link.transmit.filter (fun f => f.role == .attention)
          sending := sendingAfter s.link.transmit s.link.restart s.link.sending route } }

/-- A reply's payload: the request's kind with its top bit set, its tag, a status byte and a body (R154). -/
def replyPayload (kind tag : Byte) (status : Status) (body : List Byte) : List Byte :=
  replyKind kind :: tag :: status.code :: body

/-- Answers a served request. -/
def answer (r : Request) (status : Status) (body : List Byte) (s : State) : State :=
  handReply .reply s.link.peer (replyPayload r.kind r.tag status body) s

/-! ### Notices (R157) and ATTENTION (R160) -/

/-- Whether no kind is pending under any subject. -/
def noticesEmpty (notices : Vector KindSet 98) : Bool := (List.finRange 98).all fun i => notices[i] == 0

/-- The four things that must hold together for ATTENTION (R160). -/
def attentionHolds (s : State) : Bool :=
  s.link.latch.isSome && !noticesEmpty s.link.notices && s.link.armed && !s.link.hold

/-- Judges the ATTENTION condition: when it holds, one ATTENTION is handed and the armed flag cleared in the same
step (R160). -/
def judgeAttention (s : State) : State :=
  if attentionHolds s then
    handFrame .attention attentionPayload { s with link := { s.link with armed := false } }
  else s

/-- Adds a notice to the set, where it merges with one already pending (R157). -/
def addNotice (n : Notice) (s : State) : State :=
  { s with
    link :=
      { s.link with
        notices := s.link.notices.set n.subject (s.link.notices[n.subject] ||| n.kindBit) } }

/-- Posts a notice; a post that makes the set non-empty brings the ATTENTION condition to be judged (R157). -/
def post (n : Notice) (s : State) : State :=
  if noticesEmpty s.link.notices then judgeAttention (addNotice n s) else addNotice n s

/-- Sets the armed flag when a COLLECT or DISMISS has left the set empty (R158, R159).  The condition of R160 then
fails at once, so nothing is handed. -/
def armWhenEmpty (s : State) : State :=
  if noticesEmpty s.link.notices then judgeAttention { s with link := { s.link with armed := true } } else s

/-! ### Reception (R149, R153) -/

/-- Puts an accepted frame into the receive buffer, or discards it with LINK_OVERRUN when 4 frames wait (R153). -/
def bufferRequest (r : Request) (s : State) : State :=
  if s.link.receive.length < Config.receiveRoom then
    { s with link := { s.link with receive := s.link.receive ++ [r] } }
  else post .linkOverrun s

/-- Takes a frame that has passed its port's reception rule: it latches the port if none is latched, its address
becomes the peer address, it joins the receive buffer, and the latch brings the ATTENTION condition to be judged
(R149, R152). -/
def acceptFrame (port : Port) (sender : Peer) (payload : List Byte) (s : State) : State :=
  match payload with
  | kind :: tag :: body =>
    let opened := { s with link := { s.link with latch := some port, peer := some sender } }
    let buffered := bufferRequest { kind, tag, body, sender } opened
    if s.link.latch.isNone then judgeAttention buffered else buffered
  | _ => s

/-- Whether a frame that arrives on a port is judged at all: the ports receive, and the other port is not latched
(R149). -/
def portHeard (port : Port) (s : State) : Bool :=
  s.powered && (s.link.latch == none || s.link.latch == some port)

/-- Takes the frames that a hunt has found on the serial line, in order, and keeps the bytes of a frame not yet
ended. -/
def takeSerial (found : List (Byte × List Byte) × List Byte) (s : State) : State :=
  found.1.foldl (fun s f => acceptFrame .serial (.line f.1) f.2 s)
    { s with link := { s.link with serialHeld := found.2 } }

/-! ### Service (R154) -/

/-- Whether the link takes the next request: every frame handed to transmit has been sent (R152), and no RESTART is
being taken (R163). -/
def canServe (s : State) : Bool := s.powered && s.link.transmit.isEmpty && s.link.restart == .idle

/-- The state with the oldest frame taken from the receive buffer. -/
def withoutOldest (s : State) : State := { s with link := { s.link with receive := s.link.receive.tail } }

/-- Serves the oldest request when it is of kind `k`: takes it from the buffer, refuses it with NOT_PROVISIONED
before the store is FINAL unless it is served then, and otherwise hands it to its block (R154).  The command has no
effect when the link cannot serve such a request now (assumption log, entry 3). -/
def serve (k : RequestKind) (act : Request → State → State) (s : State) : State :=
  if canServe s then
    match s.link.receive with
    | [] => s
    | r :: _ =>
      if r.kind = k.code then
        if k.servedBeforeFinal || s.store.state == .final then act r (withoutOldest s)
        else answer r .notProvisioned [] (withoutOldest s)
      else s
  else s

/-- Serves a request that carries no body; one with a body is refused with BAD_REQUEST (R175). -/
def serveBare (k : RequestKind) (act : Request → State → State) (s : State) : State :=
  serve k (fun r s => if r.body = [] then act r s else answer r .badRequest [] s) s

/-- Serves a request whose body is read by `parse`; a malformed body is refused with BAD_REQUEST (R175). -/
def serveWith {α : Type} (k : RequestKind) (parse : List Byte → Option α) (act : α → Request → State → State)
    (s : State) : State :=
  serve k
    (fun r s =>
      match parse r.body with
      | none => answer r .badRequest [] s
      | some fields => act fields r s)
    s

/-! ### Numbers -/

/-- A result that goes into a 32-bit part-time field is clamped to 0 through 4,294,967,295 (00_scope,
"Arithmetic"). -/
def clampTime (t : Int) : Nat := min t.toNat Config.timeMax

/-- A value clamped to a range. -/
def clampTo (low high n : Nat) : Nat := min high (max low n)

end Sys2Proof.Machine
end

