-- ==== Sys2Proof/Machine/EngineOps.lean ====
section
/-! DEFINITION. The Unwrap Engine's shared operations: jobs, requesters, classes, the grant, discarding and
withdrawing, and SYNC's snapshot (chapter 6); and the access to lanes and reel slots that they need. -/

namespace Sys2Proof.Machine

/-! ### Lanes and reel slots -/

/-- The slot of a name. -/
def Screening.slot (sc : Screening) : SlotName → ReelSlot
  | .x => sc.slotX
  | .y => sc.slotY

/-- A screening with one slot replaced. -/
def Screening.withSlot (sc : Screening) (n : SlotName) (slot : ReelSlot) : Screening :=
  match n with
  | .x => { sc with slotX := slot }
  | .y => { sc with slotY := slot }

/-- A state with one lane's record replaced. -/
def setLane (l : LaneNo) (sc : Option Screening) (s : State) : State := { s with lanes := s.lanes.set l sc }

/-- Changes a lane's record where the lane is not CLOSED. -/
def modifyLane (l : LaneNo) (f : Screening → Screening) (s : State) : State :=
  match s.lanes[l] with
  | none => s
  | some sc => setLane l (some (f sc)) s

/-- Whether a lane is RUNNING. -/
def laneRunning (l : LaneNo) (s : State) : Bool :=
  match s.lanes[l] with
  | some sc => sc.status == .running
  | none => false

/-! ### Requesters and presented jobs (R88) -/

/-- The requester of a lane: requester `i` is lane `i` (R88). -/
def laneRequester (l : LaneNo) : RequesterNo := ⟨l.val + 1, by omega⟩

/-- The requester a job belongs to (R88). -/
def JobItem.requester : JobItem → RequesterNo
  | .intake _ _ => 0
  | .rewrap l _ _ _ => laneRequester l
  | .bind l => laneRequester l

/-- Whether the entry's state is BINDING. -/
def Binding.isBinding : Binding → Bool
  | .binding _ _ => true
  | _ => false

/-- Whether its requester's state lets a queued job be presented: a rewrap in RUNNING, a bind on a CLOSED lane whose
entry is BINDING (R88). -/
def mayPresent (s : State) (j : Job) : Bool :=
  match j.item with
  | .intake _ _ => true
  | .rewrap l _ _ _ => laneRunning l s
  | .bind l => s.lanes[l].isNone && s.screens[l].binding.isBinding

/-- Whether position `p` comes before `q`: by cycle first and reel second (R119). -/
def Position.before (p q : Position) : Bool :=
  decide (p.cycle < q.cycle ∨ (p.cycle = q.cycle ∧ p.reel < q.reel))

/-- Whether a lane presents job `a` ahead of job `b`: by needed-by, and among equal needed-by by position (R88). -/
def JobItem.ahead : JobItem → JobItem → Bool
  | .rewrap _ _ p n, .rewrap _ _ q m => decide (n < m) || (decide (n = m) && p.before q)
  | _, _ => false

/-- The job a requester presents, chosen afresh each time the arbiter reads it (R88). -/
def presented (s : State) (r : RequesterNo) : Option Job :=
  (s.engine.queued.filter fun j => j.item.requester == r && mayPresent s j).foldl
    (fun best j =>
      match best with
      | none => some j
      | some b => if j.item.ahead b.item then some j else some b)
    none

/-! ### Class (R89) -/

/-- The base class of a rewrap job from t = needed-by − now (R89). -/
def baseClass (t : Int) : Nat := if t ≤ 30 then 3 else if t ≤ 120 then 2 else if t ≤ 600 then 1 else 0

/-- The class of a job at a grant made now (R89). -/
def jobClass (s : State) (i : JobItem) : Nat :=
  match i with
  | .rewrap l _ _ neededBy => min 3 (baseClass ((neededBy : Int) - s.clock.now) + s.screens[l].bias)
  | .intake _ _ => 1
  | .bind _ => 1

/-! ### Grant (R90, R91) -/

/-- The rank step of a grant to `winner` (R91). -/
def rankStep (ranks : Vector Nat 33) (winner : RequesterNo) : Vector Nat 33 :=
  tabulate fun r : RequesterNo =>
    if r = winner then 0 else if ranks[r] < ranks[winner] then ranks[r] + 1 else ranks[r]

/-- The requester and job a grant would take: the highest class, and among equals the highest rank (R90). -/
def grantChoice (s : State) : Option (RequesterNo × Job) :=
  (List.finRange 33).foldl
    (fun best r =>
      match presented s r with
      | none => best
      | some j =>
        match best with
        | none => some (r, j)
        | some (q, k) =>
          if jobClass s k.item < jobClass s j.item ∨
              (jobClass s k.item = jobClass s j.item ∧ s.engine.ranks[q] < s.engine.ranks[r]) then some (r, j)
          else some (q, k))
    none

/-- The key that fills a pool entry. -/
def poolKey (pool : List PoolCell) (number : PoolNo) : Option KeyMaterial :=
  (pool.find? fun c => c.number == number).bind (·.key)

/-- The reel key in the pool entry that the bundle in a slot reserved for a reel (R121). -/
def reelKey (k : Keyring) (slot : SlotNo) (reel : Nat) : Option KeyMaterial :=
  (k.slots[slot].bind fun b => b.poolRefs[reel - 1]?).bind (poolKey k.pool)

/-- What a job reads at its grant (R86). -/
def readInputs (s : State) : JobItem → JobInputs
  | .intake slot _ => .intake (s.keyring.slots[slot].bind fun b => b.wrappedKeys.head?) s.store.identity
  | .rewrap l _ p _ =>
    .rewrap (s.lanes[l].bind fun sc => reelKey s.keyring sc.bundleSlot p.reel)
      (match s.screens[l].binding with
        | .bound _ key => some key
        | _ => none)
  | .bind l =>
    .bind
      (match s.screens[l].binding with
        | .binding _ wrapped => some wrapped
        | _ => none)
      s.store.identity

/-- A QUEUED slot becomes UNWRAPPING at its job's grant (R121). -/
def ReelSlot.granted : ReelSlot → ReelSlot
  | .holds p n .queued => .holds p n .unwrapping
  | slot => slot

/-- The granted job's item enters service: a reel slot becomes UNWRAPPING, an intake bundle and a screen entry keep
their states (R90). -/
def enterService (i : JobItem) (s : State) : State :=
  match i with
  | .rewrap l n _ _ => modifyLane l (fun sc => sc.withSlot n (sc.slot n).granted) s
  | _ => s

/-- Makes a grant if the engine is IDLE and a requester is presenting (R90). -/
def grant (s : State) : State :=
  if s.engine.inService.isSome then s
  else
    match grantChoice s with
    | none => s
    | some (r, j) =>
      let service : ServiceJob :=
        { job := j, jobClass := jobClass s j.item, discard := false, inputs := readInputs s j.item }
      let entered := enterService j.item s
      { entered with
        engine :=
          { inService := some service, queued := s.engine.queued.erase j, ranks := rankStep s.engine.ranks r } }

/-- Creates a job, queued at its requester (R87). -/
def createJob (i : JobItem) (s : State) : State :=
  { s with engine := { s.engine with queued := s.engine.queued ++ [{ item := i, inSnapshot := false }] } }

/-! ### SYNC's snapshot (R96, R97) -/

/-- How many jobs of the snapshot have neither completed nor been withdrawn. -/
def snapshotLeft (e : Engine) : Nat :=
  (e.queued.countP fun j => j.inSnapshot) +
    match e.inService with
    | some j => if j.job.inSnapshot then 1 else 0
    | none => 0

/-- Releases the pending SYNC once the last job has left its snapshot: its reply, OK with no body, is handed to
transmit at that moment (R97, R155). -/
def releaseSync (s : State) : State :=
  match s.link.pendingSync with
  | none => s
  | some tag =>
    if snapshotLeft s.engine = 0 then
      handFrame .reply (replyPayload RequestKind.sync.code tag .ok [])
        { s with link := { s.link with pendingSync := none } }
    else s

/-! ### Withdrawal and discard (R93, R94) -/

/-- The owner no longer wants the jobs on the items `p` names: those queued are withdrawn, the one in service has its
discard mark set.  Withdrawn snapshot jobs leave the snapshot, which may release the SYNC (R97). -/
def dropJobs (p : JobItem → Bool) (s : State) : State :=
  releaseSync
    { s with
      engine :=
        { s.engine with
          inService := s.engine.inService.map fun j => if p j.job.item then { j with discard := true } else j
          queued := s.engine.queued.filter fun j => !p j.item } }

/-- The intake jobs of the bundle in a slot. -/
def JobItem.isIntakeOf (slot : SlotNo) : JobItem → Bool
  | .intake t _ => t == slot
  | _ => false

/-- The rewrap job of one reel slot of a lane. -/
def JobItem.isRewrapOf (l : LaneNo) (n : SlotName) : JobItem → Bool
  | .rewrap m k _ _ => m == l && k == n
  | _ => false

/-- The bind job of a screen. -/
def JobItem.isBindOf (l : LaneNo) : JobItem → Bool
  | .bind m => m == l
  | _ => false

/-- Whether a job is an intake unwrap. -/
def JobItem.isIntake : JobItem → Bool
  | .intake _ _ => true
  | _ => false

/-- Whether a job is a rewrap. -/
def JobItem.isRewrap : JobItem → Bool
  | .rewrap _ _ _ _ => true
  | _ => false

/-- Whether a job is a bind. -/
def JobItem.isBind : JobItem → Bool
  | .bind _ => true
  | _ => false

/-! ### Completion (R92) -/

/-- Steps 1 to 3 of a completion (R92): the job leaves service, its result goes to the owner unless its discard mark
is set, and the engine keeps nothing of it.  The job leaves the snapshot with the result taken, so a SYNC that it
releases is released after every change the completion causes (R97): until then the pending SYNC is set aside. -/
def finishJob (deliver : ServiceJob → State → State) (j : ServiceJob) (s : State) : State :=
  let off := { s with engine := { s.engine with inService := none }, link := { s.link with pendingSync := none } }
  let taken := if j.discard then off else deliver j off
  releaseSync { taken with link := { taken.link with pendingSync := s.link.pendingSync } }

/-- The completion of the job in service, if it is of the kind the command names: steps 1 to 3, then the jobs that
`present` adds (step 4), then a grant (step 5). -/
def completeJob (ofKind : JobItem → Bool) (deliver : ServiceJob → State → State) (present : State → State)
    (s : State) : State :=
  match s.engine.inService with
  | some j => if s.powered && ofKind j.job.item then grant (present (finishJob deliver j s)) else s
  | none => s

end Sys2Proof.Machine
end

