-- ==== Sys2Proof/Machine/KeyringOps.lean ====
section
/-! DEFINITION. The Keyring's shared operations: records and slots, the reel key pool, the intake requester, the
window cases and the window sweep, erasure, and the return of a use (chapters 3 and 4). -/

namespace Sys2Proof.Machine

/-! ### Records -/

/-- Replaces the content of a slot. -/
def setBundle (slot : SlotNo) (b : Option Bundle) (s : State) : State :=
  { s with keyring := { s.keyring with slots := s.keyring.slots.set slot b } }

/-- The slots whose record satisfies `p`, in slot order. -/
def slotsWhere (k : Keyring) (p : Bundle → Bool) : List SlotNo :=
  (List.finRange 64).filter fun i => (k.slots[i]).any p

/-- The slot whose record holds a bundle id. -/
def slotOfBundle (k : Keyring) (id : Ident) : Option SlotNo := (slotsWhere k fun b => b.bundleId == id).head?

/-- Whether a record holds key material: UNWRAPPING, WAITING, LIVE, CLOSING, and REVOKED in use (R40). -/
def Bundle.holdsKeys (b : Bundle) : Bool :=
  match b.state with
  | .unwrapping | .waiting | .live | .closing => true
  | .revoked => decide (0 < b.useCount)
  | .expired | .failed => false

/-- A tombstone: EXPIRED, FAILED, or REVOKED with its keys erased (R38). -/
def Bundle.isTombstone (b : Bundle) : Bool := !b.holdsKeys

/-- Whether the record is in a window state, one that a sweep judges (R58). -/
def BundleState.inWindow : BundleState → Bool
  | .waiting | .live | .closing => true
  | _ => false

/-! ### The reel key pool (R40) -/

/-- The number of free pool entries. -/
def freeEntries (k : Keyring) : Nat := Config.poolSize - k.pool.length

/-- The free pool entries, lowest-numbered first. -/
def freeNumbers (pool : List PoolCell) : List PoolNo :=
  (List.finRange 768).filter fun i => !pool.any fun c => c.number == i

/-- Puts a cell into the pool at its place, numbers rising. -/
def insertCell (c : PoolCell) : List PoolCell → List PoolCell
  | [] => [c]
  | d :: rest => if c.number < d.number then c :: d :: rest else d :: insertCell c rest

/-- Reserves the given entries, empty. -/
def reserveCells (refs : List PoolNo) (pool : List PoolCell) : List PoolCell :=
  refs.foldl (fun p r => insertCell { number := r, key := none } p) pool

/-- Fills a reserved entry with a reel key. -/
def fillCell (number : PoolNo) (key : KeyMaterial) (pool : List PoolCell) : List PoolCell :=
  pool.map fun c => if c.number = number then { c with key := some key } else c

/-- Erases and frees the given entries. -/
def freeCells (refs : List PoolNo) (pool : List PoolCell) : List PoolCell :=
  pool.filter fun c => !refs.contains c.number

/-- Frees a bundle's entries and leaves its record as `after` makes it (R40). -/
def eraseKeys (slot : SlotNo) (b : Bundle) (after : Bundle → Bundle) (s : State) : State :=
  setBundle slot (some (after { b with poolRefs := [], wrappedKeys := [] }))
    { s with keyring := { s.keyring with pool := freeCells b.poolRefs s.keyring.pool } }

/-- A record in a new state, entered now (R39). -/
def Bundle.enter (b : Bundle) (st : BundleState) (now : Nat) : Bundle := { b with state := st, entryTime := now }

/-! ### The intake requester (R47) -/

/-- Whether an intake job exists, queued or in service (R87). -/
def intakeJobExists (e : Engine) : Bool :=
  e.queued.any (fun j => j.item.isIntake) || e.inService.any fun j => j.job.item.isIntake

/-- The intake requester presents the lowest-numbered reel not yet unwrapped of the bundle at the head of the queue,
unless it has a job already (R47). -/
def presentIntake (s : State) : State :=
  match s.keyring.intakeQueue with
  | [] => s
  | slot :: _ =>
    match s.keyring.slots[slot] with
    | none => s
    | some b => if intakeJobExists s.engine then s else createJob (.intake slot (b.reelsUnwrapped + 1)) s

/-- Takes a slot out of the intake queue; the bundles behind it close the gap (R41). -/
def leaveQueue (slot : SlotNo) (s : State) : State :=
  { s with keyring := { s.keyring with intakeQueue := s.keyring.intakeQueue.filter fun t => t != slot } }

/-! ### The window cases (R60) -/

/-- The live point NB + M. -/
def Bundle.livePoint (b : Bundle) (m : Nat) : Int := (b.notBefore : Int) + m

/-- The closing point NA − M. -/
def Bundle.closingPoint (b : Bundle) (m : Nat) : Int := (b.notAfter : Int) - m

/-- The expiry point NA + G − M. -/
def Bundle.expiryPoint (b : Bundle) (m : Nat) : Int := (b.notAfter : Int) + b.grace - m

/-- The state the window cases give a record: the first case of R60 that holds. -/
def windowCase (now m : Nat) (b : Bundle) : BundleState :=
  if b.expiryPoint m < now ∧ b.useCount = 0 then .expired
  else if b.closingPoint m < now then .closing
  else if b.livePoint m ≤ now then .live
  else if 0 < b.useCount then .closing
  else .waiting

/-- Posts the notice that entry to a state calls for (R61). -/
def postEntry (slot : SlotNo) (st : BundleState) (s : State) : State :=
  match st with
  | .live => post (.bundleLive slot) s
  | .closing => post (.bundleClosing slot) s
  | .expired => post (.bundleExpired slot) s
  | _ => s

/-- A record enters a window state, or EXPIRED with the erasure of R64, and the notice for that state is posted
(R61). -/
def enterWindow (slot : SlotNo) (b : Bundle) (st : BundleState) (s : State) : State :=
  postEntry slot st
    (match st with
      | .expired => eraseKeys slot b (fun b => b.enter .expired s.clock.now) s
      | _ => setBundle slot (some (b.enter st s.clock.now)) s)

/-- Judges one slot of a sweep (R58): a record in a window state either keeps its state or enters another. -/
def judgeSlot (now m : Nat) (slot : SlotNo) (s : State) : State :=
  match s.keyring.slots[slot] with
  | none => s
  | some b =>
    if b.state.inWindow = true ∧ windowCase now m b ≠ b.state then enterWindow slot b (windowCase now m b) s else s

/-- The window sweep: one pass over the 64 slots in order, with now and M read once (R58). -/
def windowSweep (s : State) : State :=
  (List.finRange 64).foldl (fun t slot => judgeSlot s.clock.now s.margin.margin slot t) s

/-! ### Uses (R66, R67) -/

/-- The Keyring grants one use of the bundle in a slot (R66). -/
def takeUse (slot : SlotNo) (s : State) : State :=
  match s.keyring.slots[slot] with
  | some b => setBundle slot (some { b with useCount := b.useCount + 1 }) s
  | none => s

/-- A REVOKED record left with no use becomes a tombstone: its keys erased, its mode removed, entered now (R67). -/
def buryRevoked (slot : SlotNo) (b : Bundle) (s : State) : State :=
  eraseKeys slot b (fun b => { b with useCount := 0, revocationMode := none, entryTime := s.clock.now }) s

/-- A lane returns its use of the bundle in a slot (R67). -/
def returnUse (slot : SlotNo) (s : State) : State :=
  match s.keyring.slots[slot] with
  | none => s
  | some b =>
    let less := { b with useCount := b.useCount - 1 }
    if b.state = .revoked ∧ less.useCount = 0 then buryRevoked slot less s
    else setBundle slot (some less) s

/-! ### The reset steps of the Keyring (R56) -/

/-- What R56 does to one slot: a bundle in UNWRAPPING is discarded with its entries, every other use count becomes 0,
and a REVOKED bundle that was in use is erased. -/
def resetSlot (slot : SlotNo) (s : State) : State :=
  match s.keyring.slots[slot] with
  | none => s
  | some b =>
    if b.state = .unwrapping then
      setBundle slot none { s with keyring := { s.keyring with pool := freeCells b.poolRefs s.keyring.pool } }
    else if b.state = .revoked ∧ 0 < b.useCount then buryRevoked slot b s
    else setBundle slot (some { b with useCount := 0 }) s

/-- The Keyring's reset at power-up with the retained domain valid and at RESTART (R56). -/
def resetKeyring (s : State) : State :=
  let swept := (List.finRange 64).foldl (fun t slot => resetSlot slot t) s
  { swept with keyring := { swept.keyring with intakeQueue := [], listCursor := 0 } }

/-! ### Evaluations and the expiry pass -/

/-- One margin evaluation: M and the record are replaced together, and MARGIN_CHANGED is posted when M changes (R28,
R30). -/
def evaluateMargin (cause : EvalCause) (s : State) : State :=
  let record :=
    evaluation s.margin.shapes s.margin.terms s.params s.clock.residual.natAbs s.clock.staleness cause s.clock.now
  let replaced := { s with margin := { s.margin with margin := record.margin, last := record } }
  if record.margin = s.margin.margin then replaced else post .marginChanged replaced

/-- An evaluation whose event runs no sweep of its own: a change of M triggers one window sweep (R29). -/
def evaluateAndSweep (cause : EvalCause) (s : State) : State :=
  let evaluated := evaluateMargin cause s
  if evaluated.margin.margin = s.margin.margin then evaluated else windowSweep evaluated

/-- The expiry pass: every entry whose until is less than now leaves the list (R82). -/
def expiryPass (s : State) : State :=
  { s with revocations := s.revocations.filter fun e => decide (s.clock.now ≤ e.expires) }

end Sys2Proof.Machine
end

