-- ==== Sys2Proof/Machine/LaneOps.lean ====
section
/-! DEFINITION. The Lane Controller's shared operations: positions and successors, filling and emptying reel slots,
stop times, the ways a screening ends, and the stop-time sweep (chapters 7 to 9). -/

namespace Sys2Proof.Machine

/-! ### Positions (R119) -/

/-- The successor of a position under a reel count `n` and a repeat total `k` (R119). -/
def successor (n k : Nat) (p : Position) : Option Position :=
  if p.reel < n then some { cycle := p.cycle, reel := p.reel + 1 }
  else if p.reel = n ∧ p.cycle < k then some { cycle := p.cycle + 1, reel := 1 }
  else none

/-- The reel count of a lane's bundle; 0 where its slot holds no record, which no running lane's does (R67). -/
def laneReels (k : Keyring) (sc : Screening) : Nat :=
  match k.slots[sc.bundleSlot] with
  | some b => b.reelCount
  | none => 0

/-- The position a slot holds (R118). -/
def ReelSlot.position? : ReelSlot → Option Position
  | .empty => none
  | .holds p _ _ => some p

/-- Whether a slot holds a given position. -/
def ReelSlot.isAt (slot : ReelSlot) (p : Position) : Bool := slot.position? == some p

/-- Whether a slot is QUEUED or UNWRAPPING, that is, has a job. -/
def ReelSlot.hasJob : ReelSlot → Bool
  | .holds _ _ .queued => true
  | .holds _ _ .unwrapping => true
  | _ => false

/-! ### Filling and emptying slots (R120, R124) -/

/-- Fills a slot: it takes a position and needed-by, becomes QUEUED, and its rewrap job is created (R120). -/
def fillSlot (l : LaneNo) (n : SlotName) (p : Position) (neededBy : Nat) (s : State) : State :=
  createJob (.rewrap l n p neededBy) (modifyLane l (fun sc => sc.withSlot n (.holds p neededBy .queued)) s)

/-- Empties a slot: its position, needed-by and key are cleared, a queued job is withdrawn and a job in service
marked for discard (R124). -/
def emptySlot (l : LaneNo) (n : SlotName) (s : State) : State :=
  dropJobs (JobItem.isRewrapOf l n) (modifyLane l (fun sc => sc.withSlot n .empty) s)

/-- Empties a slot that is QUEUED or UNWRAPPING and keeps one that holds a key (R79). -/
def emptyWorking (l : LaneNo) (n : SlotName) (s : State) : State :=
  match s.lanes[l] with
  | some sc => if (sc.slot n).hasJob then emptySlot l n s else s
  | none => s

/-! ### Stop times (R109, R140) -/

/-- H = the smaller of NA + G − M_open and E + L, clamped (R109). -/
def stopTimeOf (notAfter grace openMargin plannedEnd late : Nat) : Nat :=
  clampTime (min ((notAfter : Int) + grace - openMargin) ((plannedEnd : Int) + late))

/-! ### How a screening ends (R112) -/

/-- A lane enters ENDED or FAULTED from RUNNING or STOPPING: its slots are emptied, its amendment discarded, its
state, cause and time fixed, its use returned, and its notice posted (R112). -/
def endLane (l : LaneNo) (status : LaneStatus) (cause : EndCause) (notice : Notice) (s : State) : State :=
  match s.lanes[l] with
  | none => s
  | some sc =>
    let emptied := emptySlot l .y (emptySlot l .x s)
    let marked :=
      modifyLane l
        (fun sc => { sc with status := status, amendment := none, ending := some (cause, s.clock.now) }) emptied
    post notice (returnUse sc.bundleSlot marked)

/-- The entry to ENDED (R112). -/
def finishLane (l : LaneNo) (cause : EndCause) (s : State) : State :=
  endLane l .ended cause (.laneEnded l) s

/-- The entry to FAULTED, cause INTEGRITY (R123). -/
def faultLane (l : LaneNo) (s : State) : State := endLane l .faulted .integrity (.laneFaulted l) s

/-- A RUNNING lane enters STOPPING: its slots that are QUEUED or UNWRAPPING are emptied (R79). -/
def stopLane (l : LaneNo) (s : State) : State :=
  modifyLane l (fun sc => { sc with status := .stopping }) (emptyWorking l .y (emptyWorking l .x s))

/-! ### The stop-time sweep (R110) -/

/-- Judges one lane of the sweep by the first case of R110 that holds. -/
def judgeLane (now lead : Nat) (l : LaneNo) (s : State) : State :=
  match s.lanes[l] with
  | none => s
  | some sc =>
    if sc.status = .running ∧ sc.stopTime < now then finishLane l .stopTime s
    else if sc.status = .stopping ∧ sc.stopTime < now then finishLane l .revoked s
    else if sc.status = .running ∧ sc.closingNotice = false ∧ (sc.stopTime : Int) - now ≤ lead then
      post (.windowClosing l) (setLane l (some { sc with closingNotice := true }) s)
    else s

/-- The stop-time sweep: one pass over lanes 1 to 32, with now and the closing lead read once (R110). -/
def stopTimeSweep (s : State) : State :=
  (List.finRange 32).foldl (fun t l => judgeLane s.clock.now s.params.closingLead l t) s

/-! ### The screen map at start-up and RESTART (R117) -/

/-- An entry after a start-up with the retained domain valid or a RESTART: BINDING becomes UNBOUND (R117). -/
def Screen.afterStart (e : Screen) : Screen :=
  match e.binding with
  | .binding _ _ => { e with binding := .unbound }
  | _ => e

/-- The screen map after a start-up with the retained domain valid or a RESTART (R117). -/
def screensAfterStart (screens : Vector Screen 32) : Vector Screen 32 :=
  tabulate fun i : LaneNo => (screens[i]).afterStart

end Sys2Proof.Machine
end

