-- ==== Sys2Proof/Machine/ClockOps.lean ====
section
/-! DEFINITION. The Part Clock's shared operations: the tick and the passes it triggers, the battery catch-up, and
the two cases of an accepted claim (chapter 1). -/

namespace Sys2Proof.Machine

/-! ### The tick at the clock (R3) -/

/-- Step 1 of R3: part time rises by 1, or stays at its last value. -/
def Clock.countSecond (c : Clock) : Clock := { c with now := min (c.now + 1) Config.timeMax }

/-- Whether this tick completes a staleness minute: the minute countdown falls by 1 and reaches 0 (R3 step 2). -/
def Clock.minuteDue (c : Clock) : Bool := decide (c.minuteCountdown ≤ 1)

/-- Whether this tick completes a replenish: the replenish countdown falls by 1 and reaches 0 (R3 step 3). -/
def Clock.replenishDue (c : Clock) : Bool := decide (c.replenishCountdown ≤ 1)

/-- What a staleness minute does at the clock: S rises by 1 up to 65,535, the countdown is reloaded (R5). -/
def Clock.passMinute (c : Clock) : Clock :=
  { c with staleness := min (c.staleness + 1) Config.stalenessMax, minuteCountdown := Config.minuteTicks }

/-- What a replenish does: A becomes the smaller of 900 and A + 30, the countdown is reloaded (R6). -/
def Clock.passReplenish (c : Clock) : Clock :=
  { c with
    allowance := min Config.allowanceMax (c.allowance + Config.allowanceStep)
    replenishCountdown := Config.replenishTicks }

/-- Step 2 of R3 at the clock. -/
def Clock.countMinute (c : Clock) : Clock :=
  if c.minuteDue then c.passMinute else { c with minuteCountdown := c.minuteCountdown - 1 }

/-- Step 3 of R3. -/
def Clock.countReplenish (c : Clock) : Clock :=
  if c.replenishDue then c.passReplenish else { c with replenishCountdown := c.replenishCountdown - 1 }

/-- Steps 1 to 3 of R3, in their order. -/
def Clock.tick (c : Clock) : Clock := c.countSecond.countMinute.countReplenish

/-- The battery catch-up in RUNNING: the effect of `e` ticks at the clock, by arithmetic (R17).  A countdown of `c`
that runs through `e` ticks is reloaded once at tick `c` and then after every full period. -/
def Clock.catchUp (c : Clock) (e : Nat) : Clock :=
  { c with
    now := min (c.now + e) Config.timeMax
    staleness :=
      if e < c.minuteCountdown then c.staleness
      else min (c.staleness + 1 + (e - c.minuteCountdown) / Config.minuteTicks) Config.stalenessMax
    minuteCountdown :=
      if e < c.minuteCountdown then c.minuteCountdown - e
      else Config.minuteTicks - (e - c.minuteCountdown) % Config.minuteTicks
    allowance :=
      if e < c.replenishCountdown then c.allowance
      else
        min Config.allowanceMax
          (c.allowance + Config.allowanceStep * (1 + (e - c.replenishCountdown) / Config.replenishTicks))
    replenishCountdown :=
      if e < c.replenishCountdown then c.replenishCountdown - e
      else Config.replenishTicks - (e - c.replenishCountdown) % Config.replenishTicks }

/-! ### A tick and its passes -/

/-- The two sweeps of a tick or claim, in the order given (R68). -/
def bothSweeps (order : SweepOrder) (s : State) : State :=
  match order with
  | .windowFirst => stopTimeSweep (windowSweep s)
  | .stopTimeFirst => windowSweep (stopTimeSweep s)

/-- The revocation expiry pass that is due, if one is. -/
def takeDueExpiry (s : State) : State :=
  if s.due.expiry then expiryPass { s with due := { s.due with expiry := false } } else s

/-- The window sweep that is due, if one is. -/
def takeDueWindow (s : State) : State :=
  if s.due.window then windowSweep { s with due := { s.due with window := false } } else s

/-- The stop-time sweep that is due, if one is. -/
def takeDueStopTime (s : State) : State :=
  if s.due.stopTime then stopTimeSweep { s with due := { s.due with stopTime := false } } else s

/-- Takes every pass still due from the tick before (assumption log, entry 5). -/
def settleDue (s : State) : State := takeDueStopTime (takeDueWindow (takeDueExpiry s))

/-- The Part Clock's own event at a tick in RUNNING: steps 1 to 3 of R3, with the evaluation of a staleness minute
(R5). -/
def clockTick (s : State) : State :=
  let ticked := { s with clock := s.clock.tick }
  if s.clock.minuteDue then evaluateMargin .staleness ticked else ticked

/-- The clock's event of a tick, its passes becoming due (R3 step 4, R82). -/
def tickClockOnly (s : State) : State :=
  { clockTick (settleDue s) with due := { expiry := true, window := true, stopTime := true } }

/-- A tick with its passes, nothing falling between (R3, R82). -/
def tickWhole (order : SweepOrder) (s : State) : State := bothSweeps order (expiryPass (clockTick (settleDue s)))

/-- Whether a tick acts: the controller is at work and the clock RUNNING.  In UNSET it changes nothing and triggers
nothing (R4). -/
def tickActs (s : State) : Bool := s.powered && s.clock.state == .running

/-! ### Accepted claims (R8, R9) -/

/-- The change a claim is granted: the asked change, its magnitude limited by the allowance (R9). -/
def claimChange (asked : Int) (allowance : Nat) : Int :=
  if asked.natAbs ≤ allowance then asked else if asked < 0 then -(allowance : Int) else allowance

/-- The residual offset a claim leaves: clamped to −65,535 through 65,535 (R9). -/
def clampResidual (d : Int) : Int := max (-(Config.residualMax : Int)) (min Config.residualMax d)

/-- The clock after a claim accepted in UNSET (R8). -/
def Clock.setBy (c : Clock) (t : Nat) : Clock :=
  { c with
    state := .running, now := t, allowance := Config.allowanceAtSet, residual := 0, staleness := 0
    minuteCountdown := Config.minuteTicks }

/-- The clock after a claim accepted in RUNNING (R9). -/
def Clock.adjustBy (c : Clock) (t : Nat) : Clock :=
  let asked : Int := (t : Int) - c.now
  let applied := claimChange asked c.allowance
  { c with
    now := ((c.now : Int) + applied).toNat
    allowance := c.allowance - applied.natAbs
    residual := clampResidual (asked - applied)
    staleness := 0
    minuteCountdown := Config.minuteTicks }

/-- The applied change an accepted claim reports: 0 in UNSET (R8), a in RUNNING (R9). -/
def appliedChange (c : Clock) (t : Nat) : Int :=
  match c.state with
  | .unset => 0
  | .running => claimChange ((t : Int) - c.now) c.allowance

/-- An accepted claim at the clock, with CLOCK_CLAMPED where the asked change exceeds the allowance (R8 to R10). -/
def takeClaim (t : Nat) (s : State) : State :=
  match s.clock.state with
  | .unset => { s with clock := s.clock.setBy t }
  | .running =>
    let adjusted := { s with clock := s.clock.adjustBy t }
    if ((t : Int) - s.clock.now).natAbs ≤ s.clock.allowance then adjusted else post .clockClamped adjusted

end Sys2Proof.Machine
end

