-- ==== Sys2Proof/Machine/Operands.lean ====
section
/-! DEFINITION. The operands of the requests: how each body of sections 12.3 and 12.4 is read (R175).  A reader
answers `none` for a malformed body, and for a value the request's first check refuses with the same BAD_REQUEST. -/

namespace Sys2Proof.Machine

/-- A screen or lane number, 1 to 32. -/
def laneOf (n : Nat) : Option LaneNo := if h : 1 ≤ n ∧ n ≤ 32 then some ⟨n - 1, by omega⟩ else none

/-- The number of a screen or lane, 1 to 32. -/
def laneNumber (l : LaneNo) : Nat := l.val + 1

/-- A shape or term number, 0 to 7. -/
def tableOf (n : Nat) : Option TableNo := if h : n < 8 then some ⟨n, h⟩ else none

/-- A keyring slot, 0 to 63. -/
def slotOf (n : Nat) : Option SlotNo := if h : n < 64 then some ⟨n, h⟩ else none

/-- A notice subject byte, 0 to 97. -/
def subjectOf (n : Nat) : Option SubjectNo := if h : n < 98 then some ⟨n, h⟩ else none

/-- Whether a body has the length its table gives (R175). -/
def lengthIs (body : List Byte) (n : Nat) : Bool := body.length == n

/-- Whether the presence byte at `offset` sets no bit from `bits` on, that is, none its table does not name
(R175). -/
def presenceWithin (body : List Byte) (offset bits : Nat) : Bool := decide (field body offset 1 < 2 ^ bits)

/-- An optional field: its value when its presence bit is set, its bytes not examined otherwise (R175). -/
def optionalField (body : List Byte) (presence bit offset width : Nat) : Option Nat :=
  if presentAt body presence bit then some (field body offset width) else none

/-! ### Provisioning and the link -/

/-- The slots of the provisioning store as PROVISION_WRITE names them (section 12.4). -/
inductive StoreSlot where
  | serial | site | lineAddress | station | authority | identity
  deriving DecidableEq, Repr

/-- The slot byte (section 12.4). -/
def StoreSlot.ofCode (n : Nat) : Option StoreSlot :=
  match n with
  | 1 => some .serial
  | 2 => some .site
  | 3 => some .lineAddress
  | 4 => some .station
  | 5 => some .authority
  | 6 => some .identity
  | _ => none

/-- The slot byte of a slot. -/
def StoreSlot.code : StoreSlot → Byte
  | .serial => 1
  | .site => 2
  | .lineAddress => 3
  | .station => 4
  | .authority => 5
  | .identity => 6

/-- The length of a slot's value in bytes (section 12.4). -/
def StoreSlot.width : StoreSlot → Nat
  | .serial => 8
  | .site => 2
  | .lineAddress => 1
  | .station => 6
  | .authority => 32
  | .identity => 32

/-- PROVISION_WRITE: a slot and a value of the slot's length (R167 check 2). -/
def parseProvision (body : List Byte) : Option (StoreSlot × Nat) :=
  match StoreSlot.ofCode (field body 0 1) with
  | some slot => if lengthIs body (1 + slot.width) then some (slot, field body 1 slot.width) else none
  | none => none

/-- DISMISS: a subject, and the kinds listed when a list is present (R159, R176). -/
def parseDismiss (body : List Byte) : Option (SubjectNo × Option KindSet) :=
  if lengthIs body 3 && presenceWithin body 0 1 then
    match subjectOf (field body 1 1) with
    | none => none
    | some subject =>
      if presentAt body 0 0 then
        if field body 2 1 ≤ (subjectKinds subject).toNat then some (subject, some (BitVec.ofNat 5 (field body 2 1)))
        else none
      else some (subject, none)
  else none

/-- NOTICE_HOLD: one flag (R161). -/
def parseHold (body : List Byte) : Option Bool := if lengthIs body 1 then some (flagAt body 0) else none

/-- The four parameters of a SITE_PARAMETER, each present or absent (R162). -/
structure ParameterRequest where
  /-- Late allowance. -/
  lateAllowance : Option Nat
  /-- Margin floor. -/
  marginFloor : Option Nat
  /-- No-opinion margin. -/
  noOpinion : Option Nat
  /-- Closing lead. -/
  closingLead : Option Nat
  deriving DecidableEq, Repr

/-- SITE_PARAMETER (R162). -/
def parseParameters (body : List Byte) : Option ParameterRequest :=
  if lengthIs body 9 && presenceWithin body 0 4 then
    some
      { lateAllowance := optionalField body 0 0 1 2
        marginFloor := optionalField body 0 1 3 2
        noOpinion := optionalField body 0 2 5 2
        closingLead := optionalField body 0 3 7 2 }
  else none

/-! ### Clock and margin -/

/-- TIME_CLAIM: exactly one claimed time and one tag (R7 check 1).  The tag's own bytes are not examined: what they
were computed over is an operand of the command. -/
def parseClaim (body : List Byte) : Option Nat := if lengthIs body 36 then some (field body 0 4) else none

/-- The input selector of a shape (R31). -/
def inputOf (n : Nat) : Option ShapeInput :=
  match n with
  | 1 => some .x1
  | 2 => some .x2
  | _ => none

/-- SET_SHAPE: a shape number and the shape as it is stored, centre and spreads clamped (R23, R31). -/
def parseShape (body : List Byte) : Option (TableNo × Shape) :=
  if lengthIs body 17 then
    match tableOf (field body 0 1), inputOf (field body 2 1) with
    | some i, some input =>
      some
        (i,
          { inUse := flagAt body 1
            input
            centre := min Config.shapeMax (field body 3 4)
            leftSpread := min Config.shapeMax (field body 7 4)
            rightSpread := min Config.shapeMax (field body 11 4)
            leftShoulder := flagAt body 15
            rightShoulder := flagAt body 16 })
    | _, _ => none
  else none

/-- The combinator byte of a SET_TERM (section 12.4). -/
def combinatorOf (n : Nat) : Option Combinator :=
  match n with
  | 1 => some .and
  | 2 => some .or
  | _ => none

/-- Antecedent B of a SET_TERM with its combinator: `none` when malformed, `some none` when absent, in which case its
fields are not examined (R32). -/
def parseSecond (body : List Byte) : Option (Option (Antecedent × Combinator)) :=
  if flagAt body 4 then
    match tableOf (field body 5 1), combinatorOf (field body 7 1) with
    | some shape, some combinator => some (some ({ shape, negate := flagAt body 6 }, combinator))
    | _, _ => none
  else some none

/-- SET_TERM: a term number and the term as it is stored, its margin clamped (R25, R32). -/
def parseTerm (body : List Byte) : Option (TableNo × Term) :=
  if lengthIs body 12 then
    match tableOf (field body 0 1), tableOf (field body 2 1), parseSecond body with
    | some i, some shape, some b =>
      some
        (i,
          { inUse := flagAt body 1
            a := { shape, negate := flagAt body 3 }
            b
            proposed := min Config.marginMax (field body 8 4) })
    | _, _, _ => none
  else none

/-! ### Keyring -/

/-- A delivery after cleaning (R43), with the bytes its tag is checked over (R44). -/
structure Delivery where
  /-- Bundle id. -/
  bundleId : Ident
  /-- Feature id. -/
  featureId : Ident
  /-- NB. -/
  notBefore : Nat
  /-- NA. -/
  notAfter : Nat
  /-- Grace, clamped. -/
  grace : Nat
  /-- Screening allowance, clamped. -/
  allowance : Nat
  /-- Screen set, cleaned. -/
  screens : ScreenSet
  /-- Reel count. -/
  reelCount : Nat
  /-- The wrapped reel keys, reel 1 first. -/
  wrappedKeys : List WrappedReelKey
  /-- The bytes of the body before the tag, as delivered. -/
  covered : List Byte
  deriving DecidableEq, Repr

/-- The screen set of a delivered list: "all" for an empty list; otherwise its distinct numbers within 1 to 32 in
ascending order, `none` when none is left (R43). -/
def cleanScreens (numbers : List Byte) : Option ScreenSet :=
  if numbers = [] then some .all
  else
    let kept := (List.finRange 32).filter fun l => numbers.any fun b => b.toNat == laneNumber l
    if kept = [] then none else some (.only kept)

/-- DELIVER_BUNDLE: check 3 of R42 with the cleaning of R43. -/
def parseDelivery (body : List Byte) : Option Delivery :=
  let count := field body 27 1
  let n := field body (28 + count) 1
  if body.length = 61 + count + 40 * n ∧ count ≤ 32 ∧ 1 ≤ n ∧ n ≤ 24 ∧ field body 16 4 < field body 20 4 then
    match cleanScreens (fieldBytes body 28 count) with
    | none => none
    | some screens =>
      some
        { bundleId := fieldBits body 0 8
          featureId := fieldBits body 8 8
          notBefore := field body 16 4
          notAfter := field body 20 4
          grace := min Config.graceMax (field body 24 2)
          allowance := clampTo 1 32 (field body 26 1)
          screens
          reelCount := n
          wrappedKeys := (List.range n).map fun i => fieldBits body (29 + count + 40 * i) 40
          covered := body.take (body.length - 32) }
  else none

/-- How BUNDLE_STATUS names a bundle (R51). -/
inductive BundleName where
  | bySlot (slot : SlotNo)
  | byId (id : Ident)
  deriving DecidableEq, Repr

/-- BUNDLE_STATUS: the selector says which of the two names is read (section 12.4); a slot above 63 is refused like a
malformed body (R51). -/
def parseBundleName (body : List Byte) : Option BundleName :=
  if lengthIs body 10 then
    match field body 0 1 with
    | 1 => (slotOf (field body 1 1)).map .bySlot
    | 2 => some (.byId (fieldBits body 2 8))
    | _ => none
  else none

/-- LIST_BUNDLES: an empty body, or one start slot (R52). -/
def parseListStart (body : List Byte) : Option (Option SlotNo) :=
  if body = [] then some none
  else if lengthIs body 1 then (slotOf (field body 0 1)).map some
  else none

/-- DELETE_BUNDLE: a bundle id (R53). -/
def parseBundleId (body : List Byte) : Option Ident := if lengthIs body 8 then some (fieldBits body 0 8) else none

/-! ### Revocation -/

/-- A revocation order (section 5.2), with the bytes its tag is checked over. -/
structure Order where
  /-- Target kind. -/
  kind : TargetKind
  /-- Id. -/
  target : Ident
  /-- Mode. -/
  mode : RevocationMode
  /-- Until. -/
  expires : Nat
  /-- The bytes of the four fields above. -/
  covered : List Byte
  deriving DecidableEq, Repr

/-- The target kind byte (section 12.3). -/
def targetOf (n : Nat) : Option TargetKind :=
  match n with
  | 1 => some .bundle
  | 2 => some .feature
  | _ => none

/-- The mode byte (section 12.3). -/
def modeOf (n : Nat) : Option RevocationMode :=
  match n with
  | 1 => some .immediate
  | 2 => some .afterScreening
  | _ => none

/-- REVOKE: check 1 of R74. -/
def parseOrder (body : List Byte) : Option Order :=
  if lengthIs body 46 then
    match targetOf (field body 0 1), modeOf (field body 9 1) with
    | some kind, some mode =>
      some { kind, target := fieldBits body 1 8, mode, expires := field body 10 4, covered := body.take 14 }
    | _, _ => none
  else none

/-! ### Screens and lanes -/

/-- A request that names one screen or lane and carries nothing else. -/
def parseLane (body : List Byte) : Option LaneNo := if lengthIs body 1 then laneOf (field body 0 1) else none

/-- BIND_SCREEN's fields (R103). -/
structure BindRequest where
  /-- Screen. -/
  screen : LaneNo
  /-- Playback unit id. -/
  unitId : Ident
  /-- Wrapped link key. -/
  wrapped : WrappedLinkKey
  /-- Bias, clamped to 0 through 2. -/
  bias : Nat
  deriving DecidableEq, Repr

/-- BIND_SCREEN (R102 check 1). -/
def parseBind (body : List Byte) : Option BindRequest :=
  if lengthIs body 58 then
    (laneOf (field body 0 1)).map fun screen =>
      { screen, unitId := fieldBits body 1 8, wrapped := fieldBits body 9 48, bias := min 2 (field body 57 1) }
  else none

/-- SET_BIAS: a screen and a bias, clamped to 0 through 2 (R105). -/
def parseBias (body : List Byte) : Option (LaneNo × Nat) :=
  if lengthIs body 2 then (laneOf (field body 0 1)).map fun l => (l, min 2 (field body 1 1)) else none

/-- OPEN_SCREENING's fields (section 7.3), defaults taken and the repeat total clamped. -/
structure OpenRequest where
  /-- Lane. -/
  lane : LaneNo
  /-- Feature id. -/
  featureId : Ident
  /-- Planned end E. -/
  plannedEnd : Nat
  /-- The bundle named, if one is. -/
  bundleId : Option Ident
  /-- First reel f. -/
  firstReel : Nat
  /-- Repeat total k, 1 to 8. -/
  repeatTotal : Nat
  deriving DecidableEq, Repr

/-- OPEN_SCREENING (R107 check 0). -/
def parseOpen (body : List Byte) : Option OpenRequest :=
  if lengthIs body 24 && presenceWithin body 13 3 then
    (laneOf (field body 0 1)).map fun lane =>
      { lane
        featureId := fieldBits body 1 8
        plannedEnd := field body 9 4
        bundleId := if presentAt body 13 0 then some (fieldBits body 14 8) else none
        firstReel := (optionalField body 13 1 22 1).getD 1
        repeatTotal := clampTo 1 8 ((optionalField body 13 2 23 1).getD 1) }
  else none

/-- A lane and a reel of 1 to 24. -/
def laneAndReel (body : List Byte) : Option (LaneNo × Nat) :=
  if 1 ≤ field body 1 1 ∧ field body 1 1 ≤ 24 then
    (laneOf (field body 0 1)).map fun lane => (lane, field body 1 1)
  else none

/-- FETCH_REEL: a lane and a reel (R125 check 0). -/
def parseFetch (body : List Byte) : Option (LaneNo × Nat) := if lengthIs body 2 then laneAndReel body else none

/-- REEL_BEGIN's fields (section 8.4). -/
structure BeginRequest where
  /-- Lane. -/
  lane : LaneNo
  /-- Reel. -/
  reel : Nat
  /-- Next-needed-by, when given. -/
  nextNeeded : Option Nat
  deriving DecidableEq, Repr

/-- REEL_BEGIN (R128 check 0). -/
def parseBegin (body : List Byte) : Option BeginRequest :=
  if lengthIs body 7 && presenceWithin body 2 1 then
    (laneAndReel body).map fun p => { lane := p.1, reel := p.2, nextNeeded := optionalField body 2 0 3 4 }
  else none

/-- AMEND_SCREENING: a lane and an amendment that is not wholly absent, its repeat total clamped to 1 through 8
(R137). -/
def parseAmend (body : List Byte) : Option (LaneNo × Amendment) :=
  if lengthIs body 7 && presenceWithin body 1 2 && field body 1 1 != 0 then
    (laneOf (field body 0 1)).map fun lane =>
      (lane,
        { plannedEnd := optionalField body 1 0 2 4
          repeatTotal := (optionalField body 1 1 6 1).map (clampTo 1 8) })
  else none

/-- FETCH_REPORT: a lane and perhaps a start index (R146). -/
def parseReport (body : List Byte) : Option (LaneNo × Option Nat) :=
  if lengthIs body 3 && presenceWithin body 1 1 then
    (laneOf (field body 0 1)).map fun lane => (lane, optionalField body 1 0 2 1)
  else none

end Sys2Proof.Machine
end

