-- ==== Sys2Proof/Machine/ClockUnit.lean ====
section
/-! DEFINITION. The Part Clock's commands: the tick and its two countdown events, TIME_CLAIM and CLOCK_STATUS
(chapter 1). -/

namespace Sys2Proof.Machine

/-- TICK (R3, R4): the tick, or the part of it the command names. -/
def execTick (part : TickPart) (s : State) : Host.Outcome State Fault Refusal :=
  .next
    (match part with
      | .whole order => if tickActs s then tickWhole order s else s
      | .clockOnly => if tickActs s then tickClockOnly s else s
      | .expiryPass => if s.powered then takeDueExpiry s else s
      | .windowSweep => if s.powered then takeDueWindow s else s
      | .stopTimeSweep => if s.powered then takeDueStopTime s else s)

/-- STALENESS_MINUTE (R5): the tick at which the minute countdown reaches 0.  At any other time no staleness minute
occurs, and the command has no effect (assumption log, entries 3 and 6). -/
def execStalenessMinute (order : SweepOrder) (s : State) : Host.Outcome State Fault Refusal :=
  .next (if tickActs s && s.clock.minuteDue then tickWhole order s else s)

/-- REPLENISH (R6): the tick at which the replenish countdown reaches 0.  At any other time no replenish occurs, and
the command has no effect (assumption log, entries 3 and 6). -/
def execReplenish (order : SweepOrder) (s : State) : Host.Outcome State Fault Refusal :=
  .next (if tickActs s && s.clock.replenishDue then tickWhole order s else s)

/-- Check 2 of R7: the tag verifies over the claimed time and the SITE slot under the AUTHORITY slot. -/
def claimVerifies (tagOver : Option ClaimTag) (t : Nat) (st : Store) : Bool :=
  match tagOver, st.authority, st.site with
  | some tag, some authority, some site => tag == { authority, site, time := t }
  | _, _, _ => false

/-- The reply body of an accepted TIME_CLAIM (R11; section 12.3, "15 bytes in all", which R175 has the controller write
exactly).  R35 says in passing that the claim's reply reports M, which none of these holds, nor the reply of section 13.3
to a claim that changes M: the model follows them (assumption log, entry 28). -/
def claimBody (applied : Int) (s : State) : List Byte :=
  [s.clock.state.code] ++ beInt32 applied ++ beInt32 s.clock.residual ++ beBytes 2 s.clock.allowance ++
    beBytes 4 s.clock.now

/-- What an accepted claim does after the clock has moved: the expiry pass (R82), one evaluation, and the two sweeps
(R11). -/
def afterClaim (order : SweepOrder) (s : State) : State := bothSweeps order (evaluateMargin .claim (expiryPass s))

/-- TIME_CLAIM (R7 to R11). -/
def execTimeClaim (tagOver : Option ClaimTag) (order : SweepOrder) (s : State) : Host.Outcome State Fault Refusal :=
  .next
    (serveWith .timeClaim parseClaim
      (fun t r s =>
        if claimVerifies tagOver t s.store then
          let done := afterClaim order (takeClaim t s)
          answer r .ok (claimBody (appliedChange s.clock t) done) done
        else answer r .integrity [] s)
      s)

/-- The CLOCK_STATUS reply body (section 12.5). -/
def clockBody (c : Clock) : List Byte :=
  [c.state.code] ++ beBytes 4 c.now ++ beBytes 2 c.allowance ++ beInt32 c.residual ++ beBytes 2 c.staleness ++
    beBytes 4 c.replenishCountdown ++ beBytes 1 c.minuteCountdown

/-- CLOCK_STATUS (R15): it changes nothing. -/
def execClockStatus (s : State) : Host.Outcome State Fault Refusal :=
  .next (serveBare .clockStatus (fun r s => answer r .ok (clockBody s.clock) s) s)

end Sys2Proof.Machine
end

