-- ==== Sys2Proof/Machine/EngineRequests.lean ====
section
/-! DEFINITION. The Unwrap Engine's requests: ENGINE_STATUS and SYNC (chapter 6). -/

namespace Sys2Proof.Machine

/-- The job in service as ENGINE_STATUS carries it: requester (0xFF for none), kind, class and discard mark (section
12.5). -/
def serviceBytes : Option ServiceJob → List Byte
  | none => [0xFF, 0, 0, 0]
  | some j => [byteOf j.job.item.requester.val, j.job.item.code, byteOf j.jobClass, flagByte j.discard]

/-- A requester as ENGINE_STATUS carries it: rank, number of queued jobs, kind of the presented job or 0 (section
12.5). -/
def requesterBytes (s : State) (r : RequesterNo) : List Byte :=
  [byteOf s.engine.ranks[r], byteOf (s.engine.queued.countP fun j => j.item.requester == r),
    match presented s r with
    | some j => j.item.code
    | none => 0]

/-- The ENGINE_STATUS reply body (R95, section 12.5). -/
def engineBody (s : State) : List Byte :=
  (if s.engine.inService.isSome then 2 else 1) :: serviceBytes s.engine.inService ++
    ((List.finRange 33).map (requesterBytes s)).flatten ++
    [flagByte s.link.pendingSync.isSome,
      if s.link.pendingSync.isSome then byteOf (snapshotLeft s.engine) else 0]

/-- ENGINE_STATUS (R95): it changes nothing. -/
def execEngineStatus (s : State) : Host.Outcome State Fault Refusal :=
  .next (serveBare .engineStatus (fun r s => answer r .ok (engineBody s) s) s)

/-- The engine with every job that exists taken into the snapshot (R96). -/
def Engine.withSnapshot (e : Engine) : Engine :=
  { e with
    inService := e.inService.map fun j => { j with job := { j.job with inSnapshot := true } }
    queued := e.queued.map fun j => { j with inSnapshot := true } }

/-- SYNC (R96): refused with BUSY while one is pending; answered at once when no job exists; otherwise pending, its
reply sent at its release (R97). -/
def execSync (s : State) : Host.Outcome State Fault Refusal :=
  .next
    (serveBare .sync
      (fun r s =>
        if s.link.pendingSync.isSome then answer r .busy [] s
        else if s.engine.inService.isNone ∧ s.engine.queued = [] then answer r .ok [] s
        else
          { s with engine := s.engine.withSnapshot, link := { s.link with pendingSync := some r.tag } })
      s)

end Sys2Proof.Machine
end

