-- ==== Sys2Proof/Machine/KeyringRequests.lean ====
section
/-! DEFINITION. The Keyring's commands: DELIVER_BUNDLE, BUNDLE_STATUS, LIST_BUNDLES, DELETE_BUNDLE and the completion
of an intake unwrap (chapter 3). -/

namespace Sys2Proof.Machine

/-! ### Delivery (R42 to R46) -/

/-- Check 4: the tag verifies over the bytes before it under the IDENTITY slot (R44). -/
def deliveryVerifies (tagOver : Option BundleTag) (d : Delivery) (st : Store) : Bool :=
  match tagOver, st.identity with
  | some tag, some identity => tag == { identity, covered := d.covered }
  | _, _ => false

/-- Check 5: the revocation list bars the bundle id or the feature id (R44). -/
def barred (list : List RevocationEntry) (bundleId featureId : Ident) : Bool :=
  list.any fun e =>
    match e.kind with
    | .bundle => e.target == bundleId
    | .feature => e.target == featureId

/-- The slots of records that satisfy `p`, counted. -/
def countWhere (k : Keyring) (p : Bundle → Bool) : Nat := (slotsWhere k p).length

/-- The number of occupied slots. -/
def occupied (k : Keyring) : Nat := countWhere k fun _ => true

/-- The first check of checks 2 to 11 that a delivery fails (R42), given that its body has been read; check 2 stands
before check 3 and is made by the caller. -/
def deliveryRefusal (tagOver : Option BundleTag) (d : Delivery) (s : State) : Option Status :=
  if deliveryVerifies tagOver d s.store = false then some .integrity
  else if barred s.revocations d.bundleId d.featureId then some .revoked
  else if 0 < countWhere s.keyring (fun b => b.bundleId == d.bundleId && !b.isTombstone) then some .duplicate
  else if Config.featureRoom ≤ countWhere s.keyring (fun b => b.featureId == d.featureId && !b.isTombstone) then
    some .featureFull
  else if d.notAfter + d.grace < s.clock.now then some .expired
  else if occupied s.keyring = 64 ∧ countWhere s.keyring Bundle.isTombstone = 0 then some .keyringFull
  else if freeEntries s.keyring < d.reelCount then some .poolFull
  else if Config.intakeRoom ≤ s.keyring.intakeQueue.length then some .busy
  else none

/-- The lowest-numbered empty slot. -/
def emptySlotOf (k : Keyring) : Option SlotNo := ((List.finRange 64).filter fun i => (k.slots[i]).isNone).head?

/-- The slot of the tombstone with the oldest state-entry time, the lowest-numbered on a tie (R70). -/
def oldestTombstone (k : Keyring) : Option SlotNo :=
  (slotsWhere k Bundle.isTombstone).foldl
    (fun best i =>
      match best with
      | none => some i
      | some j =>
        if ((k.slots[i]).elim 0 (·.entryTime)) < ((k.slots[j]).elim 0 (·.entryTime)) then some i else some j)
    none

/-- The slot an accepted delivery takes (R46 step 1): a tombstone's with its own bundle id, else the lowest-numbered
empty slot, else the oldest tombstone's. -/
def deliverySlot (k : Keyring) (id : Ident) : Option SlotNo :=
  ((slotsWhere k fun b => b.bundleId == id && b.isTombstone).head?.orElse fun _ => emptySlotOf k).orElse
    fun _ => oldestTombstone k

/-- The record of an accepted delivery (R46 step 2), with its reserved entries. -/
def newRecord (d : Delivery) (refs : List PoolNo) (now : Nat) : Bundle :=
  { bundleId := d.bundleId, featureId := d.featureId, notBefore := d.notBefore, notAfter := d.notAfter
    grace := d.grace, allowance := d.allowance, screens := d.screens, reelCount := d.reelCount, poolRefs := refs
    state := .unwrapping, entryTime := now, useCount := 0, reelsUnwrapped := 0, revocationMode := none
    wrappedKeys := d.wrappedKeys }

/-- An accepted delivery takes its slot and entries, joins the intake queue, and its first reel is presented where no
intake job exists (R46). -/
def acceptDelivery (d : Delivery) (slot : SlotNo) (s : State) : State :=
  let refs := (freeNumbers s.keyring.pool).take d.reelCount
  let placed :=
    { s with
      keyring :=
        { s.keyring with
          slots := s.keyring.slots.set slot (some (newRecord d refs s.clock.now))
          pool := reserveCells refs s.keyring.pool
          intakeQueue := s.keyring.intakeQueue ++ [slot] } }
  grant (presentIntake placed)

/-- DELIVER_BUNDLE (R42): checks 2 to 11 in order; check 1 is the link's. -/
def execDeliverBundle (tagOver : Option BundleTag) (s : State) : Host.Outcome State Fault Refusal :=
  .next
    (serve .deliverBundle
      (fun r s =>
        if s.clock.state = .unset then answer r .clockUnset [] s
        else
          match parseDelivery r.body with
          | none => answer r .badRequest [] s
          | some d =>
            match deliveryRefusal tagOver d s, deliverySlot s.keyring d.bundleId with
            | some status, _ => answer r status [] s
            | none, some slot => answer r .ok [byteOf slot.val] (acceptDelivery d slot s)
            | none, none => answer r .keyringFull [] s)
      s)

/-! ### Intake (R48 to R50) -/

/-- The last reel of the bundle in a slot has passed (R49): it leaves the queue, posts BUNDLE_READY, and is judged at
once by the window cases. -/
def endIntake (slot : SlotNo) (b : Bundle) (s : State) : State :=
  let ready := { b with wrappedKeys := [] }
  enterWindow slot ready (windowCase s.clock.now s.margin.margin ready) (post (.bundleReady slot) (leaveQueue slot s))

/-- An intake job passed (R48): the key fills the reel's pool entry and reels unwrapped rises; with the last reel,
intake ends. -/
def passReel (slot : SlotNo) (b : Bundle) (key : KeyMaterial) (s : State) : State :=
  let pool :=
    match b.poolRefs[b.reelsUnwrapped]? with
    | some number => fillCell number key s.keyring.pool
    | none => s.keyring.pool
  let grown := { b with reelsUnwrapped := b.reelsUnwrapped + 1, wrappedKeys := b.wrappedKeys.tail }
  let filled := { s with keyring := { s.keyring with pool } }
  if grown.reelsUnwrapped < b.reelCount then setBundle slot (some grown) filled
  else endIntake slot grown (setBundle slot (some grown) filled)

/-- An intake job failed (R50): the bundle becomes FAILED, its entries are freed, and it leaves the queue. -/
def failReel (slot : SlotNo) (b : Bundle) (s : State) : State :=
  post (.bundleFailed slot)
    (leaveQueue slot (eraseKeys slot b (fun b => b.enter .failed s.clock.now) s))

/-- The Keyring takes the result of an intake job, while its bundle is at the head of the queue in UNWRAPPING (R48,
R50). -/
def deliverIntake (outcome : Option KeyMaterial) (j : ServiceJob) (s : State) : State :=
  match j.job.item with
  | .intake slot _ =>
    match s.keyring.slots[slot] with
    | none => s
    | some b =>
      if b.state = .unwrapping ∧ s.keyring.intakeQueue.head? = some slot then
        match outcome with
        | some key => passReel slot b key s
        | none => failReel slot b s
      else s
  | _ => s

/-- INTAKE_UNWRAP_COMPLETE (R48, R92): afterwards the requester presents the next reel or the bundle behind (R47). -/
def execIntakeUnwrapComplete (outcome : Option KeyMaterial) (s : State) : Host.Outcome State Fault Refusal :=
  .next (completeJob JobItem.isIntake (deliverIntake outcome) presentIntake s)

/-! ### Reading the keyring (R51, R52) -/

/-- The position of a slot in the intake queue: 1 for the head, 0 when it is not in the queue (R51). -/
def queuePosition (k : Keyring) (slot : SlotNo) : Nat :=
  match k.intakeQueue.findIdx? (· == slot) with
  | some i => i + 1
  | none => 0

/-- The screen count and the 32 screen bytes of a status record (section 12.5). -/
def ScreenSet.bytes : ScreenSet → List Byte
  | .all => List.replicate 33 0
  | .only screens =>
    byteOf screens.length :: screens.map (fun l => byteOf (laneNumber l)) ++ List.replicate (32 - screens.length) 0

/-- The 71-byte status record of a bundle (R51, section 12.5). -/
def statusRecord (k : Keyring) (slot : SlotNo) (b : Bundle) : List Byte :=
  [byteOf slot.val, b.state.code] ++ beBytes 8 b.bundleId.toNat ++ beBytes 8 b.featureId.toNat ++
    beBytes 4 b.notBefore ++ beBytes 4 b.notAfter ++ beBytes 2 b.grace ++
    [byteOf b.allowance, byteOf b.useCount, byteOf b.reelCount, byteOf b.reelsUnwrapped,
      byteOf (queuePosition k slot), revocationModeCode b.revocationMode] ++
    beBytes 4 b.entryTime ++ b.screens.bytes

/-- The slot a BUNDLE_STATUS names. -/
def namedSlot (k : Keyring) : BundleName → Option SlotNo
  | .bySlot slot => some slot
  | .byId id => slotOfBundle k id

/-- BUNDLE_STATUS (R51): it changes nothing. -/
def execBundleStatus (s : State) : Host.Outcome State Fault Refusal :=
  .next
    (serveWith .bundleStatus parseBundleName
      (fun name r s =>
        match namedSlot s.keyring name with
        | none => answer r .noSuch [] s
        | some slot =>
          match s.keyring.slots[slot] with
          | none => answer r .noSuch [] s
          | some b => answer r .ok (statusRecord s.keyring slot b) s)
      s)

/-- The scan of LIST_BUNDLES: from a slot on, with room for so many records and so many slots left to examine, the
slots added and the number of slots examined (R52). -/
def scanSlots (k : Keyring) (start : SlotNo) : (left : Nat) → (room : Nat) → List SlotNo × Nat
  | 0, _ => ([], 0)
  | _ + 1, 0 => ([], 0)
  | left + 1, room + 1 =>
    let rest :=
      if (k.slots[start]).isSome then scanSlots k (start + 1) left room else scanSlots k (start + 1) left (room + 1)
    (if (k.slots[start]).isSome then start :: rest.1 else rest.1, rest.2 + 1)

/-- The status record of an occupied slot. -/
def recordAt (k : Keyring) (slot : SlotNo) : List Byte :=
  match k.slots[slot] with
  | some b => statusRecord k slot b
  | none => []

/-- LIST_BUNDLES (R52): up to 16 records from the start slot or the list cursor, which moves past the last slot
examined. -/
def execListBundles (s : State) : Host.Outcome State Fault Refusal :=
  .next
    (serveWith .listBundles parseListStart
      (fun start r s =>
        let from_ := start.getD s.keyring.listCursor
        let (found, examined) := scanSlots s.keyring from_ 64 Config.listRoom
        let cursor : SlotNo := Fin.ofNat 64 (from_.val + examined)
        let body :=
          byteOf found.length :: (found.map (recordAt s.keyring)).flatten ++
            [byteOf cursor.val, byteOf (occupied s.keyring)] ++ beBytes 2 (freeEntries s.keyring)
        answer r .ok body { s with keyring := { s.keyring with listCursor := cursor } })
      s)

/-! ### Removing a bundle (R53) -/

/-- DELETE_BUNDLE: answered by the state of the record that holds the id (R53). -/
def deleteBundle (id : Ident) (r : Request) (s : State) : State :=
  match slotOfBundle s.keyring id with
  | none => answer r .noSuch [] s
  | some slot =>
    match s.keyring.slots[slot] with
    | none => answer r .noSuch [] s
    | some b =>
      if b.state = .unwrapping then answer r .busy [] s
      else if 0 < b.useCount then answer r .inUse [] s
      else
        answer r .ok [byteOf slot.val]
          (setBundle slot none { s with keyring := { s.keyring with pool := freeCells b.poolRefs s.keyring.pool } })

/-- DELETE_BUNDLE. -/
def execDeleteBundle (s : State) : Host.Outcome State Fault Refusal :=
  .next (serveWith .deleteBundle parseBundleId deleteBundle s)

end Sys2Proof.Machine
end

