-- ==== Sys2Proof/Machine/Lanes.lean ====
section
/-! DEFINITION. The Lane Controller's requests on whole screenings: OPEN_SCREENING, LANE_STATUS, END_SCREENING and
CLOSE_LANE (chapter 7). -/

namespace Sys2Proof.Machine

/-! ### Opening (R107 to R109) -/

/-- The record in a slot, as a candidate's fields are read. -/
def recordTest (k : Keyring) (p : Bundle → Bool) (slot : SlotNo) : Bool := (k.slots[slot]).any p

/-- Check 4 of R107: no record holds the feature id; or a bundle id is named, and no record holds it with that
feature. -/
def nothingHeld (k : Keyring) (q : OpenRequest) : Bool :=
  (slotsWhere k fun b => b.featureId == q.featureId).isEmpty ||
    match q.bundleId with
    | none => false
    | some id => (slotsWhere k fun b => b.bundleId == id && b.featureId == q.featureId).isEmpty

/-- The candidates: the feature's records in WAITING, LIVE or CLOSING; with a bundle id named, that one record
(R107). -/
def candidates (k : Keyring) (q : OpenRequest) : List SlotNo :=
  slotsWhere k fun b =>
    b.featureId == q.featureId && b.state.inWindow && (q.bundleId == none || q.bundleId == some b.bundleId)

/-- Whether a screen set holds a lane (R107). -/
def ScreenSet.holds (st : ScreenSet) (l : LaneNo) : Bool :=
  match st with
  | .all => true
  | .only screens => screens.contains l

/-- The survivors of checks 5 to 9, or the reply of the first of them that leaves none (R107). -/
def screenCandidates (s : State) (q : OpenRequest) : Except Status (List SlotNo) :=
  let all := candidates s.keyring q
  let live := all.filter (recordTest s.keyring fun b => b.state == .live)
  let permitted := live.filter (recordTest s.keyring fun b => b.screens.holds q.lane)
  let carrying :=
    permitted.filter
      (recordTest s.keyring fun b => decide ((q.plannedEnd : Int) ≤ (b.notAfter : Int) + b.grace - s.margin.margin))
  let starting := carrying.filter (recordTest s.keyring fun b => decide (q.firstReel ≤ b.reelCount))
  let free := starting.filter (recordTest s.keyring fun b => decide (b.useCount < b.allowance))
  if live = [] then
    if all.any (recordTest s.keyring fun b => b.state == .waiting) then .error .windowNotOpen
    else .error .windowClosed
  else if permitted = [] then .error .screenNotPermitted
  else if carrying = [] then .error .runTooLong
  else if q.plannedEnd ≤ s.clock.now ∨ starting = [] ∨ q.firstReel = 0 then .error .badRequest
  else if free = [] then .error .concurrencyFull
  else .ok free

/-- The candidate with the latest NA, the lowest-numbered slot on a tie (R108 step 1). -/
def latestEnding (k : Keyring) (slots : List SlotNo) : Option SlotNo :=
  slots.foldl
    (fun best i =>
      match best with
      | none => some i
      | some j =>
        if ((k.slots[j]).elim 0 (·.notAfter)) < ((k.slots[i]).elim 0 (·.notAfter)) then some i else some j)
    none

/-- The lane record an accepted open begins, its slots still empty (R108 steps 3 to 5). -/
def newScreening (q : OpenRequest) (slot : SlotNo) (b : Bundle) (s : State) : Screening :=
  { status := .running, featureId := q.featureId, bundleSlot := slot, bundleId := b.bundleId
    startTime := s.clock.now, plannedEnd := q.plannedEnd
    stopTime := stopTimeOf b.notAfter b.grace s.margin.margin q.plannedEnd s.params.lateAllowance
    openMargin := s.margin.margin, firstReel := q.firstReel, repeatTotal := q.repeatTotal
    current := { cycle := 1, reel := 0 }, slotX := .empty, slotY := .empty, amendment := none
    closingNotice := false, ending := none, report := { entries := [], truncated := false, cursor := 0 } }

/-- The slots are filled at the open: X with (1, f), needed now; Y with its successor, needed 600 s on (R109). -/
def fillAtOpen (l : LaneNo) (f k n : Nat) (s : State) : State :=
  let first : Position := { cycle := 1, reel := f }
  let withX := fillSlot l .x first s.clock.now s
  match successor n k first with
  | some next => fillSlot l .y next (clampTime ((s.clock.now : Int) + Config.neededLead)) withX
  | none => withX

/-- An accepted open on the chosen bundle (R108): the use is taken, the lane begun, its slots filled. -/
def openOn (q : OpenRequest) (slot : SlotNo) (b : Bundle) (s : State) : State :=
  grant
    (fillAtOpen q.lane q.firstReel q.repeatTotal b.reelCount
      (setLane q.lane (some (newScreening q slot b s)) (takeUse slot s)))

/-- OPEN_SCREENING behind check 4 (R107 checks 5 to 9, R108). -/
def openChosen (q : OpenRequest) (r : Request) (s : State) : State :=
  match screenCandidates s q with
  | .error status => answer r status [] s
  | .ok slots =>
    match latestEnding s.keyring slots with
    | none => answer r .concurrencyFull [] s
    | some slot =>
      match s.keyring.slots[slot] with
      | none => answer r .concurrencyFull [] s
      | some b =>
        answer r .ok
          (byteOf slot.val ::
            (beBytes 2 s.margin.margin ++
              beBytes 4 (stopTimeOf b.notAfter b.grace s.margin.margin q.plannedEnd s.params.lateAllowance)))
          (openOn q slot b s)

/-- OPEN_SCREENING (R107): checks 0 to 4, then 5 to 9. -/
def execOpenScreening (s : State) : Host.Outcome State Fault Refusal :=
  .next
    (serveWith .openScreening parseOpen
      (fun q r s =>
        if (s.lanes[q.lane]).isSome then answer r .laneBusy [] s
        else if (s.screens[q.lane]).binding.code ≠ 3 then answer r .screenUnbound [] s
        else if s.clock.state = .unset then answer r .clockUnset [] s
        else if nothingHeld s.keyring q then answer r .noSuch [] s
        else openChosen q r s)
      s)

/-! ### Ending and closing -/

/-- END_SCREENING (R113). -/
def endScreening (l : LaneNo) (r : Request) (s : State) : State :=
  match s.lanes[l] with
  | none => answer r .notRunning [] s
  | some sc =>
    match sc.status with
    | .running => answer r .ok (EndCause.completed.code :: beBytes 4 s.clock.now) (finishLane l .completed s)
    | .stopping => answer r .ok (EndCause.revoked.code :: beBytes 4 s.clock.now) (finishLane l .revoked s)
    | .ended | .faulted => answer r .notRunning [] s

/-- END_SCREENING. -/
def execEndScreening (s : State) : Host.Outcome State Fault Refusal :=
  .next (serveWith .endScreening parseLane endScreening s)

/-- CLOSE_LANE (R114). -/
def closeLane (l : LaneNo) (r : Request) (s : State) : State :=
  match s.lanes[l] with
  | none => answer r .notEnded [] s
  | some sc =>
    match sc.status with
    | .ended | .faulted => answer r .ok [] (setLane l none s)
    | .running | .stopping => answer r .notEnded [] s

/-- CLOSE_LANE. -/
def execCloseLane (s : State) : Host.Outcome State Fault Refusal :=
  .next (serveWith .closeLane parseLane closeLane s)

/-! ### Reading a lane (R115) -/

/-- A screen entry as LANE_STATUS carries it (section 12.5). -/
def Screen.bytes (e : Screen) : List Byte :=
  e.binding.code ::
    ((match e.binding with
      | .unbound => 0 :: List.replicate 8 0
      | .binding unitId _ => 1 :: beBytes 8 unitId.toNat
      | .bound unitId _ => 1 :: beBytes 8 unitId.toNat) ++ [byteOf e.bias])

/-- A reel slot as LANE_STATUS carries it, without its key (section 12.5). -/
def ReelSlot.bytes : ReelSlot → List Byte
  | .empty => List.replicate 7 0
  | .holds p neededBy phase => [phase.code, byteOf p.cycle, byteOf p.reel] ++ beBytes 4 neededBy

/-- A pending amendment as LANE_STATUS and AMEND_SCREENING carry it: presence, new E, new k (section 12.5). -/
def amendmentBytes (a : Amendment) : List Byte :=
  ((if a.plannedEnd.isSome then 1 else 0) ||| (if a.repeatTotal.isSome then 2 else 0)) ::
    (beBytes 4 (a.plannedEnd.getD 0) ++ [byteOf (a.repeatTotal.getD 0)])

/-- The end cause and end time of a lane, zeros while absent (section 12.5). -/
def endingBytes : Option (EndCause × Nat) → List Byte
  | none => List.replicate 5 0
  | some (cause, time) => cause.code :: beBytes 4 time

/-- The lane part of LANE_STATUS: a CLOSED lane reports its state with the screening fields absent (R115). -/
def laneBytes : Option Screening → List Byte
  | none => 1 :: List.replicate 63 0
  | some sc =>
    [sc.status.code] ++ beBytes 8 sc.featureId.toNat ++ [byteOf sc.bundleSlot.val] ++ beBytes 8 sc.bundleId.toNat ++
      beBytes 4 sc.startTime ++ beBytes 4 sc.plannedEnd ++ beBytes 4 sc.stopTime ++ beBytes 2 sc.openMargin ++
      [byteOf sc.firstReel, byteOf sc.repeatTotal, byteOf sc.current.cycle, byteOf sc.current.reel,
        flagByte sc.closingNotice] ++
      endingBytes sc.ending ++ sc.slotX.bytes ++ sc.slotY.bytes ++
      amendmentBytes (sc.amendment.getD { plannedEnd := none, repeatTotal := none }) ++
      [byteOf sc.report.entries.length, flagByte sc.report.truncated]

/-- LANE_STATUS (R115): it changes nothing. -/
def execLaneStatus (s : State) : Host.Outcome State Fault Refusal :=
  .next
    (serveWith .laneStatus parseLane
      (fun l r s => answer r .ok ((s.screens[l]).bytes ++ laneBytes s.lanes[l]) s)
      s)

end Sys2Proof.Machine
end

