-- ==== Sys2Proof/Machine/Link.lean ====
section
/-! DEFINITION. The Message Link's own commands: frames arriving and sent, unknown kinds, the notice requests, site
parameters and RESTART (chapter 10). -/

namespace Sys2Proof.Machine

/-! ### Frames on the ports -/

/-- SERIAL_FRAME (R150): bytes arrive on the serial line behind those of an unfinished frame. -/
def execSerialFrame (bytes : List Byte) (s : State) : Host.Outcome State Fault Refusal :=
  let held := s.link.serialHeld ++ bytes
  .next (if portHeard .serial s then takeSerial (hunt s.store.lineAddress false held.length held) s else s)

/-- SERIAL_BYTE_TIMEOUT (R150): the unfinished frame is discarded and the hunt resumes behind its start byte. -/
def execSerialByteTimeout (s : State) : Host.Outcome State Fault Refusal :=
  let held := s.link.serialHeld
  .next (if portHeard .serial s then takeSerial (hunt s.store.lineAddress true held.length held) s else s)

/-- LAN_FRAME (R151).  A frame that latches the LAN port ends the reading of the serial line. -/
def execLanFrame (bytes : List Byte) (checkPasses : Bool) (s : State) : Host.Outcome State Fault Refusal :=
  .next
    (if portHeard .lan s then
      match readLan s.store.station bytes checkPasses with
      | none => s
      | some (source, payload) =>
        acceptFrame .lan (.station source) payload { s with link := { s.link with serialHeld := [] } }
    else s)

/-- FRAME_SENT (R152): the oldest frame on the transmit side has been sent, and the sending of the next one begins, to
the peer address as it now stands.  When the frame sent is the reply of a RESTART, the restart is due, and no further
frame is begun before it is taken (R163).  With nothing handed there is nothing that could have been sent (assumption
log, entry 3). -/
def execFrameSent (s : State) : Host.Outcome State Fault Refusal :=
  .next
    (match s.link.transmit with
      | [] => s
      | sent :: later =>
        if s.powered && s.link.restart != .due then
          let restart : RestartPhase := if sent.role = .restartReply then .due else s.link.restart
          { s with
            link :=
              { s.link with
                transmit := later
                restart
                sending := if later.isEmpty || restart == .due then none else s.route s.link.peer } }
        else s)

/-- UNKNOWN_KIND (R154 step 1): the oldest request's kind is not a request kind of the part. -/
def execUnknownKind (s : State) : Host.Outcome State Fault Refusal :=
  .next
    (if canServe s then
      match s.link.receive with
      | [] => s
      | r :: _ => if kindKnown r.kind then s else answer r .unknownKind [] (withoutOldest s)
    else s)

/-! ### Notices -/

/-- The subjects in the fixed order, from the collection cursor on, wrapping (R158). -/
def subjectsFrom (cursor : SubjectNo) : List SubjectNo := (List.finRange 98).map fun i => cursor + i

/-- The subjects one COLLECT takes: the first 8 with pending kinds, from the cursor on (R158). -/
def collected (s : State) : List SubjectNo :=
  ((subjectsFrom s.link.cursor).filter fun i => s.link.notices[i] != 0).take Config.collectRoom

/-- A notice item: subject, kind set, and the cause when STARTED is among the kinds (R176). -/
def noticeItem (s : State) (i : SubjectNo) : List Byte :=
  [byteOf i.val, (s.link.notices[i]).setWidth 8,
    if i = linkSubject ∧ (s.link.notices[i]).getLsbD 0 = true then s.link.startCause.code else 0]

/-- The notice set with every kind of the given subjects removed. -/
def removeSubjects (taken : List SubjectNo) (notices : Vector KindSet 98) : Vector KindSet 98 :=
  tabulate fun i : SubjectNo => if taken.contains i then 0 else notices[i]

/-- COLLECT (R158). -/
def execCollect (s : State) : Host.Outcome State Fault Refusal :=
  .next
    (serveBare .collect
      (fun r s =>
        let taken := collected s
        let left := removeSubjects taken s.link.notices
        let items := (taken.map (noticeItem s)).flatten
        let cursor := match taken.getLast? with | some i => i + 1 | none => s.link.cursor
        answer r .ok (byteOf taken.length :: items ++ [flagByte (!noticesEmpty left)])
          (armWhenEmpty { s with link := { s.link with notices := left, cursor } }))
      s)

/-- DISMISS (R159). -/
def execDismiss (s : State) : Host.Outcome State Fault Refusal :=
  .next
    (serveWith .dismiss parseDismiss
      (fun (subject, listed) r s =>
        let left := match listed with | none => 0 | some kinds => s.link.notices[subject] &&& ~~~kinds
        answer r .ok [byteOf subject.val, left.setWidth 8]
          (armWhenEmpty { s with link := { s.link with notices := s.link.notices.set subject left } }))
      s)

/-- NOTICE_HOLD (R161): clearing the hold brings the ATTENTION condition to be judged. -/
def execNoticeHold (s : State) : Host.Outcome State Fault Refusal :=
  .next
    (serveWith .noticeHold parseHold
      (fun hold r s =>
        let held := { s with link := { s.link with hold } }
        answer r .ok [flagByte hold] (if hold then held else judgeAttention held))
      s)

/-! ### Site parameters (R162) -/

/-- The parameters with each present value of the request clamped to its range and stored (R162). -/
def SiteParameters.store (p : SiteParameters) (q : ParameterRequest) : SiteParameters :=
  { lateAllowance := (q.lateAllowance.map (min 7200)).getD p.lateAllowance
    marginFloor := (q.marginFloor.map (min Config.marginMax)).getD p.marginFloor
    noOpinion := (q.noOpinion.map (min Config.marginMax)).getD p.noOpinion
    closingLead := (q.closingLead.map (clampTo 60 3600)).getD p.closingLead }

/-- The reply body of SITE_PARAMETER: the four parameters as stored, and M (section 12.5). -/
def parameterBody (s : State) : List Byte :=
  beBytes 2 s.params.lateAllowance ++ beBytes 2 s.params.marginFloor ++ beBytes 2 s.params.noOpinion ++
    beBytes 2 s.params.closingLead ++ beBytes 2 s.margin.margin

/-- SITE_PARAMETER (R162): an evaluation when the floor or the no-opinion margin was present (R33). -/
def execSiteParameter (s : State) : Host.Outcome State Fault Refusal :=
  .next
    (serveWith .siteParameter parseParameters
      (fun q r s =>
        let stored := { s with params := s.params.store q }
        let done :=
          if q.marginFloor.isSome || q.noOpinion.isSome then evaluateAndSweep .parameter stored else stored
        answer r .ok (parameterBody done) done)
      s)

/-! ### RESTART (R163) -/

/-- RESTART: its OK reply is handed to transmit, and the link serves no further request. -/
def execRestart (s : State) : Host.Outcome State Fault Refusal :=
  .next
    (serveBare .restart
      (fun r s =>
        handReply .restartReply s.link.peer (replyPayload r.kind r.tag .ok [])
          { s with link := { s.link with restart := .replying } })
      s)

/-- The link after a RESTART: as at power-up, but for the bytes of a serial frame still arriving (R163; assumption
log, entry 17). -/
def Link.restarted (k : Link) : Link := { Link.atPowerUp .restart with serialHeld := k.serialHeld }

/-- The engine after a RESTART: queued jobs withdrawn, the job in service marked for discard, ranks by number, the
snapshot cleared (R100). -/
def Engine.restarted (e : Engine) : Engine :=
  { inService := e.inService.map fun j => { j with discard := true, job := { j.job with inSnapshot := false } }
    queued := []
    ranks := identityRanks }

/-- RESTART_RESET: the restart is taken, when the reply of a RESTART has been sent (R163, with R56, R100, R117,
R135).  It runs no sweep (R72); a pass that an earlier tick has made due stays due, which the manual leaves open and
the model chooses (assumption log, entry 5). -/
def execRestartReset (s : State) : Host.Outcome State Fault Refusal :=
  .next
    (if s.powered && s.link.restart == .due then
      resetKeyring
        { s with
          link := s.link.restarted
          engine := s.engine.restarted
          lanes := lanesClosed
          screens := screensAfterStart s.screens }
    else s)

end Sys2Proof.Machine
end

