-- ==== Sys2Proof/Machine/MarginTables.lean ====
section
/-! DEFINITION. The Margin Unit's requests: SET_SHAPE, SET_TERM and MARGIN_STATUS (chapter 2). -/

namespace Sys2Proof.Machine

/-- A shape's bytes as MARGIN_STATUS and SET_SHAPE carry them (section 12.5). -/
def Shape.bytes (s : Shape) : List Byte :=
  [flagByte s.inUse, s.input.code] ++ beBytes 2 s.centre ++ beBytes 2 s.leftSpread ++ beBytes 2 s.rightSpread ++
    [flagByte s.leftShoulder, flagByte s.rightShoulder]

/-- A term's bytes as MARGIN_STATUS and SET_TERM carry them; an absent B is written as zeros (section 12.5,
R175). -/
def Term.bytes (t : Term) : List Byte :=
  [flagByte t.inUse, byteOf t.a.shape.val, flagByte t.a.negate] ++
    (match t.b with
      | none => [0, 0, 0, combinatorCode none]
      | some (b, c) => [1, byteOf b.shape.val, flagByte b.negate, combinatorCode (some c)]) ++
    beBytes 2 t.proposed

/-- SET_SHAPE (R31): replaces the shape, evaluates with cause SHAPE, sweeps on a change of M, and answers with the
shape as stored and M. -/
def execSetShape (s : State) : Host.Outcome State Fault Refusal :=
  .next
    (serveWith .setShape parseShape
      (fun (i, shape) r s =>
        let done :=
          evaluateAndSweep .shape { s with margin := { s.margin with shapes := s.margin.shapes.set i shape } }
        answer r .ok (byteOf i.val :: shape.bytes ++ beBytes 2 done.margin.margin) done)
      s)

/-- SET_TERM (R32): replaces the term, evaluates with cause TERM, sweeps on a change of M, and answers with the term
as stored and M. -/
def execSetTerm (s : State) : Host.Outcome State Fault Refusal :=
  .next
    (serveWith .setTerm parseTerm
      (fun (i, term) r s =>
        let done :=
          evaluateAndSweep .term { s with margin := { s.margin with terms := s.margin.terms.set i term } }
        answer r .ok (byteOf i.val :: term.bytes ++ beBytes 2 done.margin.margin) done)
      s)

/-- The bytes of the record of the last evaluation (section 12.5). -/
def Evaluation.bytes (e : Evaluation) : List Byte :=
  beBytes 2 e.x1 ++ beBytes 2 e.x2 ++ e.grades.toList.map byteOf ++ e.weights.toList.map byteOf ++
    beBytes 2 e.weightSum ++ beBytes 4 e.productSum ++ [flagByte e.usedNoOpinion] ++ beBytes 2 e.rawMargin ++
    beBytes 2 e.margin ++ [e.cause.code] ++ beBytes 4 e.time

/-- The MARGIN_STATUS reply body (R34, section 12.5). -/
def marginBody (s : State) : List Byte :=
  (s.margin.shapes.toList.map Shape.bytes).flatten ++ (s.margin.terms.toList.map Term.bytes).flatten ++
    beBytes 2 s.params.marginFloor ++ beBytes 2 s.params.noOpinion ++ s.margin.last.bytes

/-- MARGIN_STATUS (R34): it changes nothing. -/
def execMarginStatus (s : State) : Host.Outcome State Fault Refusal :=
  .next (serveBare .marginStatus (fun r s => answer r .ok (marginBody s) s) s)

end Sys2Proof.Machine
end

