-- ==== Sys2Proof/Machine/Power.lean ====
section
/-! DEFINITION. Main power, the battery and start-up: POWER_UP, MAIN_POWER_LOSS, BATTERY_SECOND and CELL_FAILED
(chapter 11). -/

namespace Sys2Proof.Machine

/-- A state with main power off: all that the retained domain and the provisioning store do not hold is lost
(R171).  What stands in its place is the state of a block with nothing in it, and no command but POWER_UP reads it
(assumption log, entry 22). -/
def withoutPower (s : State) : State :=
  { s with
    powered := false
    keyring := { s.keyring with intakeQueue := [], listCursor := 0 }
    engine := .idle
    lanes := lanesClosed
    link := .atPowerUp .power
    due := .none }

/-- MAIN_POWER_LOSS (R16, R55, R72, R85): the retained domain keeps the state of the last whole update, which every
event has made whole. -/
def execMainPowerLoss (s : State) : Host.Outcome State Fault Refusal :=
  .next (if s.powered then withoutPower s else s)

/-- BATTERY_SECOND (R171): with main power off, the cell counts each oscillator second. -/
def execBatterySecond (s : State) : Host.Outcome State Fault Refusal :=
  .next
    (if s.powered = false ∧ s.domain.status = .sound then
      { s with domain := { s.domain with batterySeconds := s.domain.batterySeconds + 1 } }
    else s)

/-- CELL_FAILED (R171): with main power off, the domain is no longer held.  With main power on, the cell may be
replaced without effect. -/
def execCellFailed (s : State) : Host.Outcome State Fault Refusal :=
  .next
    (if s.powered = false ∧ s.domain.status = .sound then { s with domain := { s.domain with status := .cellFailed } }
    else s)

/-- The clock after the catch-up: the battery seconds applied in RUNNING, discarded in UNSET (R17). -/
def Clock.caughtUp (c : Clock) (e : Nat) : Clock :=
  match c.state with
  | .running => c.catchUp e
  | .unset => c

/-- Stages 1 and 2 of the start-up with the retained domain valid (R173): the blocks outside the domain reset, the
clock caught up, the screen map and keyring reset, the battery count at 0. -/
def startValid (s : State) : State :=
  resetKeyring
    { s with
      domain := .written
      clock := s.clock.caughtUp s.domain.batterySeconds
      engine := .idle
      screens := screensAfterStart s.screens
      lanes := lanesClosed
      link := .atPowerUp .power
      due := .none }

/-- Stage 3 of R173: with the clock RUNNING the POWER_UP evaluation, the expiry pass and the two sweeps; with the
clock UNSET nothing. -/
def beginOperation (s : State) : State :=
  match s.clock.state with
  | .running => bothSweeps .windowFirst (expiryPass (evaluateMargin .powerUp s))
  | .unset => s

/-- Stage 3 of R173 as far as it got when main power failed inside it.  The stop-time sweep finds every lane CLOSED, so
it leaves no trace. -/
def beginCut (judged : JudgedSoFar) (expired : Bool) (s : State) : State :=
  match s.clock.state with
  | .running =>
    let passed := if expired then expiryPass s else s
    match judged with
    | .nothing => passed
    | .evaluated => evaluateMargin .powerUp passed
    | .swept => windowSweep (evaluateMargin .powerUp passed)
  | .unset => s

/-- The start-up with the retained domain invalid (R174): every block at its retained-loss values, written to the
domain whole.  The provisioning store is not touched. -/
def startLost (s : State) : State :=
  { s with
    domain := .written
    clock := .afterLoss
    margin := .afterLoss
    params := .default
    keyring := .empty
    revocations := []
    engine := .idle
    screens := screensAfterLoss
    lanes := lanesClosed
    link := .atPowerUp .retainedLost
    due := .none }

/-- What the power-up check finds of the domain (R171, R172): a domain that was sound is invalid when its contents do
not agree with its check value. -/
def checkedStatus (status : DomainStatus) (checkMatches : Bool) : DomainStatus :=
  if status = .sound ∧ checkMatches = false then .mismatched else status

/-- POWER_UP (R172 to R174): the check, one of the two start-up paths, and the beginning of operation; or a start-up
that a loss of main power cuts before its update of the domain, or after it and inside stage 3. -/
def execPowerUp (checkMatches : Bool) (run : StartUpRun) (s : State) : Host.Outcome State Fault Refusal :=
  let found := checkedStatus s.domain.status checkMatches
  .next
    (if s.powered then s
    else
      match run with
      | .cutBeforeUpdate => { s with domain := { s.domain with status := found } }
      | .cutAfterUpdate judged expired =>
        withoutPower (if found = .sound then beginCut judged expired (startValid s) else startLost s)
      | .complete =>
        { (if found = .sound then beginOperation (startValid s) else startLost s) with powered := true })

end Sys2Proof.Machine
end

