-- ==== Sys2Proof/Machine/Provisioning.lean ====
section
/-! DEFINITION. The Provisioning Store: PROVISION_WRITE, PROVISION_FINALIZE and IDENTIFY (chapter 11). -/

namespace Sys2Proof.Machine

/-- The value a slot holds, when WRITTEN. -/
def Store.value (st : Store) : StoreSlot → Option Nat
  | .serial => st.serial.map (·.toNat)
  | .site => st.site.map (·.toNat)
  | .lineAddress => st.lineAddress.map (·.toNat)
  | .station => st.station.map (·.toNat)
  | .authority => st.authority.map (·.toNat)
  | .identity => st.identity.map (·.toNat)

/-- The store with a slot written. -/
def Store.write (st : Store) (slot : StoreSlot) (v : Nat) : Store :=
  match slot with
  | .serial => { st with serial := some (BitVec.ofNat 64 v) }
  | .site => { st with site := some (BitVec.ofNat 16 v) }
  | .lineAddress => { st with lineAddress := some (BitVec.ofNat 8 v) }
  | .station => { st with station := some (BitVec.ofNat 48 v) }
  | .authority => { st with authority := some (BitVec.ofNat 256 v) }
  | .identity => { st with identity := some (BitVec.ofNat 256 v) }

/-- Check 3 of R167: a SITE of 0, a LINE_ADDRESS of 0 or 255, and a STATION that is a group address or all zeros
are out of range. -/
def valueAllowed (slot : StoreSlot) (v : Nat) : Bool :=
  match slot with
  | .site => decide (v ≠ 0)
  | .lineAddress => decide (v ≠ 0 ∧ v ≠ 255)
  | .station => decide (v ≠ 0 ∧ (v / 2 ^ 40) % 2 = 0)
  | .serial | .authority | .identity => true

/-- The reply body of PROVISION_WRITE and PROVISION_FINALIZE (section 12.5). -/
def storeBody (slot : Byte) (st : Store) : List Byte := [slot, st.state.code, st.writtenFlags]

/-- The peer to which an accepted PROVISION_WRITE is answered: a write of the line address in a serial session is
answered to the address its request came with (R150), any other request to the peer address (R152).  R150 speaks of
a write that is taken, and the model reads it so: a refused write of the line address is answered to the peer address
(assumption log, entry 9). -/
def writePeer (slot : StoreSlot) (r : Request) (s : State) : Option Peer :=
  match slot with
  | .lineAddress => if s.link.latch = some .serial then some r.sender else s.link.peer
  | _ => s.link.peer

/-- PROVISION_WRITE (R167): the checks in order, then the write. -/
def provisionWrite (r : Request) (s : State) : State :=
  if s.store.state = .final then answer r .final [] s
  else
    match parseProvision r.body with
    | none => answer r .badRequest [] s
    | some (slot, v) =>
      if valueAllowed slot v = false then answer r .badRequest [] s
      else
        match s.store.value slot with
        | some old =>
          if old = v then
            handReply .reply (writePeer slot r s) (replyPayload r.kind r.tag .ok (storeBody slot.code s.store)) s
          else answer r .alreadyWritten [] s
        | none =>
          let written := { s with store := s.store.write slot v }
          handReply .reply (writePeer slot r s) (replyPayload r.kind r.tag .ok (storeBody slot.code written.store))
            written

/-- PROVISION_WRITE. -/
def execProvisionWrite (s : State) : Host.Outcome State Fault Refusal :=
  .next (serve .provisionWrite provisionWrite s)

/-- PROVISION_FINALIZE (R168). -/
def execProvisionFinalize (s : State) : Host.Outcome State Fault Refusal :=
  .next
    (serveBare .provisionFinalize
      (fun r s =>
        if s.store.state = .final then answer r .ok (storeBody 0 s.store) s
        else if s.store.complete then
          let finished := { s with store := { s.store with state := .final } }
          answer r .ok (storeBody 0 finished.store) finished
        else answer r .incomplete (storeBody 0 s.store) s)
      s)

/-- The bytes of an optional value: all zero when absent (R175). -/
def optionalBytes {n : Nat} (width : Nat) (v : Option (BitVec n)) : List Byte := beBytes width ((v.map (·.toNat)).getD 0)

/-- The IDENTIFY reply body (section 12.5). -/
def identifyBody (s : State) : List Byte :=
  optionalBytes 8 s.store.serial ++ [s.store.state.code, s.store.writtenFlags] ++ optionalBytes 2 s.store.site ++
    optionalBytes 1 s.store.lineAddress ++ optionalBytes 6 s.store.station ++ optionalBytes 32 s.store.authority ++
    [s.clock.state.code] ++ beBytes 4 s.clock.now

/-- IDENTIFY (R170): served in every state of the store and the clock, it changes nothing. -/
def execIdentify (s : State) : Host.Outcome State Fault Refusal :=
  .next (serveBare .identify (fun r s => answer r .ok (identifyBody s) s) s)

end Sys2Proof.Machine
end

