-- ==== Sys2Proof/Machine/Reels.lean ====
section
/-! DEFINITION. Reel service: FETCH_REEL, REEL_BEGIN with the application of an amendment, and the
completion of a rewrap (chapters 8 and 9). -/

namespace Sys2Proof.Machine

/-! ### The completion of a rewrap (R122, R123) -/

/-- The lane takes the result of a rewrap job: its slot becomes READY with the wrapped key and REEL_READY is posted,
or the lane becomes FAULTED (R122, R123). -/
def deliverRewrap (outcome : Option WrappedReelKey) (j : ServiceJob) (s : State) : State :=
  match j.job.item with
  | .rewrap l n _ _ =>
    match s.lanes[l] with
    | none => s
    | some sc =>
      match sc.slot n with
      | .holds p neededBy .unwrapping =>
        match outcome with
        | some key => post (.reelReady l) (setLane l (some (sc.withSlot n (.holds p neededBy (.ready key)))) s)
        | none => faultLane l s
      | _ => s
  | _ => s

/-- REWRAP_COMPLETE (R122, R123, R92). -/
def execRewrapComplete (outcome : Option WrappedReelKey) (s : State) : Host.Outcome State Fault Refusal :=
  .next (completeJob JobItem.isRewrap (deliverRewrap outcome) id s)

/-! ### Releasing a reel (R125 to R127) -/

/-- The position at which a slot holds the requested reel for the current cycle or the next (R126). -/
def Screening.reelAt (sc : Screening) (reel : Nat) (n : SlotName) : Option Position :=
  match (sc.slot n).position? with
  | some p =>
    if p.reel = reel ∧ (p.cycle = sc.current.cycle ∨ p.cycle = sc.current.cycle + 1) then some p else none
  | none => none

/-- The slot found for a requested reel (R126): the one that holds it; of two, the one after the current position;
of two after it, the earlier; of none after it, the one at it. -/
def Screening.findReel (sc : Screening) (reel : Nat) : Option SlotName :=
  match sc.reelAt reel .x, sc.reelAt reel .y with
  | some _, none => some .x
  | none, some _ => some .y
  | none, none => none
  | some p, some q =>
    match sc.current.before p, sc.current.before q with
    | true, false => some .x
    | false, true => some .y
    | true, true => if p.before q then some .x else some .y
    | false, false => if p = sc.current then some .x else some .y

/-- A report with a release added: at the tail, or the truncated flag set when it holds 64 entries (R144). -/
def Report.add (rep : Report) (e : ReportEntry) : Report :=
  if rep.entries.length < Config.reportRoom then { rep with entries := rep.entries ++ [e] }
  else { rep with truncated := true }

/-- The entry of a release made now (R127). -/
def releaseEntry (p : Position) (neededBy now : Nat) : ReportEntry :=
  { position := p, released := now, neededBy, lateness := now - neededBy }

/-- The FETCH_REEL reply body (section 12.5). -/
def fetchBody (l : LaneNo) (p : Position) (e : Screen) (again : Bool) (key : WrappedReelKey) : List Byte :=
  [byteOf (laneNumber l), byteOf p.cycle, byteOf p.reel] ++
    (match e.binding with
      | .unbound => List.replicate 8 0
      | .binding unitId _ => beBytes 8 unitId.toNat
      | .bound unitId _ => beBytes 8 unitId.toNat) ++
    flagByte again :: beBytes 40 key.toNat

/-- FETCH_REEL behind checks 1 and 2, answered from the slot found (R125 checks 3 and 4, R127). -/
def releaseReel (l : LaneNo) (reel : Nat) (sc : Screening) (r : Request) (s : State) : State :=
  match sc.findReel reel with
  | none => answer r .outOfSequence [] s
  | some n =>
    match sc.slot n with
    | .holds p neededBy (.ready key) =>
      let released :=
        { sc.withSlot n (.holds p neededBy (.delivered key)) with
          report := sc.report.add (releaseEntry p neededBy s.clock.now) }
      answer r .ok (fetchBody l p s.screens[l] false key) (setLane l (some released) s)
    | .holds p _ (.delivered key) => answer r .ok (fetchBody l p s.screens[l] true key) s
    | _ => answer r .notReady [] s

/-- FETCH_REEL (R125). -/
def fetchReel (q : LaneNo × Nat) (r : Request) (s : State) : State :=
  match s.lanes[q.1] with
  | none => answer r .notRunning [] s
  | some sc =>
    match sc.status with
    | .stopping => answer r .revoked [] s
    | .ended | .faulted => answer r .notRunning [] s
    | .running =>
      if sc.stopTime < s.clock.now then answer r .expired [] s else releaseReel q.1 q.2 sc r s

/-- FETCH_REEL. -/
def execFetchReel (s : State) : Host.Outcome State Fault Refusal :=
  .next (serveWith .fetchReel parseFetch fetchReel s)

/-! ### Following the playback unit (R128 to R130) -/

/-- The expected position: (1, f) before the first accepted begin, and then the successor of the current position
(R128). -/
def Screening.expected (sc : Screening) (n : Nat) : Option Position :=
  if sc.current.reel = 0 then some { cycle := 1, reel := sc.firstReel }
  else successor n sc.repeatTotal sc.current

/-- The slot that holds a position (R128 check 3). -/
def Screening.slotAt (sc : Screening) (p : Position) : Option SlotName :=
  if sc.slotX.isAt p then some .x else if sc.slotY.isAt p then some .y else none

/-- The other slot. -/
def SlotName.other : SlotName → SlotName
  | .x => .y
  | .y => .x

/-- Whether a slot is DELIVERED. -/
def ReelSlot.isDelivered : ReelSlot → Bool
  | .holds _ _ (.delivered _) => true
  | _ => false

/-- Steps 1, 2 and 5 of R139 on the lane record: E and k replaced, k at least the current cycle, H and the
closing-notice flag computed again (R140), the amendment gone. -/
def Screening.amended (sc : Screening) (a : Amendment) (k : Keyring) (late lead now : Nat) : Screening :=
  let plannedEnd := a.plannedEnd.getD sc.plannedEnd
  let stopTime :=
    match k.slots[sc.bundleSlot] with
    | some b => stopTimeOf b.notAfter b.grace sc.openMargin plannedEnd late
    | none => sc.stopTime
  { sc with
    plannedEnd
    repeatTotal := max (a.repeatTotal.getD sc.repeatTotal) sc.current.cycle
    stopTime
    closingNotice := if (lead : Int) < (stopTime : Int) - now then false else sc.closingNotice
    amendment := none }

/-- Empties a slot that holds a position after the current one which is not its successor (R142). -/
def emptyStale (l : LaneNo) (n : SlotName) (next : Option Position) (s : State) : State :=
  match s.lanes[l] with
  | none => s
  | some sc =>
    match (sc.slot n).position? with
    | some p => if sc.current.before p = true ∧ next ≠ some p then emptySlot l n s else s
    | none => s

/-- The EMPTY slot of a lane, if one is. -/
def Screening.emptySlotName (sc : Screening) : Option SlotName :=
  if sc.slotX = .empty then some .x else if sc.slotY = .empty then some .y else none

/-- Fills the EMPTY slot with a position that no slot holds (R142, R129 step 4); the slot filled is reported. -/
def fillEmpty (l : LaneNo) (next : Option Position) (neededBy : Nat) (s : State) : State × Option (Position × Nat) :=
  match s.lanes[l], next with
  | some sc, some p =>
    if (sc.slotAt p).isSome then (s, none)
    else
      match sc.emptySlotName with
      | some n => (fillSlot l n p neededBy s, some (p, neededBy))
      | none => (s, none)
  | _, _ => (s, none)

/-- A needed-by 600 s on, clamped (R129). -/
def defaultNeeded (now : Nat) : Nat := clampTime ((now : Int) + Config.neededLead)

/-- Step 4 of R139: the slots are brought into line with the new repeat total (R142). -/
def alignSlots (l : LaneNo) (first : Bool) (next : Option Position) (s : State) : State :=
  let cleared := emptyStale l .y next (emptyStale l .x next s)
  if first then (fillEmpty l next (defaultNeeded s.clock.now) cleared).1 else cleared

/-- The reply body of an accepted REEL_BEGIN (R130, section 12.5). -/
def beginBody (status : LaneStatus) (current : Position) (refill : Option (Position × Nat)) : List Byte :=
  [status.code, byteOf current.cycle, byteOf current.reel] ++
    match refill with
    | none => List.replicate 7 0
    | some (p, neededBy) => [1, byteOf p.cycle, byteOf p.reel] ++ beBytes 4 neededBy

/-- Steps 3 to 5 of R129: the slot of the previous position is emptied, unless this is the first begin, and the
successor of the new current position takes the free slot. -/
def refillAfter (l : LaneNo) (first : Bool) (holder : SlotName) (next : Option Position) (neededBy : Nat) (s : State) :
    State × Option (Position × Nat) :=
  if first then fillEmpty l next neededBy s else fillEmpty l next neededBy (emptySlot l holder.other s)

/-- An accepted begin of the expected position `p`, held by slot `holder` (R129): the position moves, a pending
amendment is applied, and the slots follow. -/
def acceptBegin (q : BeginRequest) (sc : Screening) (n : Nat) (p : Position) (holder : SlotName) (r : Request)
    (s : State) : State :=
  let first := decide (sc.current.reel = 0)
  let neededBy :=
    match q.nextNeeded with
    | some t => max t s.clock.now
    | none => defaultNeeded s.clock.now
  let moved : Screening := { sc with current := p }
  match sc.amendment with
  | none =>
    let (done, refill) :=
      refillAfter q.lane first holder (successor n moved.repeatTotal p) neededBy (setLane q.lane (some moved) s)
    answer r .ok (beginBody .running p refill) (grant done)
  | some a =>
    let applied := moved.amended a s.keyring s.params.lateAllowance s.params.closingLead s.clock.now
    let stored := setLane q.lane (some applied) s
    if applied.stopTime < s.clock.now then
      answer r .ok (beginBody .ended p none) (finishLane q.lane .stopTime stored)
    else
      let next := successor n applied.repeatTotal p
      let (done, refill) := refillAfter q.lane first holder next neededBy (alignSlots q.lane first next stored)
      answer r .ok (beginBody .running p refill) (grant done)

/-- REEL_BEGIN behind checks 1 and 2 (R128 checks 3 and 4). -/
def beginReel (q : BeginRequest) (sc : Screening) (r : Request) (s : State) : State :=
  let n := laneReels s.keyring sc
  match sc.expected n with
  | none => answer r .outOfSequence [] s
  | some p =>
    match sc.slotAt p with
    | none => answer r .outOfSequence [] s
    | some holder =>
      if p.reel ≠ q.reel then answer r .outOfSequence [] s
      else if (sc.slot holder).isDelivered = false then answer r .notDelivered [] s
      else acceptBegin q sc n p holder r s

/-- REEL_BEGIN (R128).  On a STOPPING lane it is refused with REVOKED, the lane ends, and the reply carries the end
time (R130). -/
def reelBegin (q : BeginRequest) (r : Request) (s : State) : State :=
  match s.lanes[q.lane] with
  | none => answer r .notRunning [] s
  | some sc =>
    match sc.status with
    | .ended | .faulted => answer r .notRunning [] s
    | .stopping => answer r .revoked (beBytes 4 s.clock.now) (finishLane q.lane .revoked s)
    | .running => beginReel q sc r s

/-- REEL_BEGIN. -/
def execReelBegin (s : State) : Host.Outcome State Fault Refusal :=
  .next (serveWith .reelBegin parseBegin reelBegin s)

end Sys2Proof.Machine
end

