-- ==== Sys2Proof/Machine/Reports.lean ====
section
/-! DEFINITION. AMEND_SCREENING and FETCH_REPORT (chapter 9, section 12.6). -/

namespace Sys2Proof.Machine

/-! ### Amendments (R137, R138) -/

/-- The amendment as stored: its repeat total, already clamped, raised to the current cycle (R137 step 1). -/
def Amendment.raisedTo (a : Amendment) (cycle : Nat) : Amendment :=
  { a with repeatTotal := a.repeatTotal.map (max cycle) }

/-- AMEND_SCREENING (R137): the pending amendment becomes the request's, and replaces one already pending
entirely. -/
def amendScreening (q : LaneNo × Amendment) (r : Request) (s : State) : State :=
  match s.lanes[q.1] with
  | none => answer r .notRunning [] s
  | some sc =>
    match sc.status with
    | .running =>
      let stored := q.2.raisedTo sc.current.cycle
      answer r .ok (amendmentBytes stored ++ [flagByte sc.amendment.isSome])
        (setLane q.1 (some { sc with amendment := some stored }) s)
    | .stopping | .ended | .faulted => answer r .notRunning [] s

/-- AMEND_SCREENING. -/
def execAmendScreening (s : State) : Host.Outcome State Fault Refusal :=
  .next (serveWith .amendScreening parseAmend amendScreening s)

/-! ### The screening report (R146, R147, R177) -/

/-- An entry item: tag 0x5A, then cycle, reel, release time, needed-by and lateness (section 12.6). -/
def ReportEntry.item (e : ReportEntry) : List Byte :=
  [0x5A, byteOf e.position.cycle, byteOf e.position.reel] ++ beBytes 4 e.released ++ beBytes 4 e.neededBy ++
    beBytes 4 e.lateness

/-- The end time and end cause as the report header carries them: end time first (section 12.6). -/
def headerEnding : Option (EndCause × Nat) → List Byte
  | none => List.replicate 5 0
  | some (cause, time) => beBytes 4 time ++ [cause.code]

/-- The FETCH_REPORT reply body: the lane, the header, the items from `first`, the empty-position item when a
truncated report is read to its end, and the end item (R147, R177). -/
def reportBody (l : LaneNo) (sc : Screening) (first : Nat) : List Byte :=
  let page := (sc.report.entries.drop first).take Config.reportPage
  let after := first + page.length
  byteOf (laneNumber l) ::
    (beBytes 8 sc.featureId.toNat ++ beBytes 8 sc.bundleId.toNat ++ beBytes 4 sc.startTime ++ headerEnding sc.ending ++
      [byteOf sc.report.entries.length, flagByte sc.report.truncated, byteOf first, byteOf after] ++
      (page.map ReportEntry.item).flatten ++
      (if sc.report.truncated = true ∧ after = sc.report.entries.length then [0x55] else []) ++ [0x07])

/-- The report cursor after a fetch that starts at `first` (R146). -/
def Report.after (rep : Report) (first : Nat) : Nat := first + ((rep.entries.drop first).take Config.reportPage).length

/-- FETCH_REPORT (R146). -/
def fetchReport (q : LaneNo × Option Nat) (r : Request) (s : State) : State :=
  match s.lanes[q.1] with
  | none => answer r .notEnded [] s
  | some sc =>
    if sc.report.entries.length < q.2.getD 0 then answer r .badRequest [] s
    else
      match sc.status with
      | .running | .stopping => answer r .notEnded [] s
      | .ended | .faulted =>
        let first := q.2.getD sc.report.cursor
        answer r .ok (reportBody q.1 sc first)
          (setLane q.1 (some { sc with report := { sc.report with cursor := sc.report.after first } }) s)

/-- FETCH_REPORT. -/
def execFetchReport (s : State) : Host.Outcome State Fault Refusal :=
  .next (serveWith .fetchReport parseReport fetchReport s)

end Sys2Proof.Machine
end

