-- ==== Sys2Proof/Machine/Revocation.lean ====
section
/-! DEFINITION. The Revocation List's requests: REVOKE and LIST_REVOCATIONS (chapter 5). -/

namespace Sys2Proof.Machine

/-! ### The list (R74, R75) -/

/-- Check 2 of R74: the tag verifies over the order's four fields under the AUTHORITY slot. -/
def orderVerifies (tagOver : Option OrderTag) (o : Order) (st : Store) : Bool :=
  match tagOver, st.authority with
  | some tag, some authority => tag == { authority, covered := o.covered }
  | _, _ => false

/-- What an accepted order did to the list (R75). -/
inductive ListAction where
  | added | extended | kept | replaced
  deriving DecidableEq, Repr

/-- The list action byte (section 12.3). -/
def ListAction.code : ListAction → Byte
  | .added => 1
  | .extended => 2
  | .kept => 3
  | .replaced => 4

/-- Whether an entry holds an order's kind and id. -/
def RevocationEntry.sameTarget (e : RevocationEntry) (o : Order) : Bool := e.kind == o.kind && e.target == o.target

/-- The earliest until on the list; 0 for an empty one, which is never full. -/
def earliestUntil : List RevocationEntry → Nat
  | [] => 0
  | e :: rest => rest.foldl (fun m d => min m d.expires) e.expires

/-- Removes the oldest arrival among the entries with the given until (R75). -/
def removeFirstUntil (u : Nat) : List RevocationEntry → List RevocationEntry
  | [] => []
  | e :: rest => if e.expires = u then rest else e :: removeFirstUntil u rest

/-- The entry an order makes. -/
def Order.entry (o : Order) : RevocationEntry := { kind := o.kind, target := o.target, expires := o.expires }

/-- The list after an order, and the list action; `none` when the order is refused with LIST_FULL (R74 check 4,
R75). -/
def updateList (list : List RevocationEntry) (o : Order) : Option (List RevocationEntry × ListAction) :=
  match list.find? fun e => e.sameTarget o with
  | some e =>
    if e.expires < o.expires then
      some (list.map fun d => if d.sameTarget o then { d with expires := o.expires } else d, .extended)
    else some (list, .kept)
  | none =>
    if list.length < Config.revocationRoom then some (list ++ [o.entry], .added)
    else if earliestUntil list < o.expires then some (removeFirstUntil (earliestUntil list) list ++ [o.entry], .replaced)
    else none

/-! ### Applying an order (R76 to R79) -/

/-- Whether a record matches an order (R76). -/
def Bundle.matchesOrder (b : Bundle) (o : Order) : Bool :=
  match o.kind with
  | .bundle => b.bundleId == o.target
  | .feature => b.featureId == o.target

/-- A bundle with no use is made a REVOKED tombstone at once (R76). -/
def strikeUnused (slot : SlotNo) (b : Bundle) (s : State) : State :=
  eraseKeys slot b (fun b => b.enter .revoked s.clock.now) s

/-- A bundle in UNWRAPPING is abandoned (R77): it leaves the queue, its entries are freed, its job is withdrawn or
marked, and the requester presents for the new head unless a job is still in service. -/
def abandonIntake (slot : SlotNo) (b : Bundle) (s : State) : State :=
  presentIntake (dropJobs (JobItem.isIntakeOf slot) (leaveQueue slot (strikeUnused slot b s)))

/-- The RUNNING lanes whose bundle slot is `slot`. -/
def lanesOn (slot : SlotNo) (s : State) : List LaneNo :=
  (List.finRange 32).filter fun l => (s.lanes[l]).any fun sc => sc.status == .running && sc.bundleSlot == slot

/-- Stops every RUNNING lane on a bundle, and counts them (R79). -/
def stopLanes (slot : SlotNo) (s : State) : State × Nat :=
  ((lanesOn slot s).foldl (fun t l => stopLane l t) s, (lanesOn slot s).length)

/-- The state an order leaves at one slot, whether the bundle counts as affected, and the lanes stopped (R76 to
R79). -/
def strikeSlot (o : Order) (slot : SlotNo) (s : State) : State × Nat × Nat :=
  match s.keyring.slots[slot] with
  | none => (s, 0, 0)
  | some b =>
    if b.matchesOrder o = false then (s, 0, 0)
    else
      match b.state with
      | .unwrapping => (abandonIntake slot b s, 1, 0)
      | .waiting | .live | .closing =>
        if b.useCount = 0 then (strikeUnused slot b s, 1, 0)
        else
          let held :=
            setBundle slot (some { b.enter .revoked s.clock.now with revocationMode := some o.mode }) s
          match o.mode with
          | .immediate => ((stopLanes slot held).1, 1, (stopLanes slot held).2)
          | .afterScreening => (held, 1, 0)
      | .revoked =>
        if 0 < b.useCount ∧ o.mode = .immediate ∧ b.revocationMode = some .afterScreening then
          let raised := setBundle slot (some { b with revocationMode := some .immediate }) s
          ((stopLanes slot raised).1, 1, (stopLanes slot raised).2)
        else (s, 0, 0)
      | .expired | .failed => (s, 0, 0)

/-- Applies an order to the keyring, slot by slot, counting bundles affected and lanes stopped (R76). -/
def applyOrder (o : Order) (s : State) : State × Nat × Nat :=
  (List.finRange 64).foldl
    (fun acc slot =>
      let one := strikeSlot o slot acc.1
      (one.1, acc.2.1 + one.2.1, acc.2.2 + one.2.2))
    (s, 0, 0)

/-! ### The requests -/

/-- REVOKE (R74 to R81): the checks in order, then the list, the keyring and the lanes, then the reply. -/
def execRevoke (tagOver : Option OrderTag) (s : State) : Host.Outcome State Fault Refusal :=
  .next
    (serveWith .revoke parseOrder
      (fun o r s =>
        if orderVerifies tagOver o s.store = false then answer r .integrity [] s
        else if o.expires ≤ s.clock.now then answer r .badRequest [] s
        else
          match updateList s.revocations o with
          | none => answer r .listFull [] s
          | some (list, action) =>
            let (done, affected, stopped) := applyOrder o { s with revocations := list }
            answer r .ok [action.code, byteOf affected, byteOf stopped, byteOf list.length] done)
      s)

/-- The bytes of one entry in a LIST_REVOCATIONS reply (section 12.5). -/
def RevocationEntry.bytes (e : RevocationEntry) : List Byte :=
  e.kind.code :: (beBytes 8 e.target.toNat ++ beBytes 4 e.expires)

/-- LIST_REVOCATIONS (R83): it changes nothing. -/
def execListRevocations (s : State) : Host.Outcome State Fault Refusal :=
  .next
    (serveBare .listRevocations
      (fun r s =>
        answer r .ok (byteOf s.revocations.length :: (s.revocations.map RevocationEntry.bytes).flatten) s)
      s)

end Sys2Proof.Machine
end

