-- ==== Sys2Proof/Machine/Screens.lean ====
section
/-! DEFINITION. The screen map's commands: BIND_SCREEN, UNBIND_SCREEN, SET_BIAS and the completion of a bind job
(chapter 7). -/

namespace Sys2Proof.Machine

/-- Replaces a screen map entry. -/
def setScreen (l : LaneNo) (e : Screen) (s : State) : State := { s with screens := s.screens.set l e }

/-- Check 2 of R102: the screen's lane must be CLOSED. -/
def whenClosed (l : LaneNo) (r : Request) (s : State) (act : State → State) : State :=
  if (s.lanes[l]).isSome then answer r .laneBusy [] s else act s

/-- BIND_SCREEN (R103): a pending binding is abandoned, the entry becomes BINDING with the new unit, wrapped key and
bias, and a new bind job is created. -/
def execBindScreen (s : State) : Host.Outcome State Fault Refusal :=
  .next
    (serveWith .bindScreen parseBind
      (fun q r s =>
        whenClosed q.screen r s fun s =>
          let abandoned := dropJobs (JobItem.isBindOf q.screen) s
          let entry : Screen := { binding := .binding q.unitId q.wrapped, bias := q.bias }
          let done := grant (createJob (.bind q.screen) (setScreen q.screen entry abandoned))
          answer r .ok [byteOf q.bias] done)
      s)

/-- UNBIND_SCREEN (R105): the entry becomes UNBOUND, its bias kept, and a pending bind job is dropped. -/
def execUnbindScreen (s : State) : Host.Outcome State Fault Refusal :=
  .next
    (serveWith .unbindScreen parseLane
      (fun l r s =>
        whenClosed l r s fun s =>
          answer r .ok []
            (setScreen l { s.screens[l] with binding := .unbound } (dropJobs (JobItem.isBindOf l) s)))
      s)

/-- SET_BIAS (R105): the bias is stored, whatever the entry's state. -/
def execSetBias (s : State) : Host.Outcome State Fault Refusal :=
  .next
    (serveWith .setBias parseBias
      (fun (l, bias) r s =>
        whenClosed l r s fun s => answer r .ok [byteOf bias] (setScreen l { s.screens[l] with bias := bias } s))
      s)

/-- The screen entry takes the result of its bind job (R104). -/
def deliverBind (outcome : Option KeyMaterial) (j : ServiceJob) (s : State) : State :=
  match j.job.item with
  | .bind l =>
    match (s.screens[l]).binding, outcome with
    | .binding unitId _, some key => setScreen l { s.screens[l] with binding := .bound unitId key } s
    | .binding _ _, none => post (.bindFailed l) (setScreen l { s.screens[l] with binding := .unbound } s)
    | _, _ => s
  | _ => s

/-- BIND_COMPLETE (R104, R92). -/
def execBindComplete (outcome : Option KeyMaterial) (s : State) : Host.Outcome State Fault Refusal :=
  .next (completeJob JobItem.isBind (deliverBind outcome) id s)

end Sys2Proof.Machine
end

