-- ==== Sys2Proof/Machine/Dispatch.lean ====
section
/-! DEFINITION. The meaning of each command: one arm per constructor, each a call of that command's own meaning. -/

namespace Sys2Proof.Machine

def exec (i : Instr) (s : State) : Host.Outcome State Fault Refusal :=
  match i with
  | .serialFrame bytes => Sys2Proof.Machine.execSerialFrame bytes s
  | .lanFrame bytes checkPasses => Sys2Proof.Machine.execLanFrame bytes checkPasses s
  | .serialByteTimeout => Sys2Proof.Machine.execSerialByteTimeout s
  | .frameSent => Sys2Proof.Machine.execFrameSent s
  | .unknownKind => Sys2Proof.Machine.execUnknownKind s
  | .identify => Sys2Proof.Machine.execIdentify s
  | .provisionWrite => Sys2Proof.Machine.execProvisionWrite s
  | .provisionFinalize => Sys2Proof.Machine.execProvisionFinalize s
  | .collect => Sys2Proof.Machine.execCollect s
  | .dismiss => Sys2Proof.Machine.execDismiss s
  | .noticeHold => Sys2Proof.Machine.execNoticeHold s
  | .restart => Sys2Proof.Machine.execRestart s
  | .restartReset => Sys2Proof.Machine.execRestartReset s
  | .siteParameter => Sys2Proof.Machine.execSiteParameter s
  | .timeClaim tagOver order => Sys2Proof.Machine.execTimeClaim tagOver order s
  | .clockStatus => Sys2Proof.Machine.execClockStatus s
  | .setShape => Sys2Proof.Machine.execSetShape s
  | .setTerm => Sys2Proof.Machine.execSetTerm s
  | .marginStatus => Sys2Proof.Machine.execMarginStatus s
  | .deliverBundle tagOver => Sys2Proof.Machine.execDeliverBundle tagOver s
  | .bundleStatus => Sys2Proof.Machine.execBundleStatus s
  | .listBundles => Sys2Proof.Machine.execListBundles s
  | .deleteBundle => Sys2Proof.Machine.execDeleteBundle s
  | .revoke tagOver => Sys2Proof.Machine.execRevoke tagOver s
  | .listRevocations => Sys2Proof.Machine.execListRevocations s
  | .engineStatus => Sys2Proof.Machine.execEngineStatus s
  | .sync => Sys2Proof.Machine.execSync s
  | .bindScreen => Sys2Proof.Machine.execBindScreen s
  | .unbindScreen => Sys2Proof.Machine.execUnbindScreen s
  | .setBias => Sys2Proof.Machine.execSetBias s
  | .openScreening => Sys2Proof.Machine.execOpenScreening s
  | .laneStatus => Sys2Proof.Machine.execLaneStatus s
  | .endScreening => Sys2Proof.Machine.execEndScreening s
  | .closeLane => Sys2Proof.Machine.execCloseLane s
  | .fetchReel => Sys2Proof.Machine.execFetchReel s
  | .reelBegin => Sys2Proof.Machine.execReelBegin s
  | .amendScreening => Sys2Proof.Machine.execAmendScreening s
  | .fetchReport => Sys2Proof.Machine.execFetchReport s
  | .tick part => Sys2Proof.Machine.execTick part s
  | .stalenessMinute order => Sys2Proof.Machine.execStalenessMinute order s
  | .replenish order => Sys2Proof.Machine.execReplenish order s
  | .intakeUnwrapComplete outcome => Sys2Proof.Machine.execIntakeUnwrapComplete outcome s
  | .rewrapComplete outcome => Sys2Proof.Machine.execRewrapComplete outcome s
  | .bindComplete outcome => Sys2Proof.Machine.execBindComplete outcome s
  | .powerUp checkMatches run => Sys2Proof.Machine.execPowerUp checkMatches run s
  | .mainPowerLoss => Sys2Proof.Machine.execMainPowerLoss s
  | .batterySecond => Sys2Proof.Machine.execBatterySecond s
  | .cellFailed => Sys2Proof.Machine.execCellFailed s

end Sys2Proof.Machine
end

