-- ==== Sys2Proof/Safety.lean ====
section
/-! DEFINITION. What the manual says holds of the controller at every moment between two events: the standing
conditions that the claims speak of.  Each is a condition on a state alone. -/

namespace Sys2Proof.Machine

/-! ### Part Clock and Margin Unit -/

/-- The ranges of section 1.1, and the values the clock holds while UNSET (R4, R18). -/
def Clock.Ok (c : Clock) : Prop :=
  c.now ≤ 4294967295 ∧ c.allowance ≤ 900 ∧ c.residual.natAbs ≤ 65535 ∧ c.staleness ≤ 65535 ∧
    (1 ≤ c.minuteCountdown ∧ c.minuteCountdown ≤ 60) ∧
    (1 ≤ c.replenishCountdown ∧ c.replenishCountdown ≤ 86400) ∧
    (c.state = .unset → c.now = 0 ∧ c.allowance = 0 ∧ c.residual = 0 ∧ c.staleness = 65535)

/-- The ranges of the site parameters (R162). -/
def SiteParameters.Ok (p : SiteParameters) : Prop :=
  p.lateAllowance ≤ 7200 ∧ p.marginFloor ≤ 3600 ∧ p.noOpinion ≤ 3600 ∧ 60 ≤ p.closingLead ∧ p.closingLead ≤ 3600

/-- M lies from the margin floor to 3,600 and is the margin of the last evaluation (R20, R21); the tables, grades and
weights lie in their ranges (R23 to R26). -/
def MarginOk (s : State) : Prop :=
  s.params.Ok ∧ s.params.marginFloor ≤ s.margin.margin ∧ s.margin.margin ≤ 3600 ∧
    s.margin.last.margin = s.margin.margin ∧
    (∀ i : TableNo,
      s.margin.shapes[i].centre ≤ 65535 ∧ s.margin.shapes[i].leftSpread ≤ 65535 ∧
        s.margin.shapes[i].rightSpread ≤ 65535 ∧ s.margin.terms[i].proposed ≤ 3600 ∧
        s.margin.last.grades[i] ≤ 255 ∧ s.margin.last.weights[i] ≤ 255)

/-! ### Keyring and Revocation List -/

/-- No two records hold the same bundle id, and no feature has more than 4 non-tombstone records (R38); the delivered
values lie in their ranges (section 3.1). -/
def RecordsOk (s : State) : Prop :=
  (∀ i j : SlotNo, ∀ a ∈ s.keyring.slots[i], ∀ b ∈ s.keyring.slots[j], a.bundleId = b.bundleId → i = j) ∧
    (∀ i : SlotNo, ∀ a ∈ s.keyring.slots[i],
      countWhere s.keyring (fun b => b.featureId == a.featureId && !b.isTombstone) ≤ 4) ∧
    (∀ i : SlotNo, ∀ b ∈ s.keyring.slots[i],
      b.notBefore < b.notAfter ∧ b.grace ≤ 14400 ∧ 1 ≤ b.allowance ∧ b.allowance ≤ 32 ∧ 1 ≤ b.reelCount ∧
        b.reelCount ≤ 24)

/-- The canonical form of the pool: entry numbers strictly rising. -/
def poolRising (pool : List PoolCell) : Prop := pool.Pairwise fun a b => a.number < b.number

/-- Every pool entry that is not free belongs to exactly one record holding key material, which refers to as many
entries as it has reels; a record holding none refers to none (R40). -/
def PoolOk (s : State) : Prop :=
  poolRising s.keyring.pool ∧
    (∀ i : SlotNo, ∀ b ∈ s.keyring.slots[i],
      b.poolRefs.length = (if b.holdsKeys then b.reelCount else 0) ∧ b.poolRefs.Nodup) ∧
    (∀ n : PoolNo,
      n ∈ s.keyring.pool.map PoolCell.number ↔ ∃ i : SlotNo, ∃ b ∈ s.keyring.slots[i], n ∈ b.poolRefs) ∧
    (∀ i j : SlotNo, ∀ a ∈ s.keyring.slots[i], ∀ b ∈ s.keyring.slots[j], ∀ n ∈ a.poolRefs, n ∈ b.poolRefs → i = j)

/-- The reels of all bundles holding key material (R40). -/
def heldReels (k : Keyring) : Nat :=
  ((List.finRange 64).map fun i => (k.slots[i]).elim 0 fun b => if b.holdsKeys then b.reelCount else 0).sum

/-- At most 32 entries, no two with the same target kind and id (R73). -/
def RevocationsOk (s : State) : Prop :=
  s.revocations.length ≤ 32 ∧ s.revocations.Pairwise fun d e => ¬(d.kind = e.kind ∧ d.target = e.target)

/-- No bundle in UNWRAPPING, WAITING, LIVE or CLOSING is barred by the revocation list (R76). -/
def NoneBarred (s : State) : Prop :=
  ∀ i : SlotNo, ∀ b ∈ s.keyring.slots[i],
    b.state = .unwrapping ∨ b.state = .waiting ∨ b.state = .live ∨ b.state = .closing →
      ∀ e ∈ s.revocations,
        ¬(e.kind = .bundle ∧ e.target = b.bundleId) ∧ ¬(e.kind = .feature ∧ e.target = b.featureId)

/-- While the clock is UNSET the keyring is empty and every lane CLOSED (R4). -/
def EmptyWhileUnset (s : State) : Prop :=
  s.clock.state = .unset →
    (∀ i : SlotNo, s.keyring.slots[i] = none) ∧ s.keyring.intakeQueue = [] ∧ ∀ l : LaneNo, s.lanes[l] = none

/-! ### Lanes and their uses -/

/-- A lane in RUNNING or STOPPING (R106). -/
def Screening.active (sc : Screening) : Bool := sc.status == .running || sc.status == .stopping

/-- The number of lanes in RUNNING or STOPPING whose bundle slot is `i` (R65). -/
def usesOf (s : State) (i : SlotNo) : Nat :=
  (List.finRange 32).countP fun l => (s.lanes[l]).any fun sc => sc.active && sc.bundleSlot == i

/-- The number of lanes in RUNNING or STOPPING on the slot `i` whose stop time has passed: the uses that a stop-time
sweep returns to it (R67, R110). -/
def usesOver (s : State) (i : SlotNo) : Nat :=
  (List.finRange 32).countP fun l =>
    (s.lanes[l]).any fun sc => sc.active && decide (sc.stopTime < s.clock.now) && sc.bundleSlot == i

/-- Every record's use count is the number of lanes in RUNNING or STOPPING on its slot and at most its allowance, and
is 0 in UNWRAPPING, WAITING, EXPIRED and FAILED (R39, R65); no such lane names an empty slot (R67); and only a RUNNING
lane has slots that are QUEUED or UNWRAPPING (R88).  With main power off the use counts in the retained domain await
the reset of R56 and lanes are gone. -/
def UsesOk (s : State) : Prop :=
  (s.powered = true →
    ∀ i : SlotNo,
      match s.keyring.slots[i] with
      | none => usesOf s i = 0
      | some b =>
        b.useCount = usesOf s i ∧ b.useCount ≤ b.allowance ∧
          (b.state = .unwrapping ∨ b.state = .waiting ∨ b.state = .expired ∨ b.state = .failed → b.useCount = 0)) ∧
    (s.powered = false → ∀ l : LaneNo, s.lanes[l] = none) ∧
    ∀ l : LaneNo, ∀ sc ∈ s.lanes[l], sc.status ≠ .running → sc.slotX.hasJob = false ∧ sc.slotY.hasJob = false

/-- The stop time of a lane in RUNNING or STOPPING is at most NA + G − M_open of the bundle it uses (R109). -/
def StopTimesOk (s : State) : Prop :=
  ∀ l : LaneNo, ∀ sc ∈ s.lanes[l], sc.active = true →
    ∃ b ∈ s.keyring.slots[sc.bundleSlot], (sc.stopTime : Int) ≤ (b.notAfter : Int) + b.grace - sc.openMargin

/-! ### Unwrap Engine -/

/-- The ranks are a permutation of 0 to 32 (R91). -/
def RanksOk (s : State) : Prop :=
  (∀ r : RequesterNo, s.engine.ranks[r] ≤ 32) ∧
    ∀ q r : RequesterNo, s.engine.ranks[q] = s.engine.ranks[r] → q = r

/-- The bundle in UNWRAPPING are exactly those in the intake queue, which names each once and at most 4 (R41). -/
def IntakeOk (s : State) : Prop :=
  s.keyring.intakeQueue.Nodup ∧ s.keyring.intakeQueue.length ≤ 4 ∧
    (s.powered = true →
      ∀ i : SlotNo, i ∈ s.keyring.intakeQueue ↔ ∃ b ∈ s.keyring.slots[i], b.state = .unwrapping) ∧
    (s.powered = false → s.keyring.intakeQueue = [])

/-- The item a job works on, less what a reel slot holds: two jobs that are wanted never share it (R87). -/
inductive JobPlace where
  | intake
  | reelSlot (lane : LaneNo) (slot : SlotName)
  | screen (screen : LaneNo)
  deriving DecidableEq, Repr

/-- The place of a job's item. -/
def JobItem.place : JobItem → JobPlace
  | .intake _ _ => .intake
  | .rewrap l n _ _ => .reelSlot l n
  | .bind l => .screen l

/-- The jobs whose results are wanted: those queued, and the one in service unless marked for discard. -/
def wantedJobs (e : Engine) : List JobItem :=
  e.queued.map (·.item) ++
    match e.inService with
    | some j => if j.discard then [] else [j.job.item]
    | none => []

/-- A queued job's owner is in the state that presents it (R88, R118). -/
def queuedFits (s : State) : JobItem → Prop
  | .intake _ _ => True
  | .rewrap l n p t => ∃ sc ∈ s.lanes[l], sc.status = .running ∧ sc.slot n = .holds p t .queued
  | .bind l => s.lanes[l] = none ∧ (s.screens[l]).binding.isBinding = true

/-- The owner of a wanted job in service is in the state that awaits its result (R90, R121). -/
def serviceFits (s : State) : JobItem → Prop
  | .intake _ _ => True
  | .rewrap l n p t => ∃ sc ∈ s.lanes[l], sc.status = .running ∧ sc.slot n = .holds p t .unwrapping
  | .bind l => s.lanes[l] = none ∧ (s.screens[l]).binding.isBinding = true

/-- The engine is IDLE only while nothing is queued (R90, R94), wanted jobs are at distinct places (R87, R118) and
each fits its owner's state, and while a bundle is in the intake queue an intake job exists (R47). -/
def JobsOk (s : State) : Prop :=
  (s.engine.inService = none → s.engine.queued = []) ∧
    ((wantedJobs s.engine).map JobItem.place).Nodup ∧
    (∀ j ∈ s.engine.queued, queuedFits s j.item) ∧
    (∀ j ∈ s.engine.inService, j.discard = false → serviceFits s j.job.item) ∧
    (s.keyring.intakeQueue ≠ [] → intakeJobExists s.engine = true)

/-! ### Message Link and Provisioning Store -/

/-- At most 4 frames wait; a frame is being sent exactly while frames are handed and no RESTART is due; without a latch
there is no peer, no frame either way, no pending SYNC and no RESTART; and the peer address and the frame being sent
are of the latched port (R149, R152, R153, R155, R163). -/
def LinkOk (s : State) : Prop :=
  s.link.receive.length ≤ 4 ∧ (s.link.sending = none ↔ s.link.transmit = [] ∨ s.link.restart = .due) ∧
    match s.link.latch with
    | none =>
      s.link.peer = none ∧ s.link.receive = [] ∧ s.link.transmit = [] ∧ s.link.pendingSync = none ∧
        s.link.restart = .idle
    | some .serial =>
      (∃ a, s.link.peer = some (.line a)) ∧ ∀ route ∈ s.link.sending, ∃ a, route = .serial a
    | some .lan =>
      (∃ a, s.link.peer = some (.station a)) ∧ ∀ route ∈ s.link.sending, ∃ a own, route = .lan a own

/-- A pending SYNC waits for at least one job of its snapshot (R96, R97). -/
def SyncOk (s : State) : Prop := s.link.pendingSync ≠ none → 0 < snapshotLeft s.engine

/-- Each subject holds at most its own kinds (R157). -/
def NoticesOk (s : State) : Prop := ∀ i : SubjectNo, s.link.notices[i] &&& ~~~(subjectKinds i) = 0

/-- No ATTENTION is due: wherever its condition came to hold, one was handed and the flag cleared (R160). -/
def AttentionHanded (s : State) : Prop :=
  ¬(s.link.latch ≠ none ∧ (∃ i : SubjectNo, s.link.notices[i] ≠ 0) ∧ s.link.armed = true ∧ s.link.hold = false)

/-- A later store keeps an earlier one's written values, and FINAL (R166). -/
def Store.Keeps (before after : Store) : Prop :=
  (∀ v ∈ before.serial, after.serial = some v) ∧ (∀ v ∈ before.site, after.site = some v) ∧
    (∀ v ∈ before.lineAddress, after.lineAddress = some v) ∧ (∀ v ∈ before.station, after.station = some v) ∧
    (∀ v ∈ before.authority, after.authority = some v) ∧ (∀ v ∈ before.identity, after.identity = some v) ∧
    (before.state = .final → after.state = .final)

/-! ### Serving requests -/

/-- The kind of request a command serves: none for the commands that serve no request of the part (R154). -/
def requestOf : Instr → Option RequestKind
  | .identify => some .identify
  | .provisionWrite => some .provisionWrite
  | .provisionFinalize => some .provisionFinalize
  | .collect => some .collect
  | .dismiss => some .dismiss
  | .noticeHold => some .noticeHold
  | .restart => some .restart
  | .siteParameter => some .siteParameter
  | .timeClaim _ _ => some .timeClaim
  | .clockStatus => some .clockStatus
  | .setShape => some .setShape
  | .setTerm => some .setTerm
  | .marginStatus => some .marginStatus
  | .deliverBundle _ => some .deliverBundle
  | .bundleStatus => some .bundleStatus
  | .listBundles => some .listBundles
  | .deleteBundle => some .deleteBundle
  | .revoke _ => some .revoke
  | .listRevocations => some .listRevocations
  | .engineStatus => some .engineStatus
  | .sync => some .sync
  | .bindScreen => some .bindScreen
  | .unbindScreen => some .unbindScreen
  | .setBias => some .setBias
  | .openScreening => some .openScreening
  | .laneStatus => some .laneStatus
  | .endScreening => some .endScreening
  | .closeLane => some .closeLane
  | .fetchReel => some .fetchReel
  | .reelBegin => some .reelBegin
  | .amendScreening => some .amendScreening
  | .fetchReport => some .fetchReport
  | .serialFrame _ | .lanFrame _ _ | .serialByteTimeout | .frameSent | .unknownKind | .restartReset | .tick _
  | .stalenessMinute _ | .replenish _ | .intakeUnwrapComplete _ | .rewrapComplete _ | .bindComplete _
  | .powerUp _ _ | .mainPowerLoss | .batterySecond | .cellFailed => none

/-- The link takes request `r` next, with `rest` behind it: power is on, no RESTART is being taken, and every frame
handed to transmit has been sent (R152, R154); a frame whose sending begins now takes the route `rt`. -/
structure Taking (r : Request) (rest : List Request) (rt : Route) (s : State) : Prop where
  powered : s.powered = true
  noRestart : s.link.restart = .idle
  sent : s.link.transmit = []
  oldest : s.link.receive = r :: rest
  routed : s.route s.link.peer = some rt

/-- The request taken next is of kind `k` and the link passes it to its owning block (R154). -/
structure Serving (k : RequestKind) (r : Request) (rest : List Request) (rt : Route) (s : State) : Prop extends
    Taking r rest rt s where
  kind : r.kind = k.code
  admitted : k.servedBeforeFinal = true ∨ s.store.state = .final

/-- The reply frame to a request (R154). -/
def replyFrame (r : Request) (status : Status) (body : List Byte) : OutFrame :=
  { role := .reply, payload := (r.kind ||| 0x80) :: r.tag :: status.code :: body }

/-- A state with the oldest request taken and its reply handed to transmit, which is being sent by the route `rt`, and
nothing else changed. -/
def replied (r : Request) (rest : List Request) (rt : Route) (status : Status) (body : List Byte) (s : State) :
    State :=
  { s with
    link := { s.link with receive := rest, transmit := [replyFrame r status body], sending := some rt } }

/-- The SYNC that an event from `s` to `t` releases: the pending one, when the last job has left its snapshot (R97). -/
def released (s t : State) : Option Byte := if snapshotLeft t.engine = 0 then s.link.pendingSync else none

/-- Whether an event from `s` to `t` that only posts notices brings ATTENTION about: a port is latched, the flag armed,
the hold clear, and the notice set empty before and no longer empty after (R157, R160). -/
def attentionDue (s t : State) : Bool :=
  decide (s.link.latch ≠ none) && s.link.armed && !s.link.hold &&
    decide (∀ i : SubjectNo, s.link.notices[i] = 0) && decide (∃ i : SubjectNo, t.link.notices[i] ≠ 0)

/-- What an event that releases SYNCs and posts notices leaves of the session: a released SYNC is no longer pending, the
flag is cleared with ATTENTION (R155, R160), and the rest is as it was. -/
structure SessionKept (s t : State) : Prop where
  pendingSync : t.link.pendingSync = if snapshotLeft t.engine = 0 then none else s.link.pendingSync
  armed : t.link.armed = (s.link.armed && !attentionDue s t)
  session :
    t.link.latch = s.link.latch ∧ t.link.peer = s.link.peer ∧ t.link.serialHeld = s.link.serialHeld ∧
      t.link.hold = s.link.hold ∧ t.link.cursor = s.link.cursor ∧ t.link.startCause = s.link.startCause ∧
      t.link.restart = s.link.restart

/-- What the link shows of a served request whose event may release a SYNC and post notices: the request is taken; its
reply is handed, behind the reply of the SYNC that the event has released and ahead of the ATTENTION that it has
brought about (R152, R155, R160); and the first of them is being sent by the route `rt`.  That a released SYNC's
reply stands ahead of the request's own is the model's reading (assumption log, entry 10). -/
structure Answered (r : Request) (rest : List Request) (rt : Route) (status : Status) (body : List Byte)
    (s t : State) : Prop extends SessionKept s t where
  taken : t.link.receive = rest
  sent :
    t.link.transmit =
      ((released s t).toList.map fun tag => { role := .reply, payload := [0x94, tag, 0] }) ++
        replyFrame r status body ::
          if attentionDue s t then [{ role := .attention, payload := [0x7F, 0] }] else []
  sending : t.link.sending = some rt

/-- The notice set after a notice is posted (R157). -/
def withNotice (n : Notice) (notices : Vector KindSet 98) : Vector KindSet 98 :=
  notices.set n.subject (notices[n.subject] ||| n.kindBit)

/-- What the link shows of an event that answers no request: the SYNC it releases is answered and the ATTENTION it
brings about is handed, each behind the frames handed before it; the first frame handed to an empty transmit side is
sent to the peer address at once, unless a RESTART is due (R152, R155, R160, R163). -/
structure Unasked (s t : State) : Prop extends SessionKept s t where
  received : t.link.receive = s.link.receive
  sent :
    ∃ frames, t.link.transmit = s.link.transmit ++ frames ∧
      (∀ f ∈ frames, f.role ≠ .restartReply) ∧
      (frames.filter fun f => f.role == .reply).map OutFrame.payload =
        (released s t).toList.map (fun tag => [0x94, tag, 0]) ∧
      (frames.filter fun f => f.role == .attention).map OutFrame.payload =
        if attentionDue s t then [[0x7F, 0]] else []
  sending :
    t.link.sending =
      if s.link.transmit = [] ∧ t.link.transmit ≠ [] ∧ s.link.restart ≠ .due then s.route s.link.peer
      else s.link.sending

/-- A state in which a frame with this payload has been accepted (R149, R152, R153): its port is latched, its sender is
the peer, it waits at the tail of the receive buffer or, with 4 frames waiting, is lost with LINK_OVERRUN; and ATTENTION
is handed when the latch or that notice brings its condition about (R160).  That a frame lost to a full buffer has made
its sender the peer, and that a LAN frame ends the reading of the serial line, is the model's reading (assumption
log, entries 9 and 17). -/
def frameTaken (port : Port) (sender : Peer) (rt : Route) (kind tag : Byte) (body : List Byte) (s : State) : State :=
  let room : Bool := decide (s.link.receive.length < 4)
  let notices := if room then s.link.notices else withNotice .linkOverrun s.link.notices
  let judged : Bool := decide (s.link.latch = none ∨ (room = false ∧ ∀ i : SubjectNo, s.link.notices[i] = 0))
  let due : Bool :=
    judged && decide (∃ i : SubjectNo, notices[i] ≠ 0) && s.link.armed && !s.link.hold
  { s with
    link :=
      { s.link with
        latch := some port
        peer := some sender
        serialHeld := []
        receive := if room then s.link.receive ++ [{ kind, tag, body, sender }] else s.link.receive
        notices
        transmit :=
          if due then s.link.transmit ++ [{ role := .attention, payload := [0x7F, 0] }] else s.link.transmit
        sending :=
          if due = true ∧ s.link.transmit = [] ∧ s.link.restart ≠ .due then some rt else s.link.sending
        armed := if due then false else s.link.armed } }

/-! ### Ends and restarts -/

/-- The lane record `sc` of lane `l` in `s` has ended in `t`: slots empty, amendment gone, cause and time fixed, its
jobs withdrawn or marked, its use returned, its notice pending (R67, R112). -/
structure LaneEnds (l : LaneNo) (sc : Screening) (status : LaneStatus) (cause : EndCause) (notice : Notice)
    (s t : State) : Prop where
  lanes :
    t.lanes =
      s.lanes.set l
        (some
          { sc with
            status, slotX := .empty, slotY := .empty, amendment := none, ending := some (cause, s.clock.now) })
  engine :
    t.engine =
      { s.engine with
        inService :=
          s.engine.inService.map fun j =>
            match j.job.item with
            | .rewrap k _ _ _ => if k = l then { j with discard := true } else j
            | _ => j
        queued :=
          s.engine.queued.filter fun j =>
            match j.item with
            | .rewrap k _ _ _ => decide (k ≠ l)
            | _ => true }
  keyring :
    t.keyring =
      match s.keyring.slots[sc.bundleSlot] with
      | none => s.keyring
      | some b =>
        if b.state = .revoked ∧ b.useCount ≤ 1 then
          { s.keyring with
            slots :=
              s.keyring.slots.set sc.bundleSlot
                (some
                  { b with
                    useCount := 0, revocationMode := none, entryTime := s.clock.now, poolRefs := []
                    wrappedKeys := [] })
            pool := s.keyring.pool.filter fun c => decide (c.number ∉ b.poolRefs) }
        else
          { s.keyring with
            slots := s.keyring.slots.set sc.bundleSlot (some { b with useCount := b.useCount - 1 }) }
  notices : t.link.notices = withNotice notice s.link.notices

/-- The keyring `k` as the reset steps of R56 leave it at part time `now`: bundles in UNWRAPPING are discarded, use
counts are 0, revoked bundles that were in use are erased, the intake queue is empty and the list cursor 0. -/
structure KeyringRestarted (now : Nat) (k after : Keyring) : Prop where
  slots :
    ∀ i : SlotNo,
      after.slots[i] =
        match k.slots[i] with
        | none => none
        | some b =>
          if b.state = .unwrapping then none
          else if b.state = .revoked ∧ 0 < b.useCount then
            some
              { b with
                useCount := 0, revocationMode := none, entryTime := now, poolRefs := [], wrappedKeys := [] }
          else some { b with useCount := 0 }
  pool :
    after.pool =
      k.pool.filter fun c =>
        decide ¬∃ i : SlotNo, ∃ b ∈ k.slots[i],
          (b.state = .unwrapping ∨ b.state = .revoked ∧ 0 < b.useCount) ∧ c.number ∈ b.poolRefs
  intakeQueue : after.intakeQueue = []
  listCursor : after.listCursor = 0

/-! ### Key material in clear -/

/-- A pool entry with its key's contents replaced by nothing. -/
def PoolCell.blanked (c : PoolCell) : PoolCell := { c with key := c.key.map fun _ => [] }

/-- A screen entry with its link key's contents replaced by nothing. -/
def Screen.blanked (e : Screen) : Screen :=
  { e with
    binding :=
      match e.binding with
      | .bound unitId _ => .bound unitId []
      | b => b }

/-- A job's inputs with clear keys replaced by nothing. -/
def JobInputs.blanked : JobInputs → JobInputs
  | .rewrap reelKey linkKey => .rewrap (reelKey.map fun _ => []) (linkKey.map fun _ => [])
  | i => i

/-- A command with the contents of the clear key it brings replaced by nothing. -/
def blankedCommand : Instr → Instr
  | .intakeUnwrapComplete outcome => .intakeUnwrapComplete (outcome.map fun _ => [])
  | .bindComplete outcome => .bindComplete (outcome.map fun _ => [])
  | c => c

/-- A state with the contents of every clear key replaced by nothing: reel keys in the pool, link keys in the screen
map, both as the job in service has read them, and those that waiting commands bring (R40, R101, R86). -/
def State.blanked (s : State) : State :=
  { s with
    keyring := { s.keyring with pool := s.keyring.pool.map PoolCell.blanked }
    screens := tabulate fun l : LaneNo => (s.screens[l]).blanked
    engine :=
      { s.engine with inService := s.engine.inService.map fun j => { j with inputs := j.inputs.blanked } }
    pending := s.pending.map blankedCommand }

end Sys2Proof.Machine
end

