-- ==== Sys2Proof/Certificates/Slice0/Obligations.lean ====
section
/-! DEFINITION. The statements for the provers.  Those that say what a command does name the oldest request `r`, the
requests behind it `rest` and the route `rt` of its reply (Serving), and give the state after it whole: where a
statement writes `t = { s with a := t.a, b := t.b }`, every block but `a` and `b` is as it was, and the other clauses
say what became of those. -/

open Sys2Proof Sys2Proof.Machine

/-! ### The queue and the reset -/

/-- The command at the front of the queue is run on the state with the queue's rest, and on an empty queue the block
idles.  The queue is the model's own way of bringing commands in (assumption log, entry 7). -/
def Obligations.StepTakesTheFront : Prop :=
  (∀ (c : Instr) (rest : List Instr) (s : State),
      step { s with pending := c :: rest } = exec c { s with pending := rest }) ∧
    ∀ s : State, step { s with pending := [] } = .next { s with pending := [] }

/-- What reset leaves: the retained-loss values of every block (R18, R36, R57, R85, R117, R162), among them the eight
default shapes, the eight default terms and the whole record of the RETAINED_LOSS evaluation, with its grades and
weights (R36); the engine, lanes and link of a start-up (R99, R117, R164); and the store as from the factory (R166).
That reset is the end of a first power-up is the model's choice (assumption log, entry 1), and so is the serial number
(entry 2). -/
def Obligations.ResetLeavesTheLossValues : Prop :=
  let s := State.reset
  let shape := fun (inUse : Bool) (input : ShapeInput) (c l r : Nat) (left right : Bool) =>
    ({ inUse, input, centre := c, leftSpread := l, rightSpread := r, leftShoulder := left, rightShoulder := right } :
      Shape)
  let plain := fun i : TableNo => ({ shape := i, negate := false } : Antecedent)
  let term := fun (inUse : Bool) (a : Antecedent) (b : Option (Antecedent × Combinator)) (m : Nat) =>
    ({ inUse, a, b, proposed := m } : Term)
  s.powered = true ∧
    s.clock =
      { state := .unset, now := 0, allowance := 0, residual := 0, staleness := 65535, minuteCountdown := 60
        replenishCountdown := 86400 } ∧
    s.margin =
      { shapes :=
          #v[shape true .x1 0 0 30 true false, shape true .x1 60 50 120 false false,
            shape true .x1 300 200 0 false true, shape true .x2 0 0 720 true false,
            shape true .x2 2880 2160 0 false true, shape false .x1 0 0 0 false false,
            shape false .x1 0 0 0 false false, shape false .x1 0 0 0 false false]
        terms :=
          #v[term true (plain 0) (some (plain 3, .and)) 0, term true (plain 1) (some (plain 4, .or)) 300,
            term true (plain 2) none 1800, term true (plain 4) (some ({ shape := 0, negate := true }, .and)) 900,
            term false (plain 0) none 0, term false (plain 0) none 0, term false (plain 0) none 0,
            term false (plain 0) none 0]
        margin := 300
        last :=
          { x1 := 0, x2 := 65535, grades := #v[255, 0, 0, 0, 255, 0, 0, 0], weights := #v[0, 255, 0, 0, 0, 0, 0, 0]
            weightSum := 255, productSum := 76500, usedNoOpinion := false, rawMargin := 300, margin := 300
            cause := .retainedLoss, time := 0 } } ∧
    s.params = { lateAllowance := 1200, marginFloor := 0, noOpinion := 1800, closingLead := 600 } ∧
    (∀ i : SlotNo, s.keyring.slots[i] = none) ∧ s.keyring.pool = [] ∧ s.keyring.intakeQueue = [] ∧
    s.keyring.listCursor = 0 ∧ s.revocations = [] ∧
    s.engine.inService = none ∧ s.engine.queued = [] ∧ (∀ r : RequesterNo, s.engine.ranks[r] = r.val) ∧
    (∀ l : LaneNo, s.screens[l] = { binding := .unbound, bias := 0 } ∧ s.lanes[l] = none) ∧
    s.store.state = .open_ ∧ s.store.serial.isSome = true ∧ s.store.site = none ∧ s.store.lineAddress = none ∧
    s.store.station = none ∧ s.store.authority = none ∧ s.store.identity = none ∧
    s.link.latch = none ∧ s.link.peer = none ∧ s.link.receive = [] ∧ s.link.transmit = [] ∧
    s.link.sending = none ∧ s.link.pendingSync = none ∧ s.link.hold = false ∧ s.link.cursor = 0 ∧ s.link.armed = true ∧
    s.link.notices = (Vector.replicate 98 (0 : KindSet)).set 0 1 ∧ s.link.startCause = .retainedLost ∧
    s.domain = { status := .sound, batterySeconds := 0 } ∧ s.pending = []

/-- Every standing condition of the statements below holds at reset. -/
def Obligations.ResetIsSound : Prop :=
  let s := State.reset
  s.clock.Ok ∧ MarginOk s ∧ RecordsOk s ∧ PoolOk s ∧ RevocationsOk s ∧ NoneBarred s ∧ EmptyWhileUnset s ∧ UsesOk s ∧
    StopTimesOk s ∧ RanksOk s ∧ IntakeOk s ∧ JobsOk s ∧ LinkOk s ∧ SyncOk s ∧ NoticesOk s ∧ AttentionHanded s

/-! ### Conditions that every step keeps -/

/-- The Part Clock's seven pieces of state stay in their ranges, and hold the values of R4 while UNSET. -/
def Obligations.ClockRangesAreKept : Prop :=
  ∀ s t : State, s.clock.Ok → step s = .next t → t.clock.Ok

/-- The clock leaves RUNNING at no event but a power-up that finds the retained domain invalid (R1). -/
def Obligations.ClockIsUnsetOnlyByLoss : Prop :=
  ∀ s t : State, s.clock.state = .running → step s = .next t → t.clock.state = .unset →
    ∃ checkMatches run rest, s.pending = .powerUp checkMatches run :: rest ∧ s.powered = false ∧
      ¬(s.domain.status = .sound ∧ checkMatches = true) ∧ run ≠ .cutBeforeUpdate

/-- M stays within the margin floor and 3,600 and is always the margin of the last evaluation; parameters, tables,
grades and weights stay in their ranges (R20, R21). -/
def Obligations.MarginStaysInRange : Prop :=
  ∀ s t : State, MarginOk s → step s = .next t → MarginOk t

/-- No two records hold one bundle id, no feature has more than 4 non-tombstones, and the delivered values stay in their
ranges (R38). -/
def Obligations.RecordsStayDistinct : Prop :=
  ∀ s t : State, RecordsOk s → step s = .next t → RecordsOk t

/-- While the use counts fit the lanes, every pool entry belongs to the one bundle that reserved it until that bundle's
keys are erased, so the free entries and the reels of the bundles holding key material always make 768 (R40). -/
def Obligations.PoolAlwaysAddsUp : Prop :=
  ∀ s t : State, PoolOk s → UsesOk s → step s = .next t →
    PoolOk t ∧ freeEntries t.keyring + heldReels t.keyring = 768

/-- The revocation list keeps at most 32 entries for distinct targets, and no bundle that could still serve a new
screening is barred by it (R73, R76). -/
def Obligations.BarredBundlesStayOut : Prop :=
  ∀ s t : State, RevocationsOk s → NoneBarred s → step s = .next t → RevocationsOk t ∧ NoneBarred t

/-- While the clock is UNSET the keyring is empty and every lane CLOSED (R4). -/
def Obligations.UnsetMeansEmpty : Prop :=
  ∀ s t : State, EmptyWhileUnset s → step s = .next t → EmptyWhileUnset t

/-- A use count always equals the number of lanes in RUNNING or STOPPING on its slot and never exceeds the screening
allowance (R65). -/
def Obligations.UseCountsMatchTheLanes : Prop :=
  ∀ s t : State, UsesOk s → step s = .next t → UsesOk t

/-- A lane's stop time is never later than NA + G − M_open of the bundle it uses (R109). -/
def Obligations.StopTimesStayInTheWindow : Prop :=
  ∀ s t : State, UsesOk s → StopTimesOk s → step s = .next t → StopTimesOk t

/-- The ranks stay a permutation of 0 to 32, and every step leaves them as they were, makes one rank step, or resets
them (R91). -/
def Obligations.RanksStayAPermutation : Prop :=
  ∀ s t : State, RanksOk s → step s = .next t →
    RanksOk t ∧
      (t.engine.ranks = s.engine.ranks ∨
        (∀ r : RequesterNo, t.engine.ranks[r] = r.val) ∨
        ∃ w : RequesterNo, ∀ r : RequesterNo,
          t.engine.ranks[r] =
            if r = w then 0
            else if s.engine.ranks[r] < s.engine.ranks[w] then s.engine.ranks[r] + 1 else s.engine.ranks[r])

/-- The engine is IDLE only while nothing is queued; no reel slot, screen or intake has two wanted jobs; every wanted
job fits its owner's state; and a bundle in the intake queue always has an intake job ahead of it (R41, R47, R87,
R90, R94, R118). -/
def Obligations.JobsFitTheirOwners : Prop :=
  ∀ s t : State, IntakeOk s → JobsOk s → step s = .next t → IntakeOk t ∧ JobsOk t

/-- At most 4 frames wait, nothing is sent without a latch, the peer address and the frame being sent are of the latched
port, and each subject holds only its own kinds (R149, R152, R153, R157); and a pending SYNC always waits for a job of
its snapshot that has neither completed nor been withdrawn (R96, R97). -/
def Obligations.SessionStaysWhole : Prop :=
  (∀ s t : State, LinkOk s → NoticesOk s → step s = .next t → LinkOk t ∧ NoticesOk t) ∧
    ∀ s t : State, SyncOk s → step s = .next t → SyncOk t

/-- Between two events no ATTENTION is ever due: whatever event brought its condition about has handed the frame and
cleared the flag (R160). -/
def Obligations.AttentionIsNeverLeftDue : Prop :=
  ∀ s t : State, AttentionHanded s → step s = .next t → AttentionHanded t

/-- No step clears or changes a WRITTEN slot of the provisioning store or takes it back from FINAL (R166). -/
def Obligations.StoreIsWriteOnce : Prop :=
  ∀ s t : State, step s = .next t → s.store.Keeps t.store

/-- A record in EXPIRED, FAILED or REVOKED leaves that state at no event (R14, R62, R64, R69): its slot holds it in that
state, unless the event is a DELETE_BUNDLE of its id while it has no use (R53), a DELIVER_BUNDLE whose fresh record
takes the slot of the tombstone that it is (R46), or a start-up that finds the retained domain invalid (R174). -/
def Obligations.EndedRecordsStayEnded : Prop :=
  ∀ (s t : State) (i : SlotNo) (b : Bundle), s.keyring.slots[i] = some b →
    b.state = .expired ∨ b.state = .failed ∨ b.state = .revoked → step s = .next t →
      (∃ a, t.keyring.slots[i] = some a ∧ a.bundleId = b.bundleId ∧ a.featureId = b.featureId ∧ a.state = b.state) ∨
        (t.keyring.slots[i] = none ∧ b.useCount = 0 ∧ s.pending.head? = some .deleteBundle ∧
          ∃ r, s.link.receive.head? = some r ∧ r.kind = RequestKind.deleteBundle.code ∧
            parseBundleId r.body = some b.bundleId) ∨
        (t.keyring.slots[i] = none ∧ s.powered = false ∧
          ∃ checkMatches run, s.pending.head? = some (.powerUp checkMatches run) ∧ run ≠ .cutBeforeUpdate ∧
            ¬(s.domain.status = .sound ∧ checkMatches = true)) ∨
        ((b.state = .revoked → b.useCount = 0) ∧
          ∃ tagOver r d refs, s.pending.head? = some (.deliverBundle tagOver) ∧ s.link.receive.head? = some r ∧
            r.kind = RequestKind.deliverBundle.code ∧ parseDelivery r.body = some d ∧
            t.keyring.slots[i] =
              some
                { bundleId := d.bundleId, featureId := d.featureId, notBefore := d.notBefore, notAfter := d.notAfter
                  grace := d.grace, allowance := d.allowance, screens := d.screens, reelCount := d.reelCount
                  poolRefs := refs, state := .unwrapping, entryTime := s.clock.now, useCount := 0
                  reelsUnwrapped := 0, revocationMode := none, wrappedKeys := d.wrappedKeys })

/-- What a clear key holds never shows: two runs that differ in the contents of clear keys alone hand the same frames
and stay the same but for those contents (00_scope: key material is never returned in clear; R40, R86, R101). -/
def Obligations.ClearKeysNeverShow : Prop :=
  ∀ s t : State, step s = .next t → step s.blanked = .next t.blanked ∧ t.blanked.link = t.link

/-! ### The clock and the margin -/

/-- The battery catch-up in RUNNING does to the clock exactly what `e` ticks would have done (R17). -/
def Obligations.CatchUpEqualsTicks : Prop :=
  ∀ (c : Clock) (e : Nat), c.Ok → c.catchUp e = Nat.iterate Clock.tick e c

/-- A tick with the clock UNSET changes nothing and triggers neither sweep; both would find nothing to do, since the
keyring is empty and every lane CLOSED, and no bundle is delivered and no screening opened (R4).  With a pass
already due from an earlier tick, which no UNSET clock leaves behind, the passes themselves are not ticks. -/
def Obligations.TickInUnset : Prop :=
  ∀ s : State, s.clock.Ok → EmptyWhileUnset s → s.clock.state = .unset →
    (∀ order,
      exec (.tick (.whole order)) s = .next s ∧ exec (.stalenessMinute order) s = .next s ∧
        exec (.replenish order) s = .next s) ∧
    exec (.tick .clockOnly) s = .next s ∧
    s.clock.now = 0 ∧ s.clock.staleness = 65535 ∧
    windowSweep s = s ∧ stopTimeSweep s = s ∧
    (∀ i : SlotNo, s.keyring.slots[i] = none) ∧ (∀ l : LaneNo, s.lanes[l] = none) ∧
    ∀ (r : Request) (rest : List Request) (rt : Route),
      (∀ tagOver, Serving .deliverBundle r rest rt s →
        exec (.deliverBundle tagOver) s = .next (replied r rest rt .clockUnset [] s)) ∧
      ∀ q, Serving .openScreening r rest rt s → parseOpen r.body = some q →
        exec .openScreening s =
          .next (replied r rest rt (if (s.screens[q.lane]).binding.code = 3 then .clockUnset else .screenUnbound) [] s)

/-- The grade of an in-use shape is the first case of R24's table that applies; it lies from 0 to 255; on a slope it is
255 at the centre alone, and one step off a spread it is 255 × (spread − 1) / spread, which is 254 for every spread
of 255 or more and less for a smaller one; it is 0 wherever 255 × the remaining distance is less than the spread,
and at exactly a spread's length from the centre (R24).  An evaluation records the inputs, the cause and the time it
was made with, and grades each shape in use for the input that the shape has chosen; a shape not in use has grade 0. -/
def Obligations.GradeOfAShape : Prop :=
  (∀ (shapes : Vector Shape 8) (terms : Vector Term 8) (p : SiteParameters) (x1 x2 : Nat)
      (cause : EvalCause) (now : Nat),
    let e := evaluation shapes terms p x1 x2 cause now
    e.x1 = x1 ∧ e.x2 = x2 ∧ e.cause = cause ∧ e.time = now ∧
      ∀ i : TableNo,
        (shapes[i].inUse = false → e.grades[i] = 0) ∧
          (shapes[i].inUse = true → shapes[i].input = .x1 → e.grades[i] = shapes[i].gradeAt x1) ∧
          (shapes[i].inUse = true → shapes[i].input = .x2 → e.grades[i] = shapes[i].gradeAt x2)) ∧
  ∀ (s : Shape) (x : Nat), s.centre ≤ 65535 → s.leftSpread ≤ 65535 → s.rightSpread ≤ 65535 → x ≤ 65535 →
    s.gradeAt x ≤ 255 ∧
    s.gradeAt x =
      (if x = s.centre then 255
      else if x < s.centre ∧ s.leftShoulder = true then 255
      else if x < s.centre ∧ (s.leftSpread = 0 ∨ s.centre - x ≥ s.leftSpread) then 0
      else if x < s.centre then 255 * (s.leftSpread - (s.centre - x)) / s.leftSpread
      else if s.rightShoulder = true then 255
      else if s.rightSpread = 0 ∨ x - s.centre ≥ s.rightSpread then 0
      else 255 * (s.rightSpread - (x - s.centre)) / s.rightSpread) ∧
    255 * s.leftSpread ≤ 16711425 ∧ 255 * s.rightSpread ≤ 16711425 ∧
    (x < s.centre → s.leftShoulder = false → s.gradeAt x ≠ 255) ∧
    (s.centre < x → s.rightShoulder = false → s.gradeAt x ≠ 255) ∧
    (x + 1 = s.centre → s.leftShoulder = false → 0 < s.leftSpread →
      s.gradeAt x = 255 * (s.leftSpread - 1) / s.leftSpread ∧ (255 ≤ s.leftSpread ↔ s.gradeAt x = 254)) ∧
    (x = s.centre + 1 → s.rightShoulder = false → 0 < s.rightSpread →
      s.gradeAt x = 255 * (s.rightSpread - 1) / s.rightSpread ∧ (255 ≤ s.rightSpread ↔ s.gradeAt x = 254)) ∧
    (x < s.centre → s.leftShoulder = false → 255 * (s.leftSpread - (s.centre - x)) < s.leftSpread →
      s.gradeAt x = 0) ∧
    (s.centre < x → s.rightShoulder = false → 255 * (s.rightSpread - (x - s.centre)) < s.rightSpread →
      s.gradeAt x = 0) ∧
    (x < s.centre → s.leftShoulder = false → s.centre - x = s.leftSpread → s.gradeAt x = 0) ∧
    (s.centre < x → s.rightShoulder = false → x - s.centre = s.rightSpread → s.gradeAt x = 0)

/-- The weight of an in-use term (R26): 0 when a shape it names is not in use, negated or not; otherwise the value of A,
or the smaller or the larger of the two values, where a negated value is 255 less the grade; so the same shape
negated against itself weighs at most 127 with AND and at least 128 with OR.  Every term of an evaluation sees the
grades of that evaluation. -/
def Obligations.WeightOfATerm : Prop :=
  (∀ (t : Term) (shapes : Vector Shape 8) (grades : Vector Nat 8),
    t.inUse = true → (∀ i : TableNo, grades[i] ≤ 255) →
      let value := fun a : Antecedent => if a.negate then 255 - grades[a.shape] else grades[a.shape]
      t.weight shapes grades ≤ 255 ∧
      ((shapes[t.a.shape].inUse = false ∨ ∃ b c, t.b = some (b, c) ∧ shapes[b.shape].inUse = false) →
        t.weight shapes grades = 0) ∧
      (shapes[t.a.shape].inUse = true → t.b = none → t.weight shapes grades = value t.a) ∧
      (∀ b, shapes[t.a.shape].inUse = true → shapes[b.shape].inUse = true → t.b = some (b, .and) →
        t.weight shapes grades = min (value t.a) (value b) ∧
          (b.shape = t.a.shape → b.negate = !t.a.negate → t.weight shapes grades ≤ 127)) ∧
      (∀ b, shapes[t.a.shape].inUse = true → shapes[b.shape].inUse = true → t.b = some (b, .or) →
        t.weight shapes grades = max (value t.a) (value b) ∧
          (b.shape = t.a.shape → b.negate = !t.a.negate → 128 ≤ t.weight shapes grades))) ∧
  ∀ (shapes : Vector Shape 8) (terms : Vector Term 8) (p : SiteParameters) (x1 x2 : Nat)
    (cause : EvalCause) (now : Nat) (i : TableNo),
    (evaluation shapes terms p x1 x2 cause now).weights[i] =
      terms[i].weight shapes (evaluation shapes terms p x1 x2 cause now).grades

/-- The raw margin and M of an evaluation (R27): W and P are the sums over the in-use terms, within 2,040 and 7,344,000;
with W above 0 the raw margin is P / W rounded down, between the smallest and the largest proposed margin among the
terms of non-zero weight; with W 0 it is the no-opinion margin, and the record notes it; M is the raw margin clamped
from the floor to 3,600, and no raw margin exceeds 3,600.  SITE_PARAMETER clamps floor and no-opinion margin to 0
through 3,600, and their defaults are 0 and 1,800. -/
def Obligations.RawMarginAndClamp : Prop :=
  (∀ s : State, MarginOk s → ∀ (x1 x2 : Nat) (cause : EvalCause) (now : Nat),
    let e := evaluation s.margin.shapes s.margin.terms s.params x1 x2 cause now
    let inUse := (List.finRange 8).filter fun i : TableNo => s.margin.terms[i].inUse
    e.weightSum = (inUse.map fun i : TableNo => e.weights[i]).sum ∧
    e.productSum = (inUse.map fun i : TableNo => e.weights[i] * s.margin.terms[i].proposed).sum ∧
    e.weightSum ≤ 2040 ∧ e.productSum ≤ 7344000 ∧
    (0 < e.weightSum →
      e.usedNoOpinion = false ∧ e.rawMargin = e.productSum / e.weightSum ∧
      (∃ i : TableNo, 0 < e.weights[i] ∧ s.margin.terms[i].proposed ≤ e.rawMargin) ∧
      ∃ i : TableNo, 0 < e.weights[i] ∧ e.rawMargin ≤ s.margin.terms[i].proposed) ∧
    (e.weightSum = 0 → e.usedNoOpinion = true ∧ e.rawMargin = s.params.noOpinion) ∧
    e.rawMargin ≤ 3600 ∧
    e.margin = (if e.rawMargin < s.params.marginFloor then s.params.marginFloor else e.rawMargin)) ∧
  (∀ (p : SiteParameters) (q : ParameterRequest) (v : Nat),
    (q.marginFloor = some v → (p.store q).marginFloor = if v ≤ 3600 then v else 3600) ∧
      (q.noOpinion = some v → (p.store q).noOpinion = if v ≤ 3600 then v else 3600)) ∧
  State.reset.params.marginFloor = 0 ∧ State.reset.params.noOpinion = 1800

/-! ### The sweeps and the grant -/

/-- The window sweep leaves every slot as the cases of R60 give it: a record in WAITING, LIVE or CLOSING keeps its
state, or enters another with the state-entry time now; one that expires loses its keys (R58 to R64).  Each record that
enters LIVE, CLOSING or EXPIRED has R61's one notice added under its slot, and no other notice is posted; the link
hands the ATTENTION that they bring about and nothing else (R160).  Nothing but the keyring and the link changes, and
of the pool only the entries of expired bundles are freed. -/
def Obligations.WindowSweepRule : Prop :=
  ∀ s : State,
    let t := windowSweep s
    let now : Int := s.clock.now
    let m : Int := s.margin.margin
    let found := fun b : Bundle =>
      if now > (b.notAfter : Int) + b.grace - m ∧ b.useCount = 0 then BundleState.expired
      else if now > (b.notAfter : Int) - m then .closing
      else if now ≥ (b.notBefore : Int) + m then .live
      else if 0 < b.useCount then .closing
      else .waiting
    let judged := fun b : Bundle => b.state = .waiting ∨ b.state = .live ∨ b.state = .closing
    t = { s with keyring := t.keyring, link := t.link } ∧
    t.keyring.intakeQueue = s.keyring.intakeQueue ∧ t.keyring.listCursor = s.keyring.listCursor ∧
    (∀ i : SlotNo, s.keyring.slots[i] = none → t.keyring.slots[i] = none) ∧
    (∀ (i : SlotNo) (b : Bundle), s.keyring.slots[i] = some b →
      t.keyring.slots[i] =
        if ¬judged b ∨ found b = b.state then some b
        else if found b = .expired then
          some { b with state := .expired, entryTime := s.clock.now, poolRefs := [], wrappedKeys := [] }
        else some { b with state := found b, entryTime := s.clock.now }) ∧
    (∀ i : SlotNo,
      t.link.notices[slotSubject i] =
        s.link.notices[slotSubject i] |||
          match s.keyring.slots[i] with
          | none => 0
          | some b =>
            if ¬judged b ∨ found b = b.state then 0
            else match found b with | .live => 0b00010 | .closing => 0b00100 | .expired => 0b01000 | _ => 0) ∧
    (∀ k : SubjectNo, k.val < 34 → t.link.notices[k] = s.link.notices[k]) ∧
    (LinkOk s → SyncOk s → Unasked s t) ∧
    t.keyring.pool =
      s.keyring.pool.filter fun c =>
        decide ¬∃ i : SlotNo, ∃ b ∈ s.keyring.slots[i],
          judged b ∧ found b = .expired ∧ c.number ∈ b.poolRefs

/-- The stop-time sweep ends every lane in RUNNING or STOPPING whose stop time now has passed, with cause STOP_TIME or
REVOKED, and sets the closing-notice flag of a RUNNING lane within the closing lead; every other lane is left (R110
to R112).  Each ended lane's queued rewraps are withdrawn and the one in service marked for discard; each returns its
use: a record keeps its state with that much less use, and a REVOKED one left with none is erased and its pool entries
freed (R67).  Each ended lane has LANE_ENDED added, each flagged one WINDOW_CLOSING, and no other notice is posted; the
link hands the reply of the SYNC this releases and the ATTENTION it brings about, and nothing else (R97, R160). -/
def Obligations.StopTimeSweepRule : Prop :=
  ∀ s : State,
    let t := stopTimeSweep s
    let now := s.clock.now
    let passed := fun sc : Screening => (sc.status = .running ∨ sc.status = .stopping) ∧ now > sc.stopTime
    let near := fun sc : Screening =>
      sc.status = .running ∧ sc.closingNotice = false ∧ (sc.stopTime : Int) - now ≤ s.params.closingLead
    t = { s with keyring := t.keyring, engine := t.engine, lanes := t.lanes, link := t.link } ∧
    (∀ l : LaneNo, s.lanes[l] = none → t.lanes[l] = none) ∧
    (∀ (l : LaneNo) (sc : Screening), s.lanes[l] = some sc →
      t.lanes[l] =
        if passed sc then
          some
            { sc with
              status := .ended, slotX := .empty, slotY := .empty, amendment := none
              ending := some (if sc.status = .running then .stopTime else .revoked, now) }
        else if near sc then some { sc with closingNotice := true }
        else some sc) ∧
    (∀ l : LaneNo,
      t.link.notices[laneSubject l] =
        s.link.notices[laneSubject l] |||
          match s.lanes[l] with
          | none => 0
          | some sc => if passed sc then 0b00100 else if near sc then 0b00010 else 0) ∧
    (∀ k : SubjectNo, k.val < 2 ∨ 34 ≤ k.val → t.link.notices[k] = s.link.notices[k]) ∧
    (LinkOk s → SyncOk s → Unasked s t) ∧
    let ended := fun l : LaneNo => (s.lanes[l]).any fun sc => decide (passed sc)
    let dropped : JobItem → Bool := fun i => match i with | .rewrap l _ _ _ => ended l | _ => false
    let buried := fun (i : SlotNo) (b : Bundle) =>
      0 < usesOver s i ∧ b.state = .revoked ∧ b.useCount ≤ usesOver s i
    (∀ i : SlotNo,
      t.keyring.slots[i] =
        match s.keyring.slots[i] with
        | none => none
        | some b =>
          if buried i b then
            some
              { b with
                useCount := 0, revocationMode := none, entryTime := now, poolRefs := [], wrappedKeys := [] }
          else some { b with useCount := b.useCount - usesOver s i }) ∧
    t.keyring.intakeQueue = s.keyring.intakeQueue ∧ t.keyring.listCursor = s.keyring.listCursor ∧
    t.engine =
      { s.engine with
        inService := s.engine.inService.map fun j => if dropped j.job.item then { j with discard := true } else j
        queued := s.engine.queued.filter fun j => !dropped j.item } ∧
    t.keyring.pool =
      s.keyring.pool.filter fun c =>
        decide ¬∃ i : SlotNo, ∃ b ∈ s.keyring.slots[i], buried i b ∧ c.number ∈ b.poolRefs

/-- A requester presents a queued job that its lane's state admits, of two rewraps the earlier needed, and of two needed
at once the one that comes first in sequence (R88).  A grant is made only while the engine is IDLE and a requester
presents.  It takes the presented job of the highest class, and among those of that class the one whose requester
has the highest rank; the job leaves the queue and enters service at its class with the inputs it reads, a reel slot
becomes UNWRAPPING, the winner's rank becomes 0 and every rank below the winner's old one gains 1 (R89 to R91).  What
it reads (R86, R121): an intake unwrap the first wrapped key that its bundle still keeps, a bind the wrapped key that its
screen entry keeps, each with the unwrap identity; a rewrap the reel key in the pool entry that its lane's bundle has
reserved for the reel, and the screen's link key. -/
def Obligations.GrantRule : Prop :=
  ∀ s : State, RanksOk s →
    let band := fun t : Int => if t ≤ 30 then 3 else if t ≤ 120 then 2 else if t ≤ 600 then 1 else 0
    let classOf := fun i : JobItem =>
      match i with
      | .rewrap l _ _ neededBy => min 3 (band ((neededBy : Int) - s.clock.now) + (s.screens[l]).bias)
      | _ => 1
    let may := fun j : Job =>
      match j.item with
      | .intake _ _ => True
      | .rewrap l _ _ _ => ∃ sc ∈ s.lanes[l], sc.status = .running
      | .bind l => s.lanes[l] = none ∧ ∃ unitId wrapped, (s.screens[l]).binding = .binding unitId wrapped
    (∀ (slot : SlotNo) (reel : Nat), ∀ b ∈ s.keyring.slots[slot],
      readInputs s (.intake slot reel) = .intake b.wrappedKeys.head? s.store.identity) ∧
    (∀ (l : LaneNo) (n : SlotName) (p : Position) (neededBy : Nat), ∀ sc ∈ s.lanes[l],
      ∀ b ∈ s.keyring.slots[sc.bundleSlot], ∀ number, b.poolRefs[p.reel - 1]? = some number →
        poolRising s.keyring.pool → ∀ key, ({ number, key } : PoolCell) ∈ s.keyring.pool →
          ∀ unitId linkKey, (s.screens[l]).binding = .bound unitId linkKey →
            readInputs s (.rewrap l n p neededBy) = .rewrap key (some linkKey)) ∧
    (∀ (l : LaneNo) (unitId : Ident) (wrapped : WrappedLinkKey), (s.screens[l]).binding = .binding unitId wrapped →
      readInputs s (.bind l) = .bind (some wrapped) s.store.identity) ∧
    (∀ r, presented s r = none ↔ ∀ j ∈ s.engine.queued, j.item.requester = r → ¬may j) ∧
    (∀ r j, presented s r = some j →
      j ∈ s.engine.queued ∧ j.item.requester = r ∧ may j ∧
        ∀ k ∈ s.engine.queued, k.item.requester = r → may k →
          ∀ l n p t l' n' p' t', j.item = .rewrap l n p t → k.item = .rewrap l' n' p' t' →
            t < t' ∨ t = t' ∧ (p.cycle < p'.cycle ∨ p.cycle = p'.cycle ∧ p.reel ≤ p'.reel)) ∧
    (s.engine.inService ≠ none → grant s = s) ∧
    ((∀ r, presented s r = none) → grant s = s) ∧
    (s.engine.inService = none → (∃ r, presented s r ≠ none) →
      ∃ r j, presented s r = some j ∧
        (∀ q k, presented s q = some k → q ≠ r →
          classOf k.item < classOf j.item ∨
            classOf k.item = classOf j.item ∧ s.engine.ranks[q] < s.engine.ranks[r]) ∧
        let t := grant s
        t = { s with engine := t.engine, lanes := t.lanes } ∧
        t.engine.inService =
          some { job := j, jobClass := classOf j.item, discard := false, inputs := readInputs s j.item } ∧
        t.engine.queued = s.engine.queued.erase j ∧
        (∀ q : RequesterNo,
          t.engine.ranks[q] =
            if q = r then 0
            else if s.engine.ranks[q] < s.engine.ranks[r] then s.engine.ranks[q] + 1 else s.engine.ranks[q]) ∧
        ∀ l : LaneNo,
          t.lanes[l] =
            match j.item, s.lanes[l] with
            | .rewrap k n _ _, some sc =>
              if k = l then
                match sc.slot n with
                | .holds p neededBy .queued => some (sc.withSlot n (.holds p neededBy .unwrapping))
                | _ => some sc
              else some sc
            | _, lane => lane)


/-! ### Frames on the ports -/

/-- A well-formed serial frame for the controller, arriving with nothing held, is accepted (R149, R150, R153, R160); one
for another written line address, or with another CRC, is passed over when no later byte of it starts a frame; and
while the LAN port is latched nothing on the serial line is examined.  A frame that the controller sends on the serial
port is laid out the same way (section 12.2).  That a frame lost to a full buffer has still made its sender the peer
is the model's reading (assumption log, entry 9). -/
def Obligations.SerialFramesAreTaken : Prop :=
  (∀ (f : OutFrame) (address : Byte),
    let checked := address :: (beBytes 2 f.payload.length ++ f.payload)
    f.wire (.serial address) = 0xA5 :: (checked ++ beBytes 2 (crc16 checked).toNat)) ∧
  (∀ (s : State) (address kind tag : Byte) (body : List Byte),
    s.powered = true → s.link.latch ≠ some .lan → s.link.serialHeld = [] → body.length ≤ 1398 →
    let checked := address :: (beBytes 2 (body.length + 2) ++ kind :: tag :: body)
    let crc := crc16 checked
    ((∀ own ∈ s.store.lineAddress, own = address) →
      exec (.serialFrame (0xA5 :: (checked ++ beBytes 2 crc.toNat))) s =
        .next (frameTaken .serial (.line address) (.serial address) kind tag body s)) ∧
    ((∃ own ∈ s.store.lineAddress, own ≠ address) → 0xA5 ∉ checked ++ beBytes 2 crc.toNat →
      exec (.serialFrame (0xA5 :: (checked ++ beBytes 2 crc.toNat))) s = .next s) ∧
    ∀ wrong : BitVec 16, wrong ≠ crc → 0xA5 ∉ checked ++ beBytes 2 wrong.toNat →
      exec (.serialFrame (0xA5 :: (checked ++ beBytes 2 wrong.toNat))) s = .next s) ∧
  ∀ (s : State) (bytes : List Byte), s.powered = false ∨ s.link.latch = some .lan →
    exec (.serialFrame bytes) s = .next s

/-- An Ethernet frame of type 0x88B6 for the controller, of 64 to 1,518 bytes and with its check sequence good, is
accepted whatever its padding holds (R149, R151, R153, R160); a frame that fails one of the checks, or is sent to
another station once STATION is written, or arrives while the serial port is latched, changes nothing.  A frame that
the controller sends on the LAN is such a frame, its payload padded to the minimum of 64 bytes with the 4 of its check
sequence (section 12.2).  That a frame lost to a full buffer has still made its sender the peer, and that serial bytes
held are dropped as a LAN frame is taken, is the model's reading (assumption log, entries 9 and 17). -/
def Obligations.LanFramesAreTaken : Prop :=
  (∀ (f : OutFrame) (destination source : StationAddress), 2 ≤ f.payload.length → f.payload.length ≤ 1400 →
    let bytes := f.wire (.lan destination source)
    bytes.length = max 64 (20 + f.payload.length) ∧
      (∃ behind,
        bytes =
          beBytes 6 destination.toNat ++ beBytes 6 source.toNat ++ [0x88, 0xB6] ++ beBytes 2 f.payload.length ++
            f.payload ++ behind) ∧
      readLan (some destination) bytes true = some (source, f.payload)) ∧
  (∀ (s : State) (destination source : StationAddress) (kind tag : Byte) (body padding fcs : List Byte),
    s.powered = true → s.link.latch ≠ some .serial → body.length ≤ 1398 → fcs.length = 4 →
    let frame :=
      beBytes 6 destination.toNat ++ beBytes 6 source.toNat ++ [0x88, 0xB6] ++ beBytes 2 (body.length + 2) ++
        (kind :: tag :: body) ++ padding ++ fcs
    64 ≤ frame.length → frame.length ≤ 1518 →
    ((∀ own ∈ s.store.station, own = destination) →
      exec (.lanFrame frame true) s =
        .next
          (frameTaken .lan (.station source) (.lan source (s.store.station.getD 0x020000000000)) kind tag body s)) ∧
    ((∃ own ∈ s.store.station, own ≠ destination) → exec (.lanFrame frame true) s = .next s) ∧
    exec (.lanFrame frame false) s = .next s) ∧
  ∀ (s : State) (frame : List Byte) (checkPasses : Bool),
    s.powered = false ∨ s.link.latch = some .serial ∨ frame.length < 64 ∨ 1518 < frame.length ∨
      fieldBytes frame 12 2 ≠ [0x88, 0xB6] ∨ beNat (fieldBytes frame 14 2) < 2 ∨
      1400 < beNat (fieldBytes frame 14 2) ∨ frame.length - 20 < beNat (fieldBytes frame 14 2) →
    exec (.lanFrame frame checkPasses) s = .next s

/-- A serial frame of which some bytes have arrived is held until the rest comes, and is then read as if it had come at
once; when more than 50 ms pass instead, what is held is discarded (R150).  With nothing held, a pause is no event
(the model's choice: assumption log, entry 3).  On the way out, when a frame has been sent the next one handed is begun,
to the peer address as it then stands (that the address is settled as a frame is begun is the model's reading: entry
9); when it was the reply of a RESTART the restart is due, and until it is taken no further frame is begun (R152, R163;
that the restart is a command of its own is entry 16).  FRAME_SENT with main power off, with nothing handed or with a
restart due is no event (the model's choice: entry 3). -/
def Obligations.FramesWaitAndGoInOrder : Prop :=
  (∀ (s : State) (address : Byte) (payload come missing : List Byte),
    s.powered = true → s.link.latch ≠ some .lan → s.link.serialHeld = [] →
    2 ≤ payload.length → payload.length ≤ 1400 →
    serialWire address payload = 0xA5 :: (come ++ missing) → missing ≠ [] → 0xA5 ∉ come →
    let waiting : State := { s with link := { s.link with serialHeld := 0xA5 :: come } }
    exec (.serialFrame (0xA5 :: come)) s = .next waiting ∧
      exec (.serialFrame missing) waiting = exec (.serialFrame (serialWire address payload)) s ∧
      exec .serialByteTimeout waiting = .next s) ∧
  ∀ s : State,
    (s.link.serialHeld = [] → exec .serialByteTimeout s = .next s) ∧
    (∀ f later, s.powered = true → s.link.restart ≠ .due → s.link.transmit = f :: later →
      exec .frameSent s =
        .next
          { s with
            link :=
              { s.link with
                transmit := later
                restart := if f.role = .restartReply then .due else s.link.restart
                sending :=
                  if later = [] ∨ f.role = .restartReply then none else s.route s.link.peer } }) ∧
    (∀ a, s.link.latch = some .serial → s.link.peer = some (.line a) → s.route s.link.peer = some (.serial a)) ∧
    (∀ a, s.link.latch = some .lan → s.link.peer = some (.station a) →
      s.route s.link.peer = some (.lan a (s.store.station.getD 0x020000000000))) ∧
    (s.powered = false ∨ s.link.restart = .due ∨ s.link.transmit = [] → exec .frameSent s = .next s)

/-! ### Service -/

/-- The oldest request is answered UNKNOWN_KIND when its kind is none of the part's, and NOT_PROVISIONED when it needs a
FINAL store and the store is OPEN (R154); and a request command does nothing while the link cannot serve a request
of its kind (the model's choice: assumption log, entry 3). -/
def Obligations.RequestsAreScreened : Prop :=
  (∀ (r : Request) (rest : List Request) (rt : Route) (s : State), Taking r rest rt s →
    (r.kind = 0x00 ∨ r.kind = 0x20 ∨ 0x22 ≤ r.kind.toNat →
      exec .unknownKind s = .next (replied r rest rt .unknownKind [] s)) ∧
    (¬(r.kind = 0x00 ∨ r.kind = 0x20 ∨ 0x22 ≤ r.kind.toNat) → exec .unknownKind s = .next s) ∧
    ∀ c k, requestOf c = some k → r.kind = k.code →
      k ∉ [.identify, .provisionWrite, .provisionFinalize, .collect, .dismiss, .noticeHold, .restart] →
      s.store.state = .open_ → exec c s = .next (replied r rest rt .notProvisioned [] s)) ∧
  ∀ (s : State) (c : Instr) (k : RequestKind), requestOf c = some k →
    s.powered = false ∨ s.link.transmit ≠ [] ∨ s.link.restart ≠ .idle ∨
      (∀ r ∈ s.link.receive.head?, r.kind ≠ k.code) →
    exec c s = .next s

/-- A refusal leaves every block's state as it was, but for the REEL_BEGIN refused with REVOKED, which ends its lane
(R156): whenever a served request is answered with another status than OK, the event has taken the request and
handed that reply, and nothing more. -/
def Obligations.RefusalsChangeNothing : Prop :=
  ∀ (c : Instr) (k : RequestKind) (r : Request) (rest : List Request) (rt : Route) (s t : State),
    requestOf c = some k → Serving k r rest rt s → exec c s = .next t →
    ∀ f ∈ t.link.transmit, f.role = .reply → f.payload[2]? ≠ some 0 →
      (k = .reelBegin ∧ f.payload[2]? = some 0x0A) ∨
        t = { s with link := { s.link with receive := rest, transmit := [f], sending := some rt } }

/-- What the status requests answer, field by field; each changes nothing, and refuses a body with BAD_REQUEST (R15,
R34, R83, R95, R170). -/
def Obligations.StatusReplies : Prop :=
  ∀ (r : Request) (rest : List Request) (rt : Route) (s : State),
    let flag := fun b : Bool => if b then (1 : Byte) else 0
    let one := fun n : Nat => BitVec.ofNat 8 n
    let clockState : Byte := match s.clock.state with | .unset => 1 | .running => 2
    let answered := fun body : List Byte =>
      if r.body = [] then replied r rest rt .ok body s else replied r rest rt .badRequest [] s
    (Serving .identify r rest rt s →
      exec .identify s =
        .next
          (answered
            (beBytes 8 (s.store.serial.getD 0).toNat ++
              [match s.store.state with | .open_ => (1 : Byte) | .final => 2,
                flag s.store.serial.isSome + 2 * flag s.store.site.isSome + 4 * flag s.store.lineAddress.isSome +
                  8 * flag s.store.station.isSome + 16 * flag s.store.authority.isSome +
                  32 * flag s.store.identity.isSome] ++
              beBytes 2 (s.store.site.getD 0).toNat ++ [s.store.lineAddress.getD 0] ++
              beBytes 6 (s.store.station.getD 0).toNat ++ beBytes 32 (s.store.authority.getD 0).toNat ++
              [clockState] ++ beBytes 4 s.clock.now))) ∧
    (Serving .clockStatus r rest rt s →
      exec .clockStatus s =
        .next
          (answered
            ([clockState] ++ beBytes 4 s.clock.now ++ beBytes 2 s.clock.allowance ++
              beBytes 4 (BitVec.ofInt 32 s.clock.residual).toNat ++ beBytes 2 s.clock.staleness ++
              beBytes 4 s.clock.replenishCountdown ++ [one s.clock.minuteCountdown]))) ∧
    (Serving .marginStatus r rest rt s →
      exec .marginStatus s =
        .next
          (answered
            (((List.finRange 8).flatMap fun i : TableNo =>
                let h := s.margin.shapes[i]
                [flag h.inUse, match h.input with | .x1 => (1 : Byte) | .x2 => 2] ++ beBytes 2 h.centre ++
                  beBytes 2 h.leftSpread ++ beBytes 2 h.rightSpread ++
                  [flag h.leftShoulder, flag h.rightShoulder]) ++
              ((List.finRange 8).flatMap fun i : TableNo =>
                let m := s.margin.terms[i]
                [flag m.inUse, one m.a.shape.val, flag m.a.negate] ++
                  (match m.b with
                    | none => [(0 : Byte), 0, 0, 0]
                    | some (b, .and) => [1, one b.shape.val, flag b.negate, 1]
                    | some (b, .or) => [1, one b.shape.val, flag b.negate, 2]) ++
                  beBytes 2 m.proposed) ++
              beBytes 2 s.params.marginFloor ++ beBytes 2 s.params.noOpinion ++ beBytes 2 s.margin.last.x1 ++
              beBytes 2 s.margin.last.x2 ++ ((List.finRange 8).map fun i : TableNo => one s.margin.last.grades[i]) ++
              ((List.finRange 8).map fun i : TableNo => one s.margin.last.weights[i]) ++
              beBytes 2 s.margin.last.weightSum ++ beBytes 4 s.margin.last.productSum ++
              [flag s.margin.last.usedNoOpinion] ++ beBytes 2 s.margin.last.rawMargin ++
              beBytes 2 s.margin.last.margin ++
              [match s.margin.last.cause with
                | .staleness => (1 : Byte) | .claim => 2 | .shape => 3 | .term => 4 | .parameter => 5 | .powerUp => 6
                | .retainedLoss => 7] ++
              beBytes 4 s.margin.last.time))) ∧
    (Serving .listRevocations r rest rt s →
      exec .listRevocations s =
        .next
          (answered
            (one s.revocations.length ::
              s.revocations.flatMap fun e =>
                (match e.kind with | .bundle => (1 : Byte) | .feature => 2) ::
                  (beBytes 8 e.target.toNat ++ beBytes 4 e.expires)))) ∧
    (Serving .engineStatus r rest rt s →
      let kind := fun i : JobItem => match i with | .intake _ _ => (1 : Byte) | .rewrap _ _ _ _ => 2 | .bind _ => 3
      let left :=
        (s.engine.queued.filter fun j => j.inSnapshot).length +
          (s.engine.inService.toList.filter fun j => j.job.inSnapshot).length
      exec .engineStatus s =
        .next
          (answered
            ((match s.engine.inService with
                | none => [(1 : Byte), 0xFF, 0, 0, 0]
                | some j => [2, one j.job.item.requester.val, kind j.job.item, one j.jobClass, flag j.discard]) ++
              ((List.finRange 33).flatMap fun q : RequesterNo =>
                [one s.engine.ranks[q], one (s.engine.queued.filter fun j => j.item.requester == q).length,
                  match presented s q with | none => 0 | some j => kind j.item]) ++
              (match s.link.pendingSync with | none => [(0 : Byte), 0] | some _ => [1, one left]))))

/-! ### Provisioning -/

/-- PROVISION_WRITE (R167): the checks in their order, then the write, which no other slot feels; the reply carries the
slot, the store state and the written flags.  A LINE_ADDRESS write in a serial session is answered at the address it
came with (R150), and a LAN reply goes out from the written station (R151).  R150 speaks of a write that is taken: that
a refused one is answered at the peer address is the model's reading (assumption log, entry 9). -/
def Obligations.WritesAreMadeOnce : Prop :=
  ∀ (r : Request) (rest : List Request) (rt : Route) (s : State), Serving .provisionWrite r rest rt s →
    (s.store.state = .final → exec .provisionWrite s = .next (replied r rest rt .final [] s)) ∧
    (s.store.state = .open_ →
      (parseProvision r.body = none → exec .provisionWrite s = .next (replied r rest rt .badRequest [] s)) ∧
      ∀ slot v, parseProvision r.body = some (slot, v) →
        (slot = .site ∧ v = 0 ∨ slot = .lineAddress ∧ (v = 0 ∨ v = 255) ∨
            slot = .station ∧ (v = 0 ∨ (v / 2 ^ 40) % 2 = 1) →
          exec .provisionWrite s = .next (replied r rest rt .badRequest [] s)) ∧
        (¬(slot = .site ∧ v = 0 ∨ slot = .lineAddress ∧ (v = 0 ∨ v = 255) ∨
            slot = .station ∧ (v = 0 ∨ (v / 2 ^ 40) % 2 = 1)) →
          (∀ old, s.store.value slot = some old → old ≠ v →
            exec .provisionWrite s = .next (replied r rest rt .alreadyWritten [] s)) ∧
          (s.store.value slot = none ∨ s.store.value slot = some v →
            (s.link.latch = some .serial → ∃ a, r.sender = .line a) →
            ∃ t, exec .provisionWrite s = .next t ∧ t.store.state = .open_ ∧ t.store.value slot = some v ∧
              (∀ other, other ≠ slot → t.store.value other = s.store.value other) ∧
              (s.store.value slot = some v → t.store = s.store) ∧
              let flag := fun slot : StoreSlot => if (t.store.value slot).isSome then (1 : Byte) else 0
              let flags :=
                flag .serial + 2 * flag .site + 4 * flag .lineAddress + 8 * flag .station + 16 * flag .authority +
                  32 * flag .identity
              let back : Route :=
                match slot, rt, r.sender with
                | .lineAddress, .serial _, .line a => .serial a
                | .station, .lan destination _, _ => .lan destination (BitVec.ofNat 48 v)
                | _, _, _ => rt
              t = { replied r rest back .ok [slot.code, 1, flags] s with store := t.store })))

/-- PROVISION_FINALIZE answers by the store: FINAL stays FINAL and is OK, an OPEN store with all six slots written
becomes FINAL, and any other is INCOMPLETE (R168). -/
def Obligations.FinalizeAnswersByTheStore : Prop :=
  ∀ (r : Request) (rest : List Request) (rt : Route) (s : State), Serving .provisionFinalize r rest rt s →
    let flag := fun slot : StoreSlot => if (s.store.value slot).isSome then (1 : Byte) else 0
    let flags :=
      flag .serial + 2 * flag .site + 4 * flag .lineAddress + 8 * flag .station + 16 * flag .authority +
        32 * flag .identity
    exec .provisionFinalize s =
      .next
        (if r.body ≠ [] then replied r rest rt .badRequest [] s
        else if s.store.state = .final then replied r rest rt .ok [0, 2, flags] s
        else if
            ∀ slot ∈ [StoreSlot.serial, .site, .lineAddress, .station, .authority, .identity],
              (s.store.value slot).isSome = true then
          { replied r rest rt .ok [0, 2, 0x3F] s with store := { s.store with state := .final } }
        else replied r rest rt .incomplete [0, 1, flags] s)

/-! ### Notices, parameters and RESTART -/

/-- COLLECT (R158, R176): the first 8 subjects with pending kinds, from the cursor on and wrapping, lose them; the
cursor stands behind the last one taken; an emptied set arms the flag; the reply carries an item per subject and the
"more" flag.  A COLLECT with a body is refused. -/
def Obligations.CollectTakesEightSubjects : Prop :=
  ∀ (r : Request) (rest : List Request) (rt : Route) (s : State), Serving .collect r rest rt s →
    (r.body ≠ [] → exec .collect s = .next (replied r rest rt .badRequest [] s)) ∧
    (r.body = [] →
      let inOrder := (List.finRange 98).map fun i => s.link.cursor + i
      let taken := (inOrder.filter fun i : SubjectNo => s.link.notices[i] ≠ 0).take 8
      let item := fun i : SubjectNo =>
        [BitVec.ofNat 8 i.val, (s.link.notices[i]).setWidth 8,
          if i.val = 0 ∧ (s.link.notices[i]).getLsbD 0 = true then
            (match s.link.startCause with | .power => (1 : Byte) | .retainedLost => 2 | .restart => 3)
          else 0]
      ∃ t, exec .collect s = .next t ∧
        (∀ i : SubjectNo, t.link.notices[i] = if i ∈ taken then 0 else s.link.notices[i]) ∧
        let emptied : Bool := decide (∀ i : SubjectNo, t.link.notices[i] = 0)
        t =
          { s with
            link :=
              { s.link with
                receive := rest
                notices := t.link.notices
                cursor := match taken.getLast? with | some i => i + 1 | none => s.link.cursor
                armed := if emptied then true else s.link.armed
                sending := some rt
                transmit :=
                  [replyFrame r .ok
                    (BitVec.ofNat 8 taken.length :: taken.flatMap item ++ [if emptied then 0 else 1])] } })

/-- DISMISS removes the listed kinds, or all, of one subject, arms the flag if the set is then empty, and answers with
the kinds left (R159, R176).  NOTICE_HOLD sets the hold or clears it, and clearing it brings out ATTENTION behind
the reply when notices wait and the flag is armed (R160, R161). -/
def Obligations.DismissAndHold : Prop :=
  ∀ (r : Request) (rest : List Request) (rt : Route) (s : State),
    (Serving .dismiss r rest rt s →
      (parseDismiss r.body = none → exec .dismiss s = .next (replied r rest rt .badRequest [] s)) ∧
      ∀ subject listed, parseDismiss r.body = some (subject, listed) →
        let left : KindSet :=
          match listed with | none => 0 | some kinds => s.link.notices[subject] &&& ~~~kinds
        let notices := s.link.notices.set subject left
        exec .dismiss s =
          .next
            { s with
              link :=
                { s.link with
                  receive := rest
                  notices
                  armed := if ∀ i : SubjectNo, notices[i] = 0 then true else s.link.armed
                  sending := some rt
                  transmit := [replyFrame r .ok [BitVec.ofNat 8 subject.val, left.setWidth 8]] } }) ∧
    (Serving .noticeHold r rest rt s →
      (parseHold r.body = none → exec .noticeHold s = .next (replied r rest rt .badRequest [] s)) ∧
      ∀ hold, parseHold r.body = some hold →
        let due : Bool := !hold && s.link.armed && decide (∃ i : SubjectNo, s.link.notices[i] ≠ 0)
        exec .noticeHold s =
          .next
            { s with
              link :=
                { s.link with
                  receive := rest
                  hold
                  armed := if due then false else s.link.armed
                  sending := some rt
                  transmit :=
                    replyFrame r .ok [if hold then 1 else 0] ::
                      if due then [{ role := .attention, payload := [0x7F, 0] }] else [] } })

/-- RESTART is answered and taken when its reply has been sent (R163): the session, the engine's jobs and ranks, the
lanes and pending bindings are gone and the keyring reset (R56, R100, R117); the clock, margin, revocation list,
site parameters and store keep their state.  The model's choices: bytes of a serial frame still arriving are kept
(assumption log, entry 17); the restart is a command of its own, RESTART_RESET (entry 16), which is no event with main
power off or none due (entry 3); and a pass that an earlier tick has made due stays due (entry 5). -/
def Obligations.RestartResetsTheSession : Prop :=
  (∀ (r : Request) (rest : List Request) (rt : Route) (s : State), Serving .restart r rest rt s →
    exec .restart s =
      .next
        (if r.body ≠ [] then replied r rest rt .badRequest [] s
        else
          { s with
            link :=
              { s.link with
                receive := rest
                restart := .replying
                sending := some rt
                transmit := [{ role := .restartReply, payload := [0x87, r.tag, 0] }] } })) ∧
  ∀ s : State,
    (s.powered = false ∨ s.link.restart ≠ .due → exec .restartReset s = .next s) ∧
    (s.powered = true → s.link.restart = .due →
      ∃ t, exec .restartReset s = .next t ∧ KeyringRestarted s.clock.now s.keyring t.keyring ∧
        (∀ l : LaneNo,
          t.lanes[l] = none ∧
            t.screens[l] =
              match (s.screens[l]).binding with
              | .binding _ _ => { s.screens[l] with binding := .unbound }
              | _ => s.screens[l]) ∧
        (∀ q : RequesterNo, t.engine.ranks[q] = q.val) ∧
        t =
          { s with
            keyring := t.keyring
            lanes := t.lanes
            screens := t.screens
            engine :=
              { inService :=
                  s.engine.inService.map fun j =>
                    { j with discard := true, job := { j.job with inSnapshot := false } }
                queued := []
                ranks := t.engine.ranks }
            link :=
              { latch := none, peer := none, serialHeld := s.link.serialHeld, receive := [], transmit := []
                sending := none, notices := (Vector.replicate 98 (0 : KindSet)).set 0 1
                startCause := .restart, armed := true, hold := false, cursor := 0, pendingSync := none
                restart := .idle } })

/-- SITE_PARAMETER stores each present value, clamped; when the floor or the no-opinion margin is present it makes one
evaluation with cause PARAMETER, and the window sweep of a changed M; it answers with the four as stored and M (R33,
R162). -/
def Obligations.ParametersAreClampedAndJudged : Prop :=
  ∀ (r : Request) (rest : List Request) (rt : Route) (s : State), Serving .siteParameter r rest rt s →
    (parseParameters r.body = none → exec .siteParameter s = .next (replied r rest rt .badRequest [] s)) ∧
    ∀ q, parseParameters r.body = some q →
      let p : SiteParameters :=
        { lateAllowance := match q.lateAllowance with | some v => min v 7200 | none => s.params.lateAllowance
          marginFloor := match q.marginFloor with | some v => min v 3600 | none => s.params.marginFloor
          noOpinion := match q.noOpinion with | some v => min v 3600 | none => s.params.noOpinion
          closingLead := match q.closingLead with | some v => max 60 (min v 3600) | none => s.params.closingLead }
      let e :=
        evaluation s.margin.shapes s.margin.terms p s.clock.residual.natAbs s.clock.staleness .parameter s.clock.now
      let evaluates := q.marginFloor ≠ none ∨ q.noOpinion ≠ none
      let body := fun m : Nat =>
        beBytes 2 p.lateAllowance ++ beBytes 2 p.marginFloor ++ beBytes 2 p.noOpinion ++ beBytes 2 p.closingLead ++
          beBytes 2 m
      (¬evaluates → exec .siteParameter s = .next { replied r rest rt .ok (body s.margin.margin) s with params := p }) ∧
      (evaluates → SyncOk s →
        let judged : State :=
          { s with
            params := p
            margin := { s.margin with margin := e.margin, last := e }
            link :=
              { s.link with
                notices :=
                  if e.margin = s.margin.margin then s.link.notices
                  else withNotice .marginChanged s.link.notices } }
        let swept := if e.margin = s.margin.margin then judged else windowSweep judged
        ∃ t, exec .siteParameter s = .next t ∧ Answered r rest rt .ok (body e.margin) s t ∧
          t = { judged with keyring := swept.keyring, link := t.link } ∧ t.link.notices = swept.link.notices)

/-! ### Claims and tables -/

/-- TIME_CLAIM (R7 to R11): refused without a tag over the claimed time and this site under this authority; in UNSET it
sets the clock outright; in RUNNING it applies the change d = T − now as far as the allowance goes, keeps the rest
as residual offset, and posts CLOCK_CLAMPED when it did not go far enough; then the expiry pass, one evaluation and
the two sweeps, and the reply.  The model's readings: the reply holds what R11 and section 12.3 list and not the M of
R35 (assumption log, entry 28); the reply of a SYNC that the claim releases stands ahead of the claim's own (entry
10). -/
def Obligations.ClaimsAreRationed : Prop :=
  ∀ (tagOver : Option ClaimTag) (order : SweepOrder) (r : Request) (rest : List Request) (rt : Route) (s : State),
    Serving .timeClaim r rest rt s →
    (parseClaim r.body = none → exec (.timeClaim tagOver order) s = .next (replied r rest rt .badRequest [] s)) ∧
    ∀ T, parseClaim r.body = some T →
      let verifies :=
        ∃ authority ∈ s.store.authority, ∃ site ∈ s.store.site, tagOver = some { authority, site, time := T }
      (¬verifies → exec (.timeClaim tagOver order) s = .next (replied r rest rt .integrity [] s)) ∧
      (verifies → SyncOk s →
        let d : Int := (T : Int) - s.clock.now
        let clamped : Bool := decide (s.clock.state = .running ∧ s.clock.allowance < d.natAbs)
        let a : Int :=
          match s.clock.state with
          | .unset => 0
          | .running =>
            if d.natAbs ≤ s.clock.allowance then d
            else if d < 0 then -(s.clock.allowance : Int) else s.clock.allowance
        let clock : Clock :=
          match s.clock.state with
          | .unset =>
            { s.clock with
              state := .running, now := T, allowance := 300, residual := 0, staleness := 0, minuteCountdown := 60 }
          | .running =>
            { s.clock with
              now := ((s.clock.now : Int) + a).toNat
              allowance := s.clock.allowance - a.natAbs
              residual := max (-65535) (min 65535 (d - a))
              staleness := 0, minuteCountdown := 60 }
        let e :=
          evaluation s.margin.shapes s.margin.terms s.params clock.residual.natAbs clock.staleness .claim clock.now
        let told := if clamped then withNotice .clockClamped s.link.notices else s.link.notices
        let judged : State :=
          { s with
            clock
            revocations := s.revocations.filter fun v => decide (clock.now ≤ v.expires)
            margin := { s.margin with margin := e.margin, last := e }
            link :=
              { s.link with
                notices := if e.margin = s.margin.margin then told else withNotice .marginChanged told } }
        let swept := bothSweeps order judged
        ∃ t, exec (.timeClaim tagOver order) s = .next t ∧
          Answered r rest rt .ok
            ([2] ++ beBytes 4 (BitVec.ofInt 32 a).toNat ++ beBytes 4 (BitVec.ofInt 32 clock.residual).toNat ++
              beBytes 2 clock.allowance ++ beBytes 4 clock.now) s t ∧
          t =
            { judged with
              keyring := swept.keyring, engine := swept.engine, lanes := swept.lanes, link := t.link } ∧
          t.link.notices = swept.link.notices)

/-- SET_SHAPE and SET_TERM replace one entry of their table whole, make one evaluation with cause SHAPE or TERM, and the
window sweep of a changed M, and answer with the entry as stored and M (R23, R25, R31, R32). -/
def Obligations.TablesAreSetAndJudged : Prop :=
  ∀ (r : Request) (rest : List Request) (rt : Route) (s : State),
    let flag := fun b : Bool => if b then (1 : Byte) else 0
    let one := fun n : Nat => BitVec.ofNat 8 n
    let judged := fun (tables : MarginUnit) (cause : EvalCause) =>
      let e :=
        evaluation tables.shapes tables.terms s.params s.clock.residual.natAbs s.clock.staleness cause s.clock.now
      ({ s with
          margin := { tables with margin := e.margin, last := e }
          link :=
            { s.link with
              notices :=
                if e.margin = s.margin.margin then s.link.notices
                else withNotice .marginChanged s.link.notices } } : State)
    let done := fun (body : List Byte) (u t : State) =>
      let swept := if u.margin.margin = s.margin.margin then u else windowSweep u
      Answered r rest rt .ok (body ++ beBytes 2 u.margin.margin) s t ∧
        t = { u with keyring := swept.keyring, link := t.link } ∧ t.link.notices = swept.link.notices
    (Serving .setShape r rest rt s →
      (parseShape r.body = none → exec .setShape s = .next (replied r rest rt .badRequest [] s)) ∧
      ∀ i shape, parseShape r.body = some (i, shape) → SyncOk s →
        ∃ t, exec .setShape s = .next t ∧
          done
            ([one i.val, flag shape.inUse, match shape.input with | .x1 => (1 : Byte) | .x2 => 2] ++
              beBytes 2 shape.centre ++ beBytes 2 shape.leftSpread ++ beBytes 2 shape.rightSpread ++
              [flag shape.leftShoulder, flag shape.rightShoulder])
            (judged { s.margin with shapes := s.margin.shapes.set i shape } .shape) t) ∧
    (Serving .setTerm r rest rt s →
      (parseTerm r.body = none → exec .setTerm s = .next (replied r rest rt .badRequest [] s)) ∧
      ∀ i term, parseTerm r.body = some (i, term) → SyncOk s →
        ∃ t, exec .setTerm s = .next t ∧
          done
            ([one i.val, flag term.inUse, one term.a.shape.val, flag term.a.negate] ++
              (match term.b with
                | none => [(0 : Byte), 0, 0, 0]
                | some (b, .and) => [1, one b.shape.val, flag b.negate, 1]
                | some (b, .or) => [1, one b.shape.val, flag b.negate, 2]) ++
              beBytes 2 term.proposed)
            (judged { s.margin with terms := s.margin.terms.set i term } .term) t)

/-! ### The keyring -/

/-- DELIVER_BUNDLE: checks 2 to 11 of R42 in their order, and the placing of R46.  An accepted delivery takes the slot
of the tombstone with its own bundle id, or the lowest empty slot, or that of the oldest tombstone; reserves the
lowest free pool entries; joins the intake queue; and where no intake job exists its first reel is presented. -/
def Obligations.DeliveriesAreCheckedAndPlaced : Prop :=
  ∀ (tagOver : Option BundleTag) (r : Request) (rest : List Request) (rt : Route) (s : State),
    Serving .deliverBundle r rest rt s → JobsOk s →
    (s.clock.state = .unset → exec (.deliverBundle tagOver) s = .next (replied r rest rt .clockUnset [] s)) ∧
    (s.clock.state = .running →
      (parseDelivery r.body = none → exec (.deliverBundle tagOver) s = .next (replied r rest rt .badRequest [] s)) ∧
      ∀ d, parseDelivery r.body = some d →
        let held := fun p : Bundle → Bool => decide (∃ i : SlotNo, ∃ b ∈ s.keyring.slots[i], p b = true)
        let heldBy := (List.finRange 64).filter fun i : SlotNo =>
          (s.keyring.slots[i]).any fun b => b.featureId == d.featureId && !b.isTombstone
        let barredBy := fun e : RevocationEntry =>
          match e.kind with | .bundle => e.target == d.bundleId | .feature => e.target == d.featureId
        let refused : Option Status :=
          if ¬∃ identity ∈ s.store.identity, tagOver = some { identity, covered := d.covered } then some .integrity
          else if s.revocations.any barredBy then some .revoked
          else if held fun b => b.bundleId == d.bundleId && !b.isTombstone then some .duplicate
          else if 4 ≤ heldBy.length then some .featureFull
          else if d.notAfter + d.grace < s.clock.now then some .expired
          else if (∀ i : SlotNo, s.keyring.slots[i] ≠ none) ∧ held Bundle.isTombstone = false then some .keyringFull
          else if 768 - s.keyring.pool.length < d.reelCount then some .poolFull
          else if 4 ≤ s.keyring.intakeQueue.length then some .busy
          else none
        (∀ status, refused = some status →
          exec (.deliverBundle tagOver) s = .next (replied r rest rt status [] s)) ∧
        (refused = none →
          let own := held fun b => b.bundleId == d.bundleId && b.isTombstone
          let room : Bool := decide (∃ i : SlotNo, s.keyring.slots[i] = none)
          let free := (List.finRange 768).filter fun n : PoolNo => decide (n ∉ s.keyring.pool.map PoolCell.number)
          let refs := free.take d.reelCount
          ∃ slot t, exec (.deliverBundle tagOver) s = .next t ∧
            (own = true → ∃ b ∈ s.keyring.slots[slot], b.bundleId = d.bundleId ∧ b.isTombstone = true) ∧
            (own = false → room = true →
              s.keyring.slots[slot] = none ∧ ∀ j, s.keyring.slots[j] = none → slot ≤ j) ∧
            (own = false → room = false →
              ∃ b ∈ s.keyring.slots[slot], b.isTombstone = true ∧
                ∀ (j : SlotNo), ∀ c ∈ s.keyring.slots[j], c.isTombstone = true →
                  b.entryTime < c.entryTime ∨ b.entryTime = c.entryTime ∧ slot ≤ j) ∧
            t.keyring.pool.Perm (s.keyring.pool ++ refs.map fun n => { number := n, key := none }) ∧
            let record : Bundle :=
              { bundleId := d.bundleId, featureId := d.featureId, notBefore := d.notBefore, notAfter := d.notAfter
                grace := d.grace, allowance := d.allowance, screens := d.screens, reelCount := d.reelCount
                poolRefs := refs, state := .unwrapping, entryTime := s.clock.now, useCount := 0, reelsUnwrapped := 0
                revocationMode := none, wrappedKeys := d.wrappedKeys }
            let placed : State :=
              { s with
                keyring :=
                  { s.keyring with
                    slots := s.keyring.slots.set slot (some record)
                    pool := t.keyring.pool
                    intakeQueue := s.keyring.intakeQueue ++ [slot] }
                engine :=
                  if intakeJobExists s.engine then s.engine
                  else
                    { s.engine with
                      queued := s.engine.queued ++ [{ item := .intake slot 1, inSnapshot := false }] } }
            t =
              { replied r rest rt .ok [BitVec.ofNat 8 slot.val] s with
                keyring := placed.keyring, engine := (grant placed).engine, lanes := (grant placed).lanes }))

/-- BUNDLE_STATUS answers with the 71 bytes of the record named by slot or by id, or NO_SUCH (R51).  LIST_BUNDLES
answers with the first 16 occupied slots from the start slot or the cursor on, wrapping, and the cursor stands
behind the last slot examined: the sixteenth occupied one, or after all 64 where it began (R52). -/
def Obligations.RecordsAreReadAsTheyStand : Prop :=
  ∀ (r : Request) (rest : List Request) (rt : Route) (s : State),
    let one := fun n : Nat => BitVec.ofNat 8 n
    let record := fun (slot : SlotNo) (b : Bundle) =>
      [one slot.val,
        match b.state with
        | .unwrapping => (1 : Byte) | .waiting => 2 | .live => 3 | .closing => 4 | .expired => 5 | .revoked => 6
        | .failed => 7] ++
      beBytes 8 b.bundleId.toNat ++ beBytes 8 b.featureId.toNat ++ beBytes 4 b.notBefore ++ beBytes 4 b.notAfter ++
      beBytes 2 b.grace ++
      [one b.allowance, one b.useCount, one b.reelCount, one b.reelsUnwrapped,
        one (match s.keyring.intakeQueue.findIdx? (· == slot) with | some i => i + 1 | none => 0),
        match b.revocationMode with
        | none => (0 : Byte) | some .immediate => 1 | some .afterScreening => 2] ++
      beBytes 4 b.entryTime ++
      match b.screens with
      | .all => List.replicate 33 (0 : Byte)
      | .only screens =>
        one screens.length :: (screens.map fun l => one (l.val + 1)) ++ List.replicate (32 - screens.length) 0
    (Serving .bundleStatus r rest rt s →
      (parseBundleName r.body = none → exec .bundleStatus s = .next (replied r rest rt .badRequest [] s)) ∧
      (∀ slot, parseBundleName r.body = some (.bySlot slot) →
        exec .bundleStatus s =
          .next
            (match s.keyring.slots[slot] with
            | none => replied r rest rt .noSuch [] s
            | some b => replied r rest rt .ok (record slot b) s)) ∧
      ∀ id, parseBundleName r.body = some (.byId id) →
        ((∀ (i : SlotNo), ∀ b ∈ s.keyring.slots[i], b.bundleId ≠ id) →
          exec .bundleStatus s = .next (replied r rest rt .noSuch [] s)) ∧
        ∀ (i : SlotNo), ∀ b ∈ s.keyring.slots[i], b.bundleId = id → RecordsOk s →
          exec .bundleStatus s = .next (replied r rest rt .ok (record i b) s)) ∧
    (Serving .listBundles r rest rt s →
      (parseListStart r.body = none → exec .listBundles s = .next (replied r rest rt .badRequest [] s)) ∧
      ∀ given, parseListStart r.body = some given →
        let start : SlotNo := given.getD s.keyring.listCursor
        let inOrder := (List.finRange 64).map fun i => start + i
        let found := (inOrder.filter fun i : SlotNo => (s.keyring.slots[i]).isSome).take 16
        let cursor : SlotNo := if found.length < 16 then start else found.getLastD start + 1
        exec .listBundles s =
          .next
            { replied r rest rt .ok
                (one found.length ::
                    (found.flatMap fun i => match s.keyring.slots[i] with | some b => record i b | none => []) ++
                  [one cursor.val,
                    one ((List.finRange 64).filter fun i : SlotNo => (s.keyring.slots[i]).isSome).length] ++
                  beBytes 2 (768 - s.keyring.pool.length)) s with
              keyring := { s.keyring with listCursor := cursor } })

/-- DELETE_BUNDLE is answered by the record that holds the id: none, one in UNWRAPPING, one in use, or one that leaves
its slot with its pool entries erased and freed (R53). -/
def Obligations.DeletionEmptiesTheSlot : Prop :=
  ∀ (r : Request) (rest : List Request) (rt : Route) (s : State), Serving .deleteBundle r rest rt s → RecordsOk s →
    (parseBundleId r.body = none → exec .deleteBundle s = .next (replied r rest rt .badRequest [] s)) ∧
    ∀ id, parseBundleId r.body = some id →
      ((∀ (i : SlotNo), ∀ b ∈ s.keyring.slots[i], b.bundleId ≠ id) →
        exec .deleteBundle s = .next (replied r rest rt .noSuch [] s)) ∧
      ∀ (i : SlotNo), ∀ b ∈ s.keyring.slots[i], b.bundleId = id →
        exec .deleteBundle s =
          .next
            (if b.state = .unwrapping then replied r rest rt .busy [] s
            else if 0 < b.useCount then replied r rest rt .inUse [] s
            else
              { replied r rest rt .ok [BitVec.ofNat 8 i.val] s with
                keyring :=
                  { s.keyring with
                    slots := s.keyring.slots.set i none
                    pool := s.keyring.pool.filter fun c => decide (c.number ∉ b.poolRefs) } })

/-! ### Revocation and SYNC -/

/-- REVOKE (R74 to R81): the checks in their order; the list extended, kept, grown, or with its earliest until replaced;
every matching bundle with no use made a tombstone, one in use made REVOKED with its keys kept, and under IMMEDIATE
its RUNNING lanes stopped with their working slots emptied; the struck intake abandoned and the next bundle's reel
presented; no notice; and the reply's counts.  The reply of a SYNC that the order releases (R97) stands ahead of the
order's own, which is the model's reading (assumption log, entry 10). -/
def Obligations.OrdersStrikeTheKeyring : Prop :=
  ∀ (tagOver : Option OrderTag) (r : Request) (rest : List Request) (rt : Route) (s : State),
    Serving .revoke r rest rt s → RevocationsOk s → JobsOk s →
    (parseOrder r.body = none → exec (.revoke tagOver) s = .next (replied r rest rt .badRequest [] s)) ∧
    ∀ o, parseOrder r.body = some o →
      let verifies := ∃ authority ∈ s.store.authority, tagOver = some { authority, covered := o.covered }
      let same := fun e : RevocationEntry => e.kind == o.kind && e.target == o.target
      let listed := s.revocations.any same
      let later := s.revocations.any fun e => same e && decide (e.expires < o.expires)
      let outlasts := s.revocations.any fun e => decide (e.expires < o.expires)
      (¬verifies → exec (.revoke tagOver) s = .next (replied r rest rt .integrity [] s)) ∧
      (verifies → o.expires ≤ s.clock.now → exec (.revoke tagOver) s = .next (replied r rest rt .badRequest [] s)) ∧
      (verifies → s.clock.now < o.expires → listed = false → s.revocations.length = 32 → outlasts = false →
        exec (.revoke tagOver) s = .next (replied r rest rt .listFull [] s)) ∧
      (verifies → s.clock.now < o.expires → listed = true ∨ s.revocations.length < 32 ∨ outlasts = true → SyncOk s →
        ∃ (action : Byte) (t : State), exec (.revoke tagOver) s = .next t ∧
          (listed = true → later = true →
            action = 2 ∧
              t.revocations = s.revocations.map fun e => if same e then { e with expires := o.expires } else e) ∧
          (listed = true → later = false → action = 3 ∧ t.revocations = s.revocations) ∧
          (listed = false → s.revocations.length < 32 →
            action = 1 ∧
              t.revocations = s.revocations ++ [{ kind := o.kind, target := o.target, expires := o.expires }]) ∧
          (listed = false → s.revocations.length = 32 →
            action = 4 ∧
              ∃ n, ∃ h : n < s.revocations.length,
                t.revocations =
                    s.revocations.eraseIdx n ++ [{ kind := o.kind, target := o.target, expires := o.expires }] ∧
                  ∀ m, ∀ h' : m < s.revocations.length,
                    s.revocations[n].expires ≤ s.revocations[m].expires ∧
                      (m < n → s.revocations[n].expires < s.revocations[m].expires)) ∧
          let hit : Bundle → Bool := fun b =>
            match o.kind with | .bundle => b.bundleId == o.target | .feature => b.featureId == o.target
          let open_ := fun b : Bundle => b.state == .waiting || b.state == .live || b.state == .closing
          let struck := fun b : Bundle => hit b && (b.state == .unwrapping || open_ b && b.useCount == 0)
          let seized := fun b : Bundle => hit b && open_ b && b.useCount != 0
          let raised := fun b : Bundle =>
            hit b && b.state == .revoked && b.useCount != 0 && o.mode == .immediate &&
              b.revocationMode == some .afterScreening
          let abandoned := fun i : SlotNo =>
            (s.keyring.slots[i]).any fun b => struck b && b.state == .unwrapping
          let stopped := fun l : LaneNo =>
            (s.lanes[l]).any fun sc =>
              sc.status == .running &&
                (s.keyring.slots[sc.bundleSlot]).any fun b => seized b && o.mode == .immediate || raised b
          let dropped : JobItem → Bool := fun i =>
            match i with
            | .intake slot _ => abandoned slot
            | .rewrap l n _ _ => stopped l && (s.lanes[l]).any fun sc => (sc.slot n).hasJob
            | .bind _ => false
          let queue := s.keyring.intakeQueue.filter fun i => !abandoned i
          let kept := s.engine.queued.filter fun j => !dropped j.item
          let asked : List Job :=
            match queue with
            | [] => []
            | head :: _ =>
              match s.keyring.slots[head] with
              | none => []
              | some b =>
                if intakeJobExists { s.engine with queued := kept } then []
                else [{ item := .intake head (b.reelsUnwrapped + 1), inSnapshot := false }]
          (∀ i : SlotNo,
            t.keyring.slots[i] =
              match s.keyring.slots[i] with
              | none => none
              | some b =>
                if struck b then
                  some { b with state := .revoked, entryTime := s.clock.now, poolRefs := [], wrappedKeys := [] }
                else if seized b then
                  some { b with state := .revoked, entryTime := s.clock.now, revocationMode := some o.mode }
                else if raised b then some { b with revocationMode := some .immediate }
                else some b) ∧
          (∀ l : LaneNo,
            t.lanes[l] =
              match s.lanes[l] with
              | none => none
              | some sc =>
                if stopped l then
                  some
                    { sc with
                      status := .stopping
                      slotX := if sc.slotX.hasJob then .empty else sc.slotX
                      slotY := if sc.slotY.hasJob then .empty else sc.slotY }
                else some sc) ∧
          t =
            { s with
              revocations := t.revocations
              lanes := t.lanes
              keyring :=
                { s.keyring with
                  slots := t.keyring.slots
                  pool :=
                    s.keyring.pool.filter fun c =>
                      decide ¬∃ i : SlotNo, ∃ b ∈ s.keyring.slots[i], struck b = true ∧ c.number ∈ b.poolRefs
                  intakeQueue := queue }
              engine :=
                { s.engine with
                  inService :=
                    s.engine.inService.map fun j => if dropped j.job.item then { j with discard := true } else j
                  queued := kept ++ asked }
              link := t.link } ∧
          t.link.notices = s.link.notices ∧
          Answered r rest rt .ok
            [action,
              BitVec.ofNat 8
                ((List.finRange 64).countP fun i : SlotNo =>
                  (s.keyring.slots[i]).any fun b => struck b || seized b || raised b),
              BitVec.ofNat 8 ((List.finRange 32).countP stopped), BitVec.ofNat 8 t.revocations.length]
            s t)

/-- SYNC (R96): refused while one is pending; answered at once when no job exists; otherwise pending under its tag, with
every job that exists in its snapshot, and no reply yet. -/
def Obligations.SyncTakesASnapshot : Prop :=
  ∀ (r : Request) (rest : List Request) (rt : Route) (s : State), Serving .sync r rest rt s →
    exec .sync s =
      .next
        (if r.body ≠ [] then replied r rest rt .badRequest [] s
        else if s.link.pendingSync ≠ none then replied r rest rt .busy [] s
        else if s.engine.inService = none ∧ s.engine.queued = [] then replied r rest rt .ok [] s
        else
          { s with
            engine :=
              { s.engine with
                inService := s.engine.inService.map fun j => { j with job := { j.job with inSnapshot := true } }
                queued := s.engine.queued.map fun j => { j with inSnapshot := true } }
            link := { s.link with receive := rest, pendingSync := some r.tag } })

/-! ### Screens -/

/-- BIND_SCREEN, UNBIND_SCREEN and SET_BIAS are taken only on a CLOSED lane (R102).  A bind drops a pending binding's
job, makes the entry BINDING with the new unit, wrapped key and bias, and creates a bind job, granted at once when
the engine is IDLE (R103); an unbind drops the job and clears the entry but for its bias; a bias is stored whatever
the entry's state (R105).  The reply of a SYNC that a dropped job releases (R97) stands ahead of the request's own,
which is the model's reading (assumption log, entry 10). -/
def Obligations.ScreensAreSetWhileClosed : Prop :=
  ∀ (r : Request) (rest : List Request) (rt : Route) (s : State),
    let dropped : LaneNo → JobItem → Bool := fun l i => match i with | .bind k => k == l | _ => false
    let withoutBind := fun l : LaneNo =>
      { s.engine with
        inService := s.engine.inService.map fun j => if dropped l j.job.item then { j with discard := true } else j
        queued := s.engine.queued.filter fun j => !dropped l j.item }
    (Serving .bindScreen r rest rt s →
      (parseBind r.body = none → exec .bindScreen s = .next (replied r rest rt .badRequest [] s)) ∧
      ∀ q, parseBind r.body = some q →
        (s.lanes[q.screen] ≠ none → exec .bindScreen s = .next (replied r rest rt .laneBusy [] s)) ∧
        (s.lanes[q.screen] = none → SyncOk s →
          let made : State :=
            { s with
              screens := s.screens.set q.screen { binding := .binding q.unitId q.wrapped, bias := q.bias }
              engine :=
                { withoutBind q.screen with
                  queued := (withoutBind q.screen).queued ++ [{ item := .bind q.screen, inSnapshot := false }] } }
          ∃ t, exec .bindScreen s = .next t ∧ Answered r rest rt .ok [BitVec.ofNat 8 q.bias] s t ∧
            t = { made with engine := (grant made).engine, lanes := (grant made).lanes, link := t.link } ∧
            t.link.notices = s.link.notices)) ∧
    (Serving .unbindScreen r rest rt s →
      (parseLane r.body = none → exec .unbindScreen s = .next (replied r rest rt .badRequest [] s)) ∧
      ∀ l, parseLane r.body = some l →
        (s.lanes[l] ≠ none → exec .unbindScreen s = .next (replied r rest rt .laneBusy [] s)) ∧
        (s.lanes[l] = none → SyncOk s →
          ∃ t, exec .unbindScreen s = .next t ∧ Answered r rest rt .ok [] s t ∧
            t =
              { s with
                screens := s.screens.set l { s.screens[l] with binding := .unbound }
                engine := withoutBind l
                link := t.link } ∧
            t.link.notices = s.link.notices)) ∧
    (Serving .setBias r rest rt s →
      (parseBias r.body = none → exec .setBias s = .next (replied r rest rt .badRequest [] s)) ∧
      ∀ l bias, parseBias r.body = some (l, bias) →
        exec .setBias s =
          .next
            (if s.lanes[l] ≠ none then replied r rest rt .laneBusy [] s
            else
              { replied r rest rt .ok [BitVec.ofNat 8 bias] s with
                screens := s.screens.set l { s.screens[l] with bias := bias } }))

/-! ### Lanes -/

/-- OPEN_SCREENING (R107 to R109): the checks in their order, each narrowing the candidates; then, on the remaining
candidate with the latest NA, the lowest slot on a tie, one use is taken, the lane begins with M_open and its stop
time H, slot X takes (1, f) needed now and slot Y its successor needed 600 s on, and their jobs are created. -/
def Obligations.OpensAreCheckedAndBegun : Prop :=
  ∀ (r : Request) (rest : List Request) (rt : Route) (s : State), Serving .openScreening r rest rt s →
    (parseOpen r.body = none → exec .openScreening s = .next (replied r rest rt .badRequest [] s)) ∧
    ∀ q, parseOpen r.body = some q →
      let held := fun p : Bundle → Bool => decide (∃ i : SlotNo, ∃ b ∈ s.keyring.slots[i], p b = true)
      let m : Int := s.margin.margin
      let bound : Binding → Bool := fun b => match b with | .bound _ _ => true | _ => false
      let named : Bundle → Bool := fun b => match q.bundleId with | none => true | some id => b.bundleId == id
      let candidate := fun b : Bundle =>
        b.featureId == q.featureId && named b &&
          (b.state == .waiting || b.state == .live || b.state == .closing)
      let live := fun b : Bundle => candidate b && b.state == .live
      let permitted := fun b : Bundle =>
        live b && match b.screens with | .all => true | .only screens => decide (q.lane ∈ screens)
      let carrying := fun b : Bundle => permitted b && decide ((q.plannedEnd : Int) ≤ (b.notAfter : Int) + b.grace - m)
      let starting := fun b : Bundle => carrying b && decide (q.firstReel ≤ b.reelCount)
      let free := fun b : Bundle => starting b && decide (b.useCount < b.allowance)
      let refused : Option Status :=
        if s.lanes[q.lane] ≠ none then some .laneBusy
        else if bound (s.screens[q.lane]).binding = false then some .screenUnbound
        else if s.clock.state = .unset then some .clockUnset
        else if (held fun b => b.featureId == q.featureId) = false then some .noSuch
        else if (held fun b => b.featureId == q.featureId && named b) = false then some .noSuch
        else if held live = false then
          some (if held fun b => candidate b && b.state == .waiting then .windowNotOpen else .windowClosed)
        else if held permitted = false then some .screenNotPermitted
        else if held carrying = false then some .runTooLong
        else if q.plannedEnd ≤ s.clock.now ∨ held starting = false ∨ q.firstReel = 0 then some .badRequest
        else if held free = false then some .concurrencyFull
        else none
      (∀ status, refused = some status → exec .openScreening s = .next (replied r rest rt status [] s)) ∧
      (refused = none →
        ∃ slot b, s.keyring.slots[slot] = some b ∧ free b = true ∧
          (∀ (j : SlotNo), ∀ c ∈ s.keyring.slots[j], free c = true →
            c.notAfter < b.notAfter ∨ c.notAfter = b.notAfter ∧ slot ≤ j) ∧
          let lead := min (s.clock.now + 600) 4294967295
          let second : Option Position :=
            if q.firstReel < b.reelCount then some { cycle := 1, reel := q.firstReel + 1 }
            else if 1 < q.repeatTotal then some { cycle := 2, reel := 1 }
            else none
          let stop :=
            min
              (min ((b.notAfter : Int) + b.grace - m) ((q.plannedEnd : Int) + s.params.lateAllowance)).toNat 4294967295
          let lane : Screening :=
            { status := .running, featureId := q.featureId, bundleSlot := slot, bundleId := b.bundleId
              startTime := s.clock.now, plannedEnd := q.plannedEnd, stopTime := stop, openMargin := s.margin.margin
              firstReel := q.firstReel, repeatTotal := q.repeatTotal, current := { cycle := 1, reel := 0 }
              slotX := .holds { cycle := 1, reel := q.firstReel } s.clock.now .queued
              slotY := match second with | some p => .holds p lead .queued | none => .empty
              amendment := none, closingNotice := false, ending := none
              report := { entries := [], truncated := false, cursor := 0 } }
          let jobs : List Job :=
            { item := .rewrap q.lane .x { cycle := 1, reel := q.firstReel } s.clock.now, inSnapshot := false } ::
              match second with
              | some p => [{ item := .rewrap q.lane .y p lead, inSnapshot := false }]
              | none => []
          let begun : State :=
            { s with
              keyring :=
                { s.keyring with
                  slots := s.keyring.slots.set slot (some { b with useCount := b.useCount + 1 }) }
              lanes := s.lanes.set q.lane (some lane)
              engine := { s.engine with queued := s.engine.queued ++ jobs } }
          exec .openScreening s =
            .next
              { replied r rest rt .ok
                  (BitVec.ofNat 8 slot.val :: (beBytes 2 s.margin.margin ++ beBytes 4 stop)) s with
                keyring := begun.keyring, engine := (grant begun).engine, lanes := (grant begun).lanes })

/-- LANE_STATUS answers with the screen entry and the lane as they stand, a CLOSED lane with its fields as zeros, and
changes nothing (R115). -/
def Obligations.LanesAreReadAsTheyStand : Prop :=
  ∀ (r : Request) (rest : List Request) (rt : Route) (s : State), Serving .laneStatus r rest rt s →
    (parseLane r.body = none → exec .laneStatus s = .next (replied r rest rt .badRequest [] s)) ∧
    ∀ l, parseLane r.body = some l →
      let flag := fun b : Bool => if b then (1 : Byte) else 0
      let one := fun n : Nat => BitVec.ofNat 8 n
      let slot := fun n : ReelSlot =>
        match n with
        | .empty => List.replicate 7 (0 : Byte)
        | .holds p neededBy phase =>
          [match phase with | .queued => (1 : Byte) | .unwrapping => 2 | .ready _ => 3 | .delivered _ => 4,
            one p.cycle, one p.reel] ++ beBytes 4 neededBy
      exec .laneStatus s =
        .next
          (replied r rest rt .ok
            ((match (s.screens[l]).binding with
                | .unbound => (1 : Byte) :: List.replicate 9 0
                | .binding unitId _ => 2 :: 1 :: beBytes 8 unitId.toNat
                | .bound unitId _ => 3 :: 1 :: beBytes 8 unitId.toNat) ++
              [one (s.screens[l]).bias] ++
              match s.lanes[l] with
              | none => (1 : Byte) :: List.replicate 63 0
              | some sc =>
                [match sc.status with | .running => (2 : Byte) | .stopping => 3 | .ended => 4 | .faulted => 5] ++
                  beBytes 8 sc.featureId.toNat ++ [one sc.bundleSlot.val] ++ beBytes 8 sc.bundleId.toNat ++
                  beBytes 4 sc.startTime ++ beBytes 4 sc.plannedEnd ++ beBytes 4 sc.stopTime ++
                  beBytes 2 sc.openMargin ++
                  [one sc.firstReel, one sc.repeatTotal, one sc.current.cycle, one sc.current.reel,
                    flag sc.closingNotice] ++
                  (match sc.ending with
                    | none => List.replicate 5 (0 : Byte)
                    | some (.completed, time) => 1 :: beBytes 4 time
                    | some (.stopTime, time) => 2 :: beBytes 4 time
                    | some (.revoked, time) => 3 :: beBytes 4 time
                    | some (.integrity, time) => 4 :: beBytes 4 time) ++
                  slot sc.slotX ++ slot sc.slotY ++
                  (match sc.amendment with
                    | none => List.replicate 6 (0 : Byte)
                    | some a =>
                      (flag a.plannedEnd.isSome + 2 * flag a.repeatTotal.isSome) ::
                        (beBytes 4 (a.plannedEnd.getD 0) ++ [one (a.repeatTotal.getD 0)])) ++
                  [one sc.report.entries.length, flag sc.report.truncated]) s)

/-- END_SCREENING ends a RUNNING lane with cause COMPLETED and a STOPPING one with cause REVOKED, as R112 gives (R113);
CLOSE_LANE closes an ENDED or FAULTED one (R114); a lane in another state is refused and left.  The reply of a SYNC
that the end releases (R97) stands ahead of the request's own, which is the model's reading (assumption log, entry
10). -/
def Obligations.LanesEndAndClose : Prop :=
  ∀ (r : Request) (rest : List Request) (rt : Route) (s : State),
    (Serving .endScreening r rest rt s →
      (parseLane r.body = none → exec .endScreening s = .next (replied r rest rt .badRequest [] s)) ∧
      ∀ l, parseLane r.body = some l →
        ((∀ sc ∈ s.lanes[l], sc.status = .ended ∨ sc.status = .faulted) →
          exec .endScreening s = .next (replied r rest rt .notRunning [] s)) ∧
        ∀ sc ∈ s.lanes[l], sc.status = .running ∨ sc.status = .stopping → SyncOk s →
          let cause : EndCause := if sc.status = .running then .completed else .revoked
          ∃ t, exec .endScreening s = .next t ∧ LaneEnds l sc .ended cause (.laneEnded l) s t ∧
            t = { s with keyring := t.keyring, engine := t.engine, lanes := t.lanes, link := t.link } ∧
            Answered r rest rt .ok ((if sc.status = .running then 1 else 3) :: beBytes 4 s.clock.now) s t) ∧
    (Serving .closeLane r rest rt s →
      (parseLane r.body = none → exec .closeLane s = .next (replied r rest rt .badRequest [] s)) ∧
      ∀ l, parseLane r.body = some l →
        exec .closeLane s =
          .next
            (match s.lanes[l] with
            | none => replied r rest rt .notEnded [] s
            | some sc =>
              if sc.status = .ended ∨ sc.status = .faulted then
                { replied r rest rt .ok [] s with lanes := s.lanes.set l none }
              else replied r rest rt .notEnded [] s))

/-! ### Reels -/

/-- FETCH_REEL (R125 to R127, R144): the slot found is the one that holds the reel for the current cycle or the next,
and of two the one after the current position, or the earlier of two after it, or else the one at it; a READY slot
becomes DELIVERED and its release is entered in the report, which keeps 64 entries and then only says so; a
DELIVERED slot gives the same key again; nothing is released past the stop time. -/
def Obligations.ReelsAreReleased : Prop :=
  (∀ (sc : Screening) (reel : Nat),
    let holds := fun (n : SlotName) (p : Position) =>
      (∃ neededBy phase, sc.slot n = .holds p neededBy phase) ∧ p.reel = reel ∧
        (p.cycle = sc.current.cycle ∨ p.cycle = sc.current.cycle + 1)
    let after := fun p : Position =>
      sc.current.cycle < p.cycle ∨ sc.current.cycle = p.cycle ∧ sc.current.reel < p.reel
    (sc.findReel reel = none ↔ ∀ n p, ¬holds n p) ∧
    (∀ p, holds .x p → (∀ q, ¬holds .y q) → sc.findReel reel = some .x) ∧
    (∀ q, holds .y q → (∀ p, ¬holds .x p) → sc.findReel reel = some .y) ∧
    ∀ p q, holds .x p → holds .y q →
      (after p → ¬after q → sc.findReel reel = some .x) ∧ (¬after p → after q → sc.findReel reel = some .y) ∧
      (after p → after q → p.cycle < q.cycle → sc.findReel reel = some .x) ∧
      (after p → after q → q.cycle < p.cycle → sc.findReel reel = some .y) ∧
      (¬after p → ¬after q → p = sc.current → sc.findReel reel = some .x) ∧
      (¬after p → ¬after q → p ≠ sc.current → q = sc.current → sc.findReel reel = some .y)) ∧
  ∀ (r : Request) (rest : List Request) (rt : Route) (s : State), Serving .fetchReel r rest rt s →
    (parseFetch r.body = none → exec .fetchReel s = .next (replied r rest rt .badRequest [] s)) ∧
    ∀ l reel, parseFetch r.body = some (l, reel) →
      let unit : List Byte :=
        match (s.screens[l]).binding with
        | .unbound => List.replicate 8 0
        | .binding unitId _ => beBytes 8 unitId.toNat
        | .bound unitId _ => beBytes 8 unitId.toNat
      let body := fun (p : Position) (again : Byte) (key : WrappedReelKey) =>
        [BitVec.ofNat 8 (l.val + 1), BitVec.ofNat 8 p.cycle, BitVec.ofNat 8 p.reel] ++ unit ++ [again] ++
          beBytes 40 key.toNat
      exec .fetchReel s =
        .next
          (match s.lanes[l] with
          | none => replied r rest rt .notRunning [] s
          | some sc =>
            if sc.status = .stopping then replied r rest rt .revoked [] s
            else if sc.status ≠ .running then replied r rest rt .notRunning [] s
            else if sc.stopTime < s.clock.now then replied r rest rt .expired [] s
            else
              match sc.findReel reel with
              | none => replied r rest rt .outOfSequence [] s
              | some n =>
                match sc.slot n with
                | .holds p neededBy (.ready key) =>
                  let entry : ReportEntry :=
                    { position := p, released := s.clock.now, neededBy, lateness := s.clock.now - neededBy }
                  { replied r rest rt .ok (body p 0 key) s with
                    lanes :=
                      s.lanes.set l
                        (some
                          { sc.withSlot n (.holds p neededBy (.delivered key)) with
                            report :=
                              if sc.report.entries.length < 64 then
                                { sc.report with entries := sc.report.entries ++ [entry] }
                              else { sc.report with truncated := true } }) }
                | .holds p _ (.delivered key) => replied r rest rt .ok (body p 1 key) s
                | _ => replied r rest rt .notReady [] s)

/-- REEL_BEGIN (R119, R128 to R130, R139 to R142): on a STOPPING lane it ends the lane with REVOKED; otherwise the begun
reel must be that of the expected position, in a DELIVERED slot.  The position moves; a pending amendment replaces E
and k and gives H and the closing-notice flag afresh, and ends the lane when now is past that H; the slot of the
position before, and a slot that the new k has made wrong, are emptied; and the successor takes the free slot.  The
model's readings: a slot that an amendment applied at the first begin has filled is not reported as the refill
(assumption log, entry 20), and the reply of a SYNC that the begin releases (R97) stands ahead of the begin's own
(entry 10). -/
def Obligations.BeginsFollowThePlayback : Prop :=
  ∀ (r : Request) (rest : List Request) (rt : Route) (s : State), Serving .reelBegin r rest rt s →
    (parseBegin r.body = none → exec .reelBegin s = .next (replied r rest rt .badRequest [] s)) ∧
    ∀ q, parseBegin r.body = some q →
      ((∀ sc ∈ s.lanes[q.lane], sc.status = .ended ∨ sc.status = .faulted) →
        exec .reelBegin s = .next (replied r rest rt .notRunning [] s)) ∧
      ∀ sc ∈ s.lanes[q.lane],
        (sc.status = .stopping → SyncOk s →
          ∃ t, exec .reelBegin s = .next t ∧ LaneEnds q.lane sc .ended .revoked (.laneEnded q.lane) s t ∧
            t = { s with keyring := t.keyring, engine := t.engine, lanes := t.lanes, link := t.link } ∧
            Answered r rest rt .revoked (beBytes 4 s.clock.now) s t) ∧
        (sc.status = .running →
          let n := match s.keyring.slots[sc.bundleSlot] with | some b => b.reelCount | none => 0
          let following := fun (k : Nat) (p : Position) =>
            if p.reel < n then some ({ cycle := p.cycle, reel := p.reel + 1 } : Position)
            else if p.reel = n ∧ p.cycle < k then some { cycle := p.cycle + 1, reel := 1 }
            else none
          let expected :=
            if sc.current.reel = 0 then some ({ cycle := 1, reel := sc.firstReel } : Position)
            else following sc.repeatTotal sc.current
          let holdsAt : ReelSlot → Position → Bool := fun x p =>
            match x with | .holds p' _ _ => p' == p | .empty => false
          let holder := fun p : Position =>
            if holdsAt sc.slotX p then some SlotName.x else if holdsAt sc.slotY p then some SlotName.y else none
          ((∀ p, expected = some p → p.reel = q.reel → holder p = none) →
            exec .reelBegin s = .next (replied r rest rt .outOfSequence [] s)) ∧
          ∀ p name, expected = some p → p.reel = q.reel → holder p = some name →
            ((∀ p' neededBy key, sc.slot name ≠ .holds p' neededBy (.delivered key)) →
              exec .reelBegin s = .next (replied r rest rt .notDelivered [] s)) ∧
            ((∃ p' neededBy key, sc.slot name = .holds p' neededBy (.delivered key)) → SyncOk s →
              let one := fun n : Nat => BitVec.ofNat 8 n
              let first : Bool := decide (sc.current.reel = 0)
              let amended := sc.amendment.isSome
              let a := sc.amendment.getD { plannedEnd := none, repeatTotal := none }
              let plannedEnd := a.plannedEnd.getD sc.plannedEnd
              let k := if amended then max (a.repeatTotal.getD sc.repeatTotal) p.cycle else sc.repeatTotal
              let stop :=
                match amended, s.keyring.slots[sc.bundleSlot] with
                | true, some b =>
                  min
                    (min ((b.notAfter : Int) + b.grace - sc.openMargin)
                      ((plannedEnd : Int) + s.params.lateAllowance)).toNat 4294967295
                | _, _ => sc.stopTime
              let moved : Screening :=
                { sc with
                  current := p, plannedEnd, repeatTotal := k, stopTime := stop, amendment := none
                  closingNotice :=
                    if amended = true ∧ (s.params.closingLead : Int) < (stop : Int) - s.clock.now then false
                    else sc.closingNotice }
              (amended = true → stop < s.clock.now →
                ∃ t, exec .reelBegin s = .next t ∧ LaneEnds q.lane moved .ended .stopTime (.laneEnded q.lane) s t ∧
                  t = { s with keyring := t.keyring, engine := t.engine, lanes := t.lanes, link := t.link } ∧
                  Answered r rest rt .ok ([4, one p.cycle, one p.reel] ++ List.replicate 7 0) s t) ∧
              (amended = false ∨ s.clock.now ≤ stop →
                let next := following k p
                let stale : ReelSlot → Bool := fun x =>
                  match x with
                  | .holds p' _ _ => amended && p.before p' && decide (next ≠ some p')
                  | .empty => false
                let emptied := fun m : SlotName => stale (sc.slot m) || (!first && decide (m ≠ name))
                let x := if emptied .x then ReelSlot.empty else sc.slotX
                let y := if emptied .y then ReelSlot.empty else sc.slotY
                let fill : Option (SlotName × Position) :=
                  match next with
                  | none => none
                  | some p' =>
                    if holdsAt x p' || holdsAt y p' then none
                    else if x = .empty then some (.x, p')
                    else if y = .empty then some (.y, p')
                    else none
                let lead := min (s.clock.now + 600) 4294967295
                let neededBy :=
                  if amended && first then lead
                  else match q.nextNeeded with | some t => max t s.clock.now | none => lead
                let dropped : JobItem → Bool := fun i =>
                  match i with | .rewrap l m _ _ => l == q.lane && emptied m | _ => false
                let begun : State :=
                  { s with
                    lanes :=
                      s.lanes.set q.lane
                        (some
                          { moved with
                            slotX := match fill with | some (.x, p') => .holds p' neededBy .queued | _ => x
                            slotY := match fill with | some (.y, p') => .holds p' neededBy .queued | _ => y })
                    engine :=
                      { s.engine with
                        inService :=
                          s.engine.inService.map fun j =>
                            if dropped j.job.item then { j with discard := true } else j
                        queued :=
                          (s.engine.queued.filter fun j => !dropped j.item) ++
                            match fill with
                            | some (m, p') => [{ item := .rewrap q.lane m p' neededBy, inSnapshot := false }]
                            | none => [] } }
                let refill : List Byte :=
                  match amended && first, fill with
                  | false, some (_, p') => [1, one p'.cycle, one p'.reel] ++ beBytes 4 neededBy
                  | _, _ => List.replicate 7 0
                ∃ t, exec .reelBegin s = .next t ∧
                  t = { begun with engine := (grant begun).engine, lanes := (grant begun).lanes, link := t.link } ∧
                  t.link.notices = s.link.notices ∧
                  Answered r rest rt .ok ([2, one p.cycle, one p.reel] ++ refill) s t)))

/-- AMEND_SCREENING stores the amendment of a RUNNING lane whole, its repeat total no lower than the current cycle, and
changes nothing else (R137, R138).  FETCH_REPORT pages through the report of an ended lane, 16 entries at a time
from the start index or the report cursor, and leaves the cursor behind the last one (R146, R147, R177). -/
def Obligations.AmendmentsAndReports : Prop :=
  ∀ (r : Request) (rest : List Request) (rt : Route) (s : State),
    let flag := fun b : Bool => if b then (1 : Byte) else 0
    let one := fun n : Nat => BitVec.ofNat 8 n
    (Serving .amendScreening r rest rt s →
      (parseAmend r.body = none → exec .amendScreening s = .next (replied r rest rt .badRequest [] s)) ∧
      ∀ l a, parseAmend r.body = some (l, a) →
        exec .amendScreening s =
          .next
            (match s.lanes[l] with
            | none => replied r rest rt .notRunning [] s
            | some sc =>
              if sc.status ≠ .running then replied r rest rt .notRunning [] s
              else
                let total := match a.repeatTotal with | some k => some (max k sc.current.cycle) | none => none
                { replied r rest rt .ok
                    ((flag a.plannedEnd.isSome + 2 * flag total.isSome) ::
                      (beBytes 4 (a.plannedEnd.getD 0) ++ [one (total.getD 0), flag sc.amendment.isSome])) s with
                  lanes :=
                    s.lanes.set l
                      (some { sc with amendment := some { plannedEnd := a.plannedEnd, repeatTotal := total } }) })) ∧
    (Serving .fetchReport r rest rt s →
      (parseReport r.body = none → exec .fetchReport s = .next (replied r rest rt .badRequest [] s)) ∧
      ∀ l given, parseReport r.body = some (l, given) →
        exec .fetchReport s =
          .next
            (match s.lanes[l] with
            | none => replied r rest rt .notEnded [] s
            | some sc =>
              if sc.report.entries.length < given.getD 0 then replied r rest rt .badRequest [] s
              else if sc.status = .running ∨ sc.status = .stopping then replied r rest rt .notEnded [] s
              else
                let start := given.getD sc.report.cursor
                let page := (sc.report.entries.drop start).take 16
                let cursor := start + page.length
                { replied r rest rt .ok
                    ([one (l.val + 1)] ++ beBytes 8 sc.featureId.toNat ++ beBytes 8 sc.bundleId.toNat ++
                      beBytes 4 sc.startTime ++
                      (match sc.ending with
                        | none => List.replicate 5 (0 : Byte)
                        | some (.completed, time) => beBytes 4 time ++ [1]
                        | some (.stopTime, time) => beBytes 4 time ++ [2]
                        | some (.revoked, time) => beBytes 4 time ++ [3]
                        | some (.integrity, time) => beBytes 4 time ++ [4]) ++
                      [one sc.report.entries.length, flag sc.report.truncated, one start, one cursor] ++
                      (page.flatMap fun e =>
                        [0x5A, one e.position.cycle, one e.position.reel] ++ beBytes 4 e.released ++
                          beBytes 4 e.neededBy ++ beBytes 4 e.lateness) ++
                      (if sc.report.truncated = true ∧ cursor = sc.report.entries.length then [0x55] else []) ++
                      [0x07]) s with
                  lanes := s.lanes.set l (some { sc with report := { sc.report with cursor := cursor } }) }))

/-! ### Ticks -/

/-- A tick in RUNNING with its passes (R3, R5, R6, R82): part time rises and saturates, the countdowns fall and are
reloaded, a completed minute raises S and evaluates the margin, a completed replenish raises A, the expiry pass
runs, and the two sweeps judge with the result.  STALENESS_MINUTE and REPLENISH are the tick at which their
countdown runs out (the model's choice: assumption log, entry 6). -/
def Obligations.TicksCountAndSweep : Prop :=
  ∀ (c : Instr) (order : SweepOrder) (s : State),
    s.powered = true → s.clock.state = .running → s.due = .none → LinkOk s → SyncOk s →
    c = .tick (.whole order) ∨ c = .stalenessMinute order ∧ s.clock.minuteCountdown = 1 ∨
      c = .replenish order ∧ s.clock.replenishCountdown = 1 →
    let minute : Bool := decide (s.clock.minuteCountdown ≤ 1)
    let replenish : Bool := decide (s.clock.replenishCountdown ≤ 1)
    let clock : Clock :=
      { s.clock with
        now := min (s.clock.now + 1) 4294967295
        staleness := if minute then min (s.clock.staleness + 1) 65535 else s.clock.staleness
        minuteCountdown := if minute then 60 else s.clock.minuteCountdown - 1
        allowance := if replenish then min 900 (s.clock.allowance + 30) else s.clock.allowance
        replenishCountdown := if replenish then 86400 else s.clock.replenishCountdown - 1 }
    let e :=
      evaluation s.margin.shapes s.margin.terms s.params clock.residual.natAbs clock.staleness .staleness clock.now
    let judged : State :=
      { s with
        clock
        revocations := s.revocations.filter fun v => decide (clock.now ≤ v.expires)
        margin := if minute then { s.margin with margin := e.margin, last := e } else s.margin
        link :=
          { s.link with
            notices :=
              if minute = false ∨ e.margin = s.margin.margin then s.link.notices
              else withNotice .marginChanged s.link.notices } }
    let swept := bothSweeps order judged
    ∃ t, exec c s = .next t ∧ Unasked s t ∧
      t = { judged with keyring := swept.keyring, engine := swept.engine, lanes := swept.lanes, link := t.link } ∧
      t.link.notices = swept.link.notices

/-- A tick taken in its parts (R3, R68, R82, R125): the clock's own event leaves the three passes due; each is taken
once, by its own command, and the next tick first takes those still due.  With main power off no tick occurs (R171),
and a STALENESS_MINUTE or REPLENISH named at another moment is none (the model's choice: assumption log, entries 3,
5 and 6). -/
def Obligations.TicksMayBeTakenInParts : Prop :=
  ∀ (order : SweepOrder) (s : State),
    (s.powered = false →
      ∀ c, c ∈ [.stalenessMinute order, .replenish order] ∨ (∃ part, c = .tick part) → exec c s = .next s) ∧
    (1 < s.clock.minuteCountdown → exec (.stalenessMinute order) s = .next s) ∧
    (1 < s.clock.replenishCountdown → exec (.replenish order) s = .next s) ∧
    (s.powered = true →
      exec (.tick .expiryPass) s =
          .next
            (if s.due.expiry then
              { s with
                revocations := s.revocations.filter fun v => decide (s.clock.now ≤ v.expires)
                due := { s.due with expiry := false } }
            else s) ∧
        exec (.tick .windowSweep) s =
          .next (if s.due.window then windowSweep { s with due := { s.due with window := false } } else s) ∧
        exec (.tick .stopTimeSweep) s =
          .next (if s.due.stopTime then stopTimeSweep { s with due := { s.due with stopTime := false } } else s)) ∧
    (s.powered = true → s.clock.state = .running →
      (∃ a b c, exec (.tick .expiryPass) s = .next a ∧ exec (.tick .windowSweep) a = .next b ∧
        exec (.tick .stopTimeSweep) b = .next c ∧ c.due = .none ∧
        exec (.tick (.whole order)) s = exec (.tick (.whole order)) c ∧
        exec (.tick .clockOnly) s = exec (.tick .clockOnly) c) ∧
      (s.due = .none →
        ∃ t a b c d e, exec (.tick .clockOnly) s = .next t ∧ exec (.tick .expiryPass) t = .next a ∧
          exec (.tick .windowSweep) a = .next b ∧ exec (.tick .stopTimeSweep) b = .next c ∧
          exec (.tick (.whole .windowFirst)) s = .next c ∧
          exec (.tick .stopTimeSweep) a = .next d ∧ exec (.tick .windowSweep) d = .next e ∧
          exec (.tick (.whole .stopTimeFirst)) s = .next e)) ∧
    (s.powered = true → s.clock.state = .running → s.due = .none → LinkOk s → SyncOk s →
      ∃ t w, exec (.tick .clockOnly) s = .next t ∧ exec (.tick (.whole order)) s = .next w ∧
        t =
          { s with
            clock := w.clock
            margin := w.margin
            due := { expiry := true, window := true, stopTime := true }
            link := t.link } ∧
        Unasked s t ∧
        t.link.notices =
          if w.margin.margin = s.margin.margin then s.link.notices else withNotice .marginChanged s.link.notices)

/-! ### Completions -/

/-- An intake unwrap completes (R48 to R50, R92): the reel key fills its reserved entry; with the last reel the bundle
leaves the queue and is judged at once by the window cases; on a fail it becomes FAILED and loses its keys; a
discarded result reaches nothing.  Then the next reel, or the bundle behind, is presented, and a grant is made; with
an intake in service the completion always answers a next state.  A pending SYNC is released exactly when the last job has left its snapshot (R97).  A completion of a kind that is not in
service, or with main power off, is no event (the model's choice: assumption log, entry 3). -/
def Obligations.IntakeCompletes : Prop :=
  (∀ (outcome : Option KeyMaterial) (s : State),
    (s.powered = false ∨ ∀ j ∈ s.engine.inService, ∀ slot reel, j.job.item ≠ .intake slot reel) →
      exec (.intakeUnwrapComplete outcome) s = .next s) ∧
  ∀ (outcome : Option KeyMaterial) (s : State) (j : ServiceJob) (slot : SlotNo) (reel : Nat),
    s.powered = true → LinkOk s → SyncOk s → s.engine.inService = some j → j.job.item = .intake slot reel →
    let now : Int := s.clock.now
    let m : Int := s.margin.margin
    let judgedState := fun b : Bundle =>
      if now > (b.notAfter : Int) + b.grace - m ∧ b.useCount = 0 then BundleState.expired
      else if now > (b.notAfter : Int) - m then .closing
      else if now ≥ (b.notBefore : Int) + m then .live
      else if 0 < b.useCount then .closing
      else .waiting
    let after := fun (t : State) (k : Keyring) (notices : Vector KindSet 98) =>
      let asked : List Job :=
        match k.intakeQueue with
        | [] => []
        | head :: _ =>
          match k.slots[head] with
          | none => []
          | some b =>
            if s.engine.queued.any fun q => match q.item with | .intake _ _ => true | _ => false then []
            else [{ item := .intake head (b.reelsUnwrapped + 1), inSnapshot := false }]
      let free : State :=
        { s with
          keyring := k
          engine := { s.engine with inService := none, queued := s.engine.queued ++ asked } }
      t.link.notices = notices ∧
        t = { free with engine := (grant free).engine, lanes := (grant free).lanes, link := t.link }
    ∃ t, exec (.intakeUnwrapComplete outcome) s = .next t ∧ Unasked s t ∧
      (j.discard = true ∨ s.keyring.slots[slot] = none → after t s.keyring s.link.notices) ∧
      (j.discard = false →
        ∀ b, s.keyring.slots[slot] = some b →
          (¬(b.state = .unwrapping ∧ s.keyring.intakeQueue.head? = some slot) → after t s.keyring s.link.notices) ∧
          (b.state = .unwrapping → s.keyring.intakeQueue.head? = some slot →
            let queue := s.keyring.intakeQueue.filter fun i => i != slot
            let freed := s.keyring.pool.filter fun c => decide (c.number ∉ b.poolRefs)
            (outcome = none →
              after t
                { s.keyring with
                  slots :=
                    s.keyring.slots.set slot
                      (some { b with state := .failed, entryTime := s.clock.now, poolRefs := [], wrappedKeys := [] })
                  pool := freed, intakeQueue := queue }
                (withNotice (.bundleFailed slot) s.link.notices)) ∧
            ∀ key, outcome = some key →
              let filled :=
                s.keyring.pool.map fun c =>
                  if some c.number = b.poolRefs[b.reelsUnwrapped]? then { c with key := some key } else c
              (b.reelsUnwrapped + 1 < b.reelCount →
                after t
                  { s.keyring with
                    slots :=
                      s.keyring.slots.set slot
                        (some
                          { b with reelsUnwrapped := b.reelsUnwrapped + 1, wrappedKeys := b.wrappedKeys.tail })
                    pool := filled }
                  s.link.notices) ∧
              (b.reelCount ≤ b.reelsUnwrapped + 1 →
                let ready := withNotice (.bundleReady slot) s.link.notices
                let expires : Bool := judgedState b == .expired
                after t
                  { s.keyring with
                    slots :=
                      s.keyring.slots.set slot
                        (some
                          { b with
                            state := judgedState b, entryTime := s.clock.now
                            reelsUnwrapped := b.reelsUnwrapped + 1, wrappedKeys := []
                            poolRefs := if expires then [] else b.poolRefs })
                    pool := if expires then filled.filter fun c => decide (c.number ∉ b.poolRefs) else filled
                    intakeQueue := queue }
                  (match judgedState b with
                    | .live => withNotice (.bundleLive slot) ready
                    | .closing => withNotice (.bundleClosing slot) ready
                    | .expired => withNotice (.bundleExpired slot) ready
                    | _ => ready))))

/-- A rewrap completes (R92, R122, R123): on pass its slot becomes READY with the wrapped key and REEL_READY is posted,
on fail the lane is FAULTED with cause INTEGRITY; and a bind completes (R104): on pass the entry is BOUND with its
link key, on fail UNBOUND and BIND_FAILED is posted.  A discarded result reaches nothing (R93); then a grant is
made.  A pending SYNC is released exactly when the last job has left its snapshot (R97). -/
def Obligations.RewrapAndBindComplete : Prop :=
  ∀ (s : State) (j : ServiceJob), s.powered = true → LinkOk s → SyncOk s → s.engine.inService = some j →
    let idle : State := { s with engine := { s.engine with inService := none } }
    let after := fun (c : Instr) (done : State) (notices : Vector KindSet 98) =>
      ∃ t, exec c s = .next t ∧ Unasked s t ∧ t.link.notices = notices ∧
        t = { done with engine := (grant done).engine, lanes := (grant done).lanes, link := t.link }
    (∀ (outcome : Option WrappedReelKey) (l : LaneNo) (n : SlotName) (p : Position) (neededBy : Nat),
      j.job.item = .rewrap l n p neededBy →
        (j.discard = true → after (.rewrapComplete outcome) idle s.link.notices) ∧
        (j.discard = false →
          ∀ sc ∈ s.lanes[l], ∀ p' neededBy', sc.slot n = .holds p' neededBy' .unwrapping →
            (∀ key, outcome = some key →
              after (.rewrapComplete outcome)
                { idle with
                  lanes := s.lanes.set l (some (sc.withSlot n (.holds p' neededBy' (.ready key)))) }
                (withNotice (.reelReady l) s.link.notices)) ∧
            (outcome = none →
              ∃ u, LaneEnds l sc .faulted .integrity (.laneFaulted l) idle u ∧
                after (.rewrapComplete outcome)
                  { idle with keyring := u.keyring, engine := u.engine, lanes := u.lanes } u.link.notices))) ∧
    ∀ (outcome : Option KeyMaterial) (l : LaneNo), j.job.item = .bind l →
      (j.discard = true → after (.bindComplete outcome) idle s.link.notices) ∧
      (j.discard = false →
        ∀ unitId wrapped, (s.screens[l]).binding = .binding unitId wrapped →
          (∀ key, outcome = some key →
            after (.bindComplete outcome)
              { idle with screens := s.screens.set l { s.screens[l] with binding := .bound unitId key } }
              s.link.notices) ∧
          (outcome = none →
            after (.bindComplete outcome)
              { idle with screens := s.screens.set l { s.screens[l] with binding := .unbound } }
              (withNotice (.bindFailed l) s.link.notices)))

/-! ### Power -/

/-- POWER_UP (R171 to R174): an invalid domain leaves every block at its retained-loss values and the provisioning store
untouched; a valid one leaves the retained state, caught up with the battery seconds, with the session, lanes and
engine started anew and the keyring and pending bindings reset; with the clock RUNNING the POWER_UP evaluation, the
expiry pass and the start-up sweep follow.  A start-up cut before its update of the domain leaves it for the next; one
cut after has made it, and of the evaluation, the expiry pass and the sweep that sweep reads it, whatever of them had
been made, each by itself.  The model's choices: with main power on it is no event (assumption log, entry 3), where
a start-up is cut comes with the command (entry 12), a domain that does not match its check value is remembered as such
(entry 13), and what the loss took away stands as blank (entry 22). -/
def Obligations.StartUpFollowsTheDomain : Prop :=
  ∀ (checkMatches : Bool) (run : StartUpRun) (s : State),
    (s.powered = true → exec (.powerUp checkMatches run) s = .next s) ∧
    (s.powered = false →
      let valid := s.domain.status = .sound ∧ checkMatches = true
      let lost : State := { State.reset with store := s.store, pending := s.pending }
      (run = .cutBeforeUpdate →
        exec (.powerUp checkMatches run) s =
          .next
            { s with
              domain :=
                { s.domain with
                  status := if s.domain.status = .sound ∧ checkMatches = false then .mismatched else s.domain.status } }) ∧
      (¬valid → run = .complete → exec (.powerUp checkMatches run) s = .next lost) ∧
      (∀ judgedSoFar expired, ¬valid → run = .cutAfterUpdate judgedSoFar expired →
        exec (.powerUp checkMatches run) s =
          .next { lost with powered := false, link := { State.reset.link with startCause := .power } }) ∧
      (valid → run ≠ .cutBeforeUpdate →
        let clock := if s.clock.state = .running then s.clock.catchUp s.domain.batterySeconds else s.clock
        ∃ (t : State) (k : Keyring) (screens : Vector Screen 32), exec (.powerUp checkMatches run) s = .next t ∧
          KeyringRestarted clock.now s.keyring k ∧
          (∀ l : LaneNo,
            screens[l] =
              match (s.screens[l]).binding with
              | .binding _ _ => { s.screens[l] with binding := .unbound }
              | _ => s.screens[l]) ∧
          let started : State :=
            { s with
              powered := true, domain := { status := .sound, batterySeconds := 0 }
              clock, keyring := k, engine := State.reset.engine, screens, lanes := State.reset.lanes
              link := { State.reset.link with startCause := .power }
              due := .none }
          let e :=
            evaluation s.margin.shapes s.margin.terms s.params clock.residual.natAbs clock.staleness .powerUp clock.now
          let judged : State :=
            { started with
              margin := { s.margin with margin := e.margin, last := e }
              revocations := s.revocations.filter fun v => decide (clock.now ≤ v.expires)
              link :=
                { started.link with
                  notices :=
                    if e.margin = s.margin.margin then started.link.notices
                    else withNotice .marginChanged started.link.notices } }
          (run = .complete → s.clock.state = .unset → t = started) ∧
          (run = .complete → s.clock.state = .running →
            t =
              { judged with
                keyring := (windowSweep judged).keyring
                link := { judged.link with notices := (windowSweep judged).link.notices } }) ∧
          (∀ judgedSoFar expired, run = .cutAfterUpdate judgedSoFar expired →
            (s.clock.state = .unset → t = { started with powered := false }) ∧
            (s.clock.state = .running →
              t =
                { started with
                  powered := false
                  margin := if judgedSoFar = .nothing then s.margin else judged.margin
                  revocations := if expired = true then judged.revocations else s.revocations
                  keyring := if judgedSoFar = .swept then (windowSweep judged).keyring else k }))))

/-- MAIN_POWER_LOSS keeps the retained domain and the store as the last whole update left them (R16, R55, R72, R85,
R166), and leaves no session, lane, job or intake queue; with main power off the cell counts each second of a sound
domain, and a failed cell spoils it (R171); with main power on neither has an effect.  The model's choices: what is lost
reads as blank while power is off (assumption log, entry 22), and MAIN_POWER_LOSS with main power off, and the cell's two
events with main power on or a domain that is not sound, change nothing (entry 3). -/
def Obligations.PowerLossKeepsTheDomain : Prop :=
  ∀ s : State,
    (s.powered = false → exec .mainPowerLoss s = .next s) ∧
    (s.powered = true →
      ∃ t, exec .mainPowerLoss s = .next t ∧
        t =
          { s with
            powered := false
            keyring := { s.keyring with intakeQueue := [], listCursor := 0 }
            engine := t.engine, lanes := t.lanes, link := t.link, due := .none } ∧
        t.engine = State.reset.engine ∧ (∀ l : LaneNo, t.lanes[l] = none) ∧
        t.link = { State.reset.link with startCause := .power }) ∧
    (s.powered = false → s.domain.status = .sound →
      exec .batterySecond s =
          .next { s with domain := { s.domain with batterySeconds := s.domain.batterySeconds + 1 } } ∧
        exec .cellFailed s = .next { s with domain := { s.domain with status := .cellFailed } }) ∧
    (s.powered = true ∨ s.domain.status ≠ .sound →
      exec .batterySecond s = .next s ∧ exec .cellFailed s = .next s)

/-! ### Layouts -/

/-- Every request body is read at the places section 12 gives it, most significant byte first, its settings clamped as
their rules say, and a body of another length, an enumerated byte outside its table, or a presence byte with a bit
its table does not name is malformed, as is a delivery with a screen count above 32 (R7, R31, R32, R43, R103, R107, R159,
R162, R167, R175, R176).  That a SET_SHAPE body has 17 bytes, with three 32-bit values, is the model's reading of section
12.4, which also speaks of four (assumption log, entry 24). -/
def Obligations.BodiesAreReadAsLaidOut : Prop :=
  let numbers := fun (width n : Nat) => beBytes width n
  (∀ n < 2 ^ 16, numbers 2 n = [BitVec.ofNat 8 (n / 2 ^ 8), BitVec.ofNat 8 n]) ∧
  (∀ n < 2 ^ 32,
    numbers 4 n =
      [BitVec.ofNat 8 (n / 2 ^ 24), BitVec.ofNat 8 (n / 2 ^ 16), BitVec.ofNat 8 (n / 2 ^ 8), BitVec.ofNat 8 n]) ∧
  (∀ width n, (beBytes width n).length = width ∧ beNat (beBytes width n) = n % 256 ^ width) ∧
  (∀ (T : Nat) (tag : List Byte), T < 2 ^ 32 → tag.length = 32 → parseClaim (beBytes 4 T ++ tag) = some T) ∧
  (∀ body : List Byte, body.length ≠ 36 → parseClaim body = none) ∧
  (∀ (kind mode : Byte) (id : Ident) (expires : Nat) (tag : List Byte), expires < 2 ^ 32 → tag.length = 32 →
    let covered := [kind] ++ beBytes 8 id.toNat ++ [mode] ++ beBytes 4 expires
    ((kind = 1 ∨ kind = 2) ∧ (mode = 1 ∨ mode = 2) →
      parseOrder (covered ++ tag) =
        some
          { kind := if kind = 1 then .bundle else .feature, target := id
            mode := if mode = 1 then .immediate else .afterScreening, expires, covered }) ∧
    (¬((kind = 1 ∨ kind = 2) ∧ (mode = 1 ∨ mode = 2)) → parseOrder (covered ++ tag) = none)) ∧
  (∀ (bundleId featureId : Ident) (nb na grace : Nat) (allowance : Byte) (screens : List Byte)
      (keys : List WrappedReelKey) (tag : List Byte),
    nb < 2 ^ 32 → na < 2 ^ 32 → grace < 2 ^ 16 → screens.length < 256 → keys.length < 256 → tag.length = 32 →
    let covered :=
      beBytes 8 bundleId.toNat ++ beBytes 8 featureId.toNat ++ beBytes 4 nb ++ beBytes 4 na ++ beBytes 2 grace ++
        [allowance, BitVec.ofNat 8 screens.length] ++ screens ++ [BitVec.ofNat 8 keys.length] ++
        keys.flatMap fun key => beBytes 40 key.toNat
    let kept := (List.finRange 32).filter fun l : LaneNo => decide (BitVec.ofNat 8 (l.val + 1) ∈ screens)
    parseDelivery (covered ++ tag) =
      if 32 < screens.length ∨ keys = [] ∨ 24 < keys.length ∨ na ≤ nb ∨ screens ≠ [] ∧ kept = [] then none
      else
        some
          { bundleId, featureId, notBefore := nb, notAfter := na, grace := min grace 14400
            allowance := max 1 (min 32 allowance.toNat)
            screens := if screens = [] then .all else .only kept
            reelCount := keys.length, wrappedKeys := keys, covered }) ∧
  (∀ body : List Byte, body.length ≠ 61 + (body.getD 27 0).toNat + 40 * (body.getD (28 + (body.getD 27 0).toNat) 0).toNat →
    parseDelivery body = none) ∧
  (∀ (shape use input left right : Byte) (c l r : Nat), c < 2 ^ 32 → l < 2 ^ 32 → r < 2 ^ 32 →
    parseShape ([shape, use, input] ++ beBytes 4 c ++ beBytes 4 l ++ beBytes 4 r ++ [left, right]) =
      if h : shape.toNat < 8 then
        if input = 1 ∨ input = 2 then
          some
            (⟨shape.toNat, h⟩,
              { inUse := decide (use ≠ 0), input := if input = 1 then .x1 else .x2, centre := min c 65535
                leftSpread := min l 65535, rightSpread := min r 65535
                leftShoulder := decide (left ≠ 0), rightShoulder := decide (right ≠ 0) })
        else none
      else none) ∧
  (∀ (term use a negateA present b negateB combinator : Byte) (m : Nat), m < 2 ^ 32 →
    parseTerm ([term, use, a, negateA, present, b, negateB, combinator] ++ beBytes 4 m) =
      if h : term.toNat < 8 then
        if h' : a.toNat < 8 then
          let made := fun second : Option (Antecedent × Combinator) =>
            some
              ((⟨term.toNat, h⟩ : TableNo),
                ({ inUse := decide (use ≠ 0), a := { shape := ⟨a.toNat, h'⟩, negate := decide (negateA ≠ 0) }
                   b := second, proposed := min m 3600 } : Term))
          if present = 0 then made none
          else if h'' : b.toNat < 8 then
            if combinator = 1 then made (some ({ shape := ⟨b.toNat, h''⟩, negate := decide (negateB ≠ 0) }, .and))
            else if combinator = 2 then made (some ({ shape := ⟨b.toNat, h''⟩, negate := decide (negateB ≠ 0) }, .or))
            else none
          else none
        else none
      else none) ∧
  (∀ (presence : Byte) (v w x y : Nat), v < 2 ^ 16 → w < 2 ^ 16 → x < 2 ^ 16 → y < 2 ^ 16 →
    parseParameters ([presence] ++ beBytes 2 v ++ beBytes 2 w ++ beBytes 2 x ++ beBytes 2 y) =
      if presence.toNat < 16 then
        some
          { lateAllowance := if presence.getLsbD 0 then some v else none
            marginFloor := if presence.getLsbD 1 then some w else none
            noOpinion := if presence.getLsbD 2 then some x else none
            closingLead := if presence.getLsbD 3 then some y else none }
      else none) ∧
  (∀ (lane presence reel total : Byte) (feature bundle : Ident) (e : Nat), e < 2 ^ 32 →
    parseOpen
        ([lane] ++ beBytes 8 feature.toNat ++ beBytes 4 e ++ [presence] ++ beBytes 8 bundle.toNat ++ [reel, total]) =
      if presence.toNat < 8 then
        if h : 1 ≤ lane.toNat ∧ lane.toNat ≤ 32 then
          some
            { lane := ⟨lane.toNat - 1, by omega⟩, featureId := feature, plannedEnd := e
              bundleId := if presence.getLsbD 0 then some bundle else none
              firstReel := if presence.getLsbD 1 then reel.toNat else 1
              repeatTotal := if presence.getLsbD 2 then max 1 (min 8 total.toNat) else 1 }
        else none
      else none) ∧
  (∀ (screen bias : Byte) (unitId : Ident) (wrapped : WrappedLinkKey),
    parseBind ([screen] ++ beBytes 8 unitId.toNat ++ beBytes 48 wrapped.toNat ++ [bias]) =
      if h : 1 ≤ screen.toNat ∧ screen.toNat ≤ 32 then
        some { screen := ⟨screen.toNat - 1, by omega⟩, unitId, wrapped, bias := min 2 bias.toNat }
      else none) ∧
  (∀ (lane : Byte),
    parseLane [lane] = if h : 1 ≤ lane.toNat ∧ lane.toNat ≤ 32 then some ⟨lane.toNat - 1, by omega⟩ else none) ∧
  (∀ (lane bias : Byte),
    parseBias [lane, bias] =
      if h : 1 ≤ lane.toNat ∧ lane.toNat ≤ 32 then some (⟨lane.toNat - 1, by omega⟩, min 2 bias.toNat) else none) ∧
  (∀ (lane reel : Byte),
    parseFetch [lane, reel] =
      if h : 1 ≤ lane.toNat ∧ lane.toNat ≤ 32 then
        if 1 ≤ reel.toNat ∧ reel.toNat ≤ 24 then some (⟨lane.toNat - 1, by omega⟩, reel.toNat) else none
      else none) ∧
  (∀ (lane reel presence : Byte) (t : Nat), t < 2 ^ 32 →
    parseBegin ([lane, reel, presence] ++ beBytes 4 t) =
      if h : 1 ≤ lane.toNat ∧ lane.toNat ≤ 32 then
        if 1 ≤ reel.toNat ∧ reel.toNat ≤ 24 ∧ presence.toNat < 2 then
          some
            { lane := ⟨lane.toNat - 1, by omega⟩, reel := reel.toNat
              nextNeeded := if presence.getLsbD 0 then some t else none }
        else none
      else none) ∧
  (∀ (lane presence total : Byte) (e : Nat), e < 2 ^ 32 →
    parseAmend ([lane, presence] ++ beBytes 4 e ++ [total]) =
      if h : 1 ≤ lane.toNat ∧ lane.toNat ≤ 32 then
        if 1 ≤ presence.toNat ∧ presence.toNat < 4 then
          some
            (⟨lane.toNat - 1, by omega⟩,
              { plannedEnd := if presence.getLsbD 0 then some e else none
                repeatTotal := if presence.getLsbD 1 then some (max 1 (min 8 total.toNat)) else none })
        else none
      else none) ∧
  (∀ (lane presence start : Byte),
    parseReport [lane, presence, start] =
      if h : 1 ≤ lane.toNat ∧ lane.toNat ≤ 32 then
        if presence.toNat < 2 then
          some (⟨lane.toNat - 1, by omega⟩, if presence.getLsbD 0 then some start.toNat else none)
        else none
      else none) ∧
  (∀ (selector slot : Byte) (id : Ident),
    parseBundleName ([selector, slot] ++ beBytes 8 id.toNat) =
      if selector = 1 then
        if h : slot.toNat < 64 then some (.bySlot ⟨slot.toNat, h⟩) else none
      else if selector = 2 then some (.byId id)
      else none) ∧
  (∀ slot : Byte,
    parseListStart [] = some none ∧
      parseListStart [slot] = if h : slot.toNat < 64 then some (some ⟨slot.toNat, h⟩) else none) ∧
  (∀ id : Ident, parseBundleId (beBytes 8 id.toNat) = some id) ∧
  (∀ (presence subject kinds : Byte),
    parseDismiss [presence, subject, kinds] =
      if h : subject.toNat < 98 then
        if 2 ≤ presence.toNat then none
        else if presence = 0 then some (⟨subject.toNat, h⟩, none)
        else if kinds.toNat < (if subject.toNat < 2 then 4 else 32) then
          some (⟨subject.toNat, h⟩, some (kinds.setWidth 5))
        else none
      else none) ∧
  (∀ hold : Byte, parseHold [hold] = some (decide (hold ≠ 0))) ∧
  (∀ (slot : StoreSlot) (v : Nat), v < 256 ^ slot.width →
    parseProvision (slot.code :: beBytes slot.width v) = some (slot, v)) ∧
  (∀ (code : Byte) (value : List Byte), code = 0 ∨ 6 < code.toNat → parseProvision (code :: value) = none) ∧
  (∀ (slot : StoreSlot) (value : List Byte), value.length ≠ slot.width →
    parseProvision (slot.code :: value) = none) ∧
  ∀ body : List Byte,
    (body.length ≠ 46 → parseOrder body = none) ∧ (body.length ≠ 17 → parseShape body = none) ∧
      (body.length ≠ 12 → parseTerm body = none) ∧ (body.length ≠ 9 → parseParameters body = none) ∧
      (body.length ≠ 24 → parseOpen body = none) ∧ (body.length ≠ 58 → parseBind body = none) ∧
      (body.length ≠ 1 → parseLane body = none ∧ parseHold body = none) ∧
      (body.length ≠ 2 → parseBias body = none ∧ parseFetch body = none) ∧
      (body.length ≠ 7 → parseBegin body = none ∧ parseAmend body = none) ∧
      (body.length ≠ 3 → parseReport body = none ∧ parseDismiss body = none) ∧
      (body.length ≠ 10 → parseBundleName body = none) ∧ (1 < body.length → parseListStart body = none) ∧
      (body.length ≠ 8 → parseBundleId body = none) ∧ (body = [] → parseProvision body = none)
end

