-- ==== Sys2Proof/Laws/State.lean ====
section
/-! SUPPORT. One lemma per field for each plain update of the state: what the updated field reads, and that every other
field reads as before. -/

namespace Sys2Proof.Machine

@[simp] theorem setLane_powered (l : LaneNo) (sc : Option Screening) (s : State) : (setLane l sc s).powered = s.powered := rfl

@[simp] theorem setLane_domain (l : LaneNo) (sc : Option Screening) (s : State) : (setLane l sc s).domain = s.domain := rfl

@[simp] theorem setLane_clock (l : LaneNo) (sc : Option Screening) (s : State) : (setLane l sc s).clock = s.clock := rfl

@[simp] theorem setLane_margin (l : LaneNo) (sc : Option Screening) (s : State) : (setLane l sc s).margin = s.margin := rfl

@[simp] theorem setLane_params (l : LaneNo) (sc : Option Screening) (s : State) : (setLane l sc s).params = s.params := rfl

@[simp] theorem setLane_keyring (l : LaneNo) (sc : Option Screening) (s : State) : (setLane l sc s).keyring = s.keyring := rfl

@[simp] theorem setLane_revocations (l : LaneNo) (sc : Option Screening) (s : State) : (setLane l sc s).revocations = s.revocations := rfl

@[simp] theorem setLane_engine (l : LaneNo) (sc : Option Screening) (s : State) : (setLane l sc s).engine = s.engine := rfl

@[simp] theorem setLane_screens (l : LaneNo) (sc : Option Screening) (s : State) : (setLane l sc s).screens = s.screens := rfl

@[simp] theorem setLane_lanes (l : LaneNo) (sc : Option Screening) (s : State) : (setLane l sc s).lanes = s.lanes.set l sc := rfl

@[simp] theorem setLane_store (l : LaneNo) (sc : Option Screening) (s : State) : (setLane l sc s).store = s.store := rfl

@[simp] theorem setLane_link (l : LaneNo) (sc : Option Screening) (s : State) : (setLane l sc s).link = s.link := rfl

@[simp] theorem setLane_due (l : LaneNo) (sc : Option Screening) (s : State) : (setLane l sc s).due = s.due := rfl

@[simp] theorem setLane_pending (l : LaneNo) (sc : Option Screening) (s : State) : (setLane l sc s).pending = s.pending := rfl

@[simp] theorem setScreen_powered (l : LaneNo) (e : Screen) (s : State) : (setScreen l e s).powered = s.powered := rfl

@[simp] theorem setScreen_domain (l : LaneNo) (e : Screen) (s : State) : (setScreen l e s).domain = s.domain := rfl

@[simp] theorem setScreen_clock (l : LaneNo) (e : Screen) (s : State) : (setScreen l e s).clock = s.clock := rfl

@[simp] theorem setScreen_margin (l : LaneNo) (e : Screen) (s : State) : (setScreen l e s).margin = s.margin := rfl

@[simp] theorem setScreen_params (l : LaneNo) (e : Screen) (s : State) : (setScreen l e s).params = s.params := rfl

@[simp] theorem setScreen_keyring (l : LaneNo) (e : Screen) (s : State) : (setScreen l e s).keyring = s.keyring := rfl

@[simp] theorem setScreen_revocations (l : LaneNo) (e : Screen) (s : State) : (setScreen l e s).revocations = s.revocations := rfl

@[simp] theorem setScreen_engine (l : LaneNo) (e : Screen) (s : State) : (setScreen l e s).engine = s.engine := rfl

@[simp] theorem setScreen_screens (l : LaneNo) (e : Screen) (s : State) : (setScreen l e s).screens = s.screens.set l e := rfl

@[simp] theorem setScreen_lanes (l : LaneNo) (e : Screen) (s : State) : (setScreen l e s).lanes = s.lanes := rfl

@[simp] theorem setScreen_store (l : LaneNo) (e : Screen) (s : State) : (setScreen l e s).store = s.store := rfl

@[simp] theorem setScreen_link (l : LaneNo) (e : Screen) (s : State) : (setScreen l e s).link = s.link := rfl

@[simp] theorem setScreen_due (l : LaneNo) (e : Screen) (s : State) : (setScreen l e s).due = s.due := rfl

@[simp] theorem setScreen_pending (l : LaneNo) (e : Screen) (s : State) : (setScreen l e s).pending = s.pending := rfl

@[simp] theorem setBundle_powered (slot : SlotNo) (b : Option Bundle) (s : State) : (setBundle slot b s).powered = s.powered := rfl

@[simp] theorem setBundle_domain (slot : SlotNo) (b : Option Bundle) (s : State) : (setBundle slot b s).domain = s.domain := rfl

@[simp] theorem setBundle_clock (slot : SlotNo) (b : Option Bundle) (s : State) : (setBundle slot b s).clock = s.clock := rfl

@[simp] theorem setBundle_margin (slot : SlotNo) (b : Option Bundle) (s : State) : (setBundle slot b s).margin = s.margin := rfl

@[simp] theorem setBundle_params (slot : SlotNo) (b : Option Bundle) (s : State) : (setBundle slot b s).params = s.params := rfl

@[simp] theorem setBundle_keyring_slots (slot : SlotNo) (b : Option Bundle) (s : State) :
    (setBundle slot b s).keyring.slots = s.keyring.slots.set slot b := rfl

@[simp] theorem setBundle_keyring_pool (slot : SlotNo) (b : Option Bundle) (s : State) :
    (setBundle slot b s).keyring.pool = s.keyring.pool := rfl

@[simp] theorem setBundle_keyring_intakeQueue (slot : SlotNo) (b : Option Bundle) (s : State) :
    (setBundle slot b s).keyring.intakeQueue = s.keyring.intakeQueue := rfl

@[simp] theorem setBundle_keyring_listCursor (slot : SlotNo) (b : Option Bundle) (s : State) :
    (setBundle slot b s).keyring.listCursor = s.keyring.listCursor := rfl

@[simp] theorem setBundle_revocations (slot : SlotNo) (b : Option Bundle) (s : State) : (setBundle slot b s).revocations = s.revocations := rfl

@[simp] theorem setBundle_engine (slot : SlotNo) (b : Option Bundle) (s : State) : (setBundle slot b s).engine = s.engine := rfl

@[simp] theorem setBundle_screens (slot : SlotNo) (b : Option Bundle) (s : State) : (setBundle slot b s).screens = s.screens := rfl

@[simp] theorem setBundle_lanes (slot : SlotNo) (b : Option Bundle) (s : State) : (setBundle slot b s).lanes = s.lanes := rfl

@[simp] theorem setBundle_store (slot : SlotNo) (b : Option Bundle) (s : State) : (setBundle slot b s).store = s.store := rfl

@[simp] theorem setBundle_link (slot : SlotNo) (b : Option Bundle) (s : State) : (setBundle slot b s).link = s.link := rfl

@[simp] theorem setBundle_due (slot : SlotNo) (b : Option Bundle) (s : State) : (setBundle slot b s).due = s.due := rfl

@[simp] theorem setBundle_pending (slot : SlotNo) (b : Option Bundle) (s : State) : (setBundle slot b s).pending = s.pending := rfl

@[simp] theorem leaveQueue_powered (slot : SlotNo) (s : State) : (leaveQueue slot s).powered = s.powered := rfl

@[simp] theorem leaveQueue_domain (slot : SlotNo) (s : State) : (leaveQueue slot s).domain = s.domain := rfl

@[simp] theorem leaveQueue_clock (slot : SlotNo) (s : State) : (leaveQueue slot s).clock = s.clock := rfl

@[simp] theorem leaveQueue_margin (slot : SlotNo) (s : State) : (leaveQueue slot s).margin = s.margin := rfl

@[simp] theorem leaveQueue_params (slot : SlotNo) (s : State) : (leaveQueue slot s).params = s.params := rfl

@[simp] theorem leaveQueue_keyring_slots (slot : SlotNo) (s : State) :
    (leaveQueue slot s).keyring.slots = s.keyring.slots := rfl

@[simp] theorem leaveQueue_keyring_pool (slot : SlotNo) (s : State) :
    (leaveQueue slot s).keyring.pool = s.keyring.pool := rfl

@[simp] theorem leaveQueue_keyring_intakeQueue (slot : SlotNo) (s : State) :
    (leaveQueue slot s).keyring.intakeQueue = s.keyring.intakeQueue.filter fun t => t != slot := rfl

@[simp] theorem leaveQueue_keyring_listCursor (slot : SlotNo) (s : State) :
    (leaveQueue slot s).keyring.listCursor = s.keyring.listCursor := rfl

@[simp] theorem leaveQueue_revocations (slot : SlotNo) (s : State) : (leaveQueue slot s).revocations = s.revocations := rfl

@[simp] theorem leaveQueue_engine (slot : SlotNo) (s : State) : (leaveQueue slot s).engine = s.engine := rfl

@[simp] theorem leaveQueue_screens (slot : SlotNo) (s : State) : (leaveQueue slot s).screens = s.screens := rfl

@[simp] theorem leaveQueue_lanes (slot : SlotNo) (s : State) : (leaveQueue slot s).lanes = s.lanes := rfl

@[simp] theorem leaveQueue_store (slot : SlotNo) (s : State) : (leaveQueue slot s).store = s.store := rfl

@[simp] theorem leaveQueue_link (slot : SlotNo) (s : State) : (leaveQueue slot s).link = s.link := rfl

@[simp] theorem leaveQueue_due (slot : SlotNo) (s : State) : (leaveQueue slot s).due = s.due := rfl

@[simp] theorem leaveQueue_pending (slot : SlotNo) (s : State) : (leaveQueue slot s).pending = s.pending := rfl

@[simp] theorem createJob_powered (i : JobItem) (s : State) : (createJob i s).powered = s.powered := rfl

@[simp] theorem createJob_domain (i : JobItem) (s : State) : (createJob i s).domain = s.domain := rfl

@[simp] theorem createJob_clock (i : JobItem) (s : State) : (createJob i s).clock = s.clock := rfl

@[simp] theorem createJob_margin (i : JobItem) (s : State) : (createJob i s).margin = s.margin := rfl

@[simp] theorem createJob_params (i : JobItem) (s : State) : (createJob i s).params = s.params := rfl

@[simp] theorem createJob_keyring (i : JobItem) (s : State) : (createJob i s).keyring = s.keyring := rfl

@[simp] theorem createJob_revocations (i : JobItem) (s : State) : (createJob i s).revocations = s.revocations := rfl

@[simp] theorem createJob_engine_inService (i : JobItem) (s : State) :
    (createJob i s).engine.inService = s.engine.inService := rfl

@[simp] theorem createJob_engine_queued (i : JobItem) (s : State) :
    (createJob i s).engine.queued = s.engine.queued ++ [{ item := i, inSnapshot := false }] := rfl

@[simp] theorem createJob_engine_ranks (i : JobItem) (s : State) :
    (createJob i s).engine.ranks = s.engine.ranks := rfl

@[simp] theorem createJob_screens (i : JobItem) (s : State) : (createJob i s).screens = s.screens := rfl

@[simp] theorem createJob_lanes (i : JobItem) (s : State) : (createJob i s).lanes = s.lanes := rfl

@[simp] theorem createJob_store (i : JobItem) (s : State) : (createJob i s).store = s.store := rfl

@[simp] theorem createJob_link (i : JobItem) (s : State) : (createJob i s).link = s.link := rfl

@[simp] theorem createJob_due (i : JobItem) (s : State) : (createJob i s).due = s.due := rfl

@[simp] theorem createJob_pending (i : JobItem) (s : State) : (createJob i s).pending = s.pending := rfl

@[simp] theorem expiryPass_powered (s : State) : (expiryPass s).powered = s.powered := rfl

@[simp] theorem expiryPass_domain (s : State) : (expiryPass s).domain = s.domain := rfl

@[simp] theorem expiryPass_clock (s : State) : (expiryPass s).clock = s.clock := rfl

@[simp] theorem expiryPass_margin (s : State) : (expiryPass s).margin = s.margin := rfl

@[simp] theorem expiryPass_params (s : State) : (expiryPass s).params = s.params := rfl

@[simp] theorem expiryPass_keyring (s : State) : (expiryPass s).keyring = s.keyring := rfl

@[simp] theorem expiryPass_revocations (s : State) : (expiryPass s).revocations = s.revocations.filter fun e => decide (s.clock.now ≤ e.expires) := rfl

@[simp] theorem expiryPass_engine (s : State) : (expiryPass s).engine = s.engine := rfl

@[simp] theorem expiryPass_screens (s : State) : (expiryPass s).screens = s.screens := rfl

@[simp] theorem expiryPass_lanes (s : State) : (expiryPass s).lanes = s.lanes := rfl

@[simp] theorem expiryPass_store (s : State) : (expiryPass s).store = s.store := rfl

@[simp] theorem expiryPass_link (s : State) : (expiryPass s).link = s.link := rfl

@[simp] theorem expiryPass_due (s : State) : (expiryPass s).due = s.due := rfl

@[simp] theorem expiryPass_pending (s : State) : (expiryPass s).pending = s.pending := rfl

@[simp] theorem addNotice_powered (n : Notice) (s : State) : (addNotice n s).powered = s.powered := rfl

@[simp] theorem addNotice_domain (n : Notice) (s : State) : (addNotice n s).domain = s.domain := rfl

@[simp] theorem addNotice_clock (n : Notice) (s : State) : (addNotice n s).clock = s.clock := rfl

@[simp] theorem addNotice_margin (n : Notice) (s : State) : (addNotice n s).margin = s.margin := rfl

@[simp] theorem addNotice_params (n : Notice) (s : State) : (addNotice n s).params = s.params := rfl

@[simp] theorem addNotice_keyring (n : Notice) (s : State) : (addNotice n s).keyring = s.keyring := rfl

@[simp] theorem addNotice_revocations (n : Notice) (s : State) : (addNotice n s).revocations = s.revocations := rfl

@[simp] theorem addNotice_engine (n : Notice) (s : State) : (addNotice n s).engine = s.engine := rfl

@[simp] theorem addNotice_screens (n : Notice) (s : State) : (addNotice n s).screens = s.screens := rfl

@[simp] theorem addNotice_lanes (n : Notice) (s : State) : (addNotice n s).lanes = s.lanes := rfl

@[simp] theorem addNotice_store (n : Notice) (s : State) : (addNotice n s).store = s.store := rfl

@[simp] theorem addNotice_link_latch (n : Notice) (s : State) :
    (addNotice n s).link.latch = s.link.latch := rfl

@[simp] theorem addNotice_link_peer (n : Notice) (s : State) :
    (addNotice n s).link.peer = s.link.peer := rfl

@[simp] theorem addNotice_link_serialHeld (n : Notice) (s : State) :
    (addNotice n s).link.serialHeld = s.link.serialHeld := rfl

@[simp] theorem addNotice_link_receive (n : Notice) (s : State) :
    (addNotice n s).link.receive = s.link.receive := rfl

@[simp] theorem addNotice_link_transmit (n : Notice) (s : State) :
    (addNotice n s).link.transmit = s.link.transmit := rfl

@[simp] theorem addNotice_link_sending (n : Notice) (s : State) :
    (addNotice n s).link.sending = s.link.sending := rfl

@[simp] theorem addNotice_link_notices (n : Notice) (s : State) :
    (addNotice n s).link.notices = s.link.notices.set n.subject (s.link.notices[n.subject] ||| n.kindBit) := rfl

@[simp] theorem addNotice_link_startCause (n : Notice) (s : State) :
    (addNotice n s).link.startCause = s.link.startCause := rfl

@[simp] theorem addNotice_link_armed (n : Notice) (s : State) :
    (addNotice n s).link.armed = s.link.armed := rfl

@[simp] theorem addNotice_link_hold (n : Notice) (s : State) :
    (addNotice n s).link.hold = s.link.hold := rfl

@[simp] theorem addNotice_link_cursor (n : Notice) (s : State) :
    (addNotice n s).link.cursor = s.link.cursor := rfl

@[simp] theorem addNotice_link_pendingSync (n : Notice) (s : State) :
    (addNotice n s).link.pendingSync = s.link.pendingSync := rfl

@[simp] theorem addNotice_link_restart (n : Notice) (s : State) :
    (addNotice n s).link.restart = s.link.restart := rfl

@[simp] theorem addNotice_due (n : Notice) (s : State) : (addNotice n s).due = s.due := rfl

@[simp] theorem addNotice_pending (n : Notice) (s : State) : (addNotice n s).pending = s.pending := rfl

@[simp] theorem withoutOldest_powered (s : State) : (withoutOldest s).powered = s.powered := rfl

@[simp] theorem withoutOldest_domain (s : State) : (withoutOldest s).domain = s.domain := rfl

@[simp] theorem withoutOldest_clock (s : State) : (withoutOldest s).clock = s.clock := rfl

@[simp] theorem withoutOldest_margin (s : State) : (withoutOldest s).margin = s.margin := rfl

@[simp] theorem withoutOldest_params (s : State) : (withoutOldest s).params = s.params := rfl

@[simp] theorem withoutOldest_keyring (s : State) : (withoutOldest s).keyring = s.keyring := rfl

@[simp] theorem withoutOldest_revocations (s : State) : (withoutOldest s).revocations = s.revocations := rfl

@[simp] theorem withoutOldest_engine (s : State) : (withoutOldest s).engine = s.engine := rfl

@[simp] theorem withoutOldest_screens (s : State) : (withoutOldest s).screens = s.screens := rfl

@[simp] theorem withoutOldest_lanes (s : State) : (withoutOldest s).lanes = s.lanes := rfl

@[simp] theorem withoutOldest_store (s : State) : (withoutOldest s).store = s.store := rfl

@[simp] theorem withoutOldest_link_latch (s : State) :
    (withoutOldest s).link.latch = s.link.latch := rfl

@[simp] theorem withoutOldest_link_peer (s : State) :
    (withoutOldest s).link.peer = s.link.peer := rfl

@[simp] theorem withoutOldest_link_serialHeld (s : State) :
    (withoutOldest s).link.serialHeld = s.link.serialHeld := rfl

@[simp] theorem withoutOldest_link_receive (s : State) :
    (withoutOldest s).link.receive = s.link.receive.tail := rfl

@[simp] theorem withoutOldest_link_transmit (s : State) :
    (withoutOldest s).link.transmit = s.link.transmit := rfl

@[simp] theorem withoutOldest_link_sending (s : State) :
    (withoutOldest s).link.sending = s.link.sending := rfl

@[simp] theorem withoutOldest_link_notices (s : State) :
    (withoutOldest s).link.notices = s.link.notices := rfl

@[simp] theorem withoutOldest_link_startCause (s : State) :
    (withoutOldest s).link.startCause = s.link.startCause := rfl

@[simp] theorem withoutOldest_link_armed (s : State) :
    (withoutOldest s).link.armed = s.link.armed := rfl

@[simp] theorem withoutOldest_link_hold (s : State) :
    (withoutOldest s).link.hold = s.link.hold := rfl

@[simp] theorem withoutOldest_link_cursor (s : State) :
    (withoutOldest s).link.cursor = s.link.cursor := rfl

@[simp] theorem withoutOldest_link_pendingSync (s : State) :
    (withoutOldest s).link.pendingSync = s.link.pendingSync := rfl

@[simp] theorem withoutOldest_link_restart (s : State) :
    (withoutOldest s).link.restart = s.link.restart := rfl

@[simp] theorem withoutOldest_due (s : State) : (withoutOldest s).due = s.due := rfl

@[simp] theorem withoutOldest_pending (s : State) : (withoutOldest s).pending = s.pending := rfl

/-! ### Reading a vector after an update -/

theorem lanes_set_same (s : State) (l : LaneNo) (sc : Option Screening) : (s.lanes.set l sc)[l] = sc := by simp

theorem lanes_set_other (s : State) {l m : LaneNo} (h : l ≠ m) (sc : Option Screening) :
    (s.lanes.set l sc)[m] = s.lanes[m] := Vector.getElem_set_ne _ _ (fun e => h (Fin.ext e))

theorem slots_set_same (k : Keyring) (i : SlotNo) (b : Option Bundle) : (k.slots.set i b)[i] = b := by simp

theorem slots_set_other (k : Keyring) {i j : SlotNo} (h : i ≠ j) (b : Option Bundle) :
    (k.slots.set i b)[j] = k.slots[j] := Vector.getElem_set_ne _ _ (fun e => h (Fin.ext e))

theorem screens_set_same (s : State) (l : LaneNo) (e : Screen) : (s.screens.set l e)[l] = e := by simp

theorem screens_set_other (s : State) {l m : LaneNo} (h : l ≠ m) (e : Screen) :
    (s.screens.set l e)[m] = s.screens[m] := Vector.getElem_set_ne _ _ (fun x => h (Fin.ext x))

/-- The entry of a vector given entry by entry. -/
@[simp] theorem tabulate_get {α : Type} {n : Nat} (f : Fin n → α) (i : Fin n) : (tabulate f)[i] = f i := by
  simp [tabulate]

end Sys2Proof.Machine
end

