-- ==== Sys2Proof/Laws/Frames.lean ====
section
/-! SUPPORT. What each shared operation leaves alone.  For an operation `op`, `op_frame` says once that it changes only
the blocks it names; the lemmas behind it read one untouched block each through the operation. -/

namespace Sys2Proof.Machine

/-- A relation that holds across every step of a fold holds across the fold. -/
theorem frame_of_foldl {α : Type} (f : State → α → State) (rel : State → State → Prop) (refl : ∀ s, rel s s)
    (comp : ∀ a b c, rel a b → rel b c → rel a c) (one : ∀ s i, rel s (f s i)) (l : List α) (s : State) :
    rel s (l.foldl f s) := by
  induction l generalizing s with
  | nil => exact refl s
  | cons i rest ih => exact comp _ _ _ (one s i) (ih (f s i))

theorem handFrame_frame (role : FrameRole) (payload : List Byte) (s : State) :
    handFrame role payload s = { s with link := (handFrame role payload s).link } :=
  by unfold handFrame; split <;> rfl

@[simp] theorem handFrame_powered (role : FrameRole) (payload : List Byte) (s : State) : (handFrame role payload s).powered = s.powered :=
  by rw [handFrame_frame]

@[simp] theorem handFrame_domain (role : FrameRole) (payload : List Byte) (s : State) : (handFrame role payload s).domain = s.domain :=
  by rw [handFrame_frame]

@[simp] theorem handFrame_clock (role : FrameRole) (payload : List Byte) (s : State) : (handFrame role payload s).clock = s.clock :=
  by rw [handFrame_frame]

@[simp] theorem handFrame_margin (role : FrameRole) (payload : List Byte) (s : State) : (handFrame role payload s).margin = s.margin :=
  by rw [handFrame_frame]

@[simp] theorem handFrame_params (role : FrameRole) (payload : List Byte) (s : State) : (handFrame role payload s).params = s.params :=
  by rw [handFrame_frame]

@[simp] theorem handFrame_keyring (role : FrameRole) (payload : List Byte) (s : State) : (handFrame role payload s).keyring = s.keyring :=
  by rw [handFrame_frame]

@[simp] theorem handFrame_revocations (role : FrameRole) (payload : List Byte) (s : State) : (handFrame role payload s).revocations = s.revocations :=
  by rw [handFrame_frame]

@[simp] theorem handFrame_engine (role : FrameRole) (payload : List Byte) (s : State) : (handFrame role payload s).engine = s.engine :=
  by rw [handFrame_frame]

@[simp] theorem handFrame_screens (role : FrameRole) (payload : List Byte) (s : State) : (handFrame role payload s).screens = s.screens :=
  by rw [handFrame_frame]

@[simp] theorem handFrame_lanes (role : FrameRole) (payload : List Byte) (s : State) : (handFrame role payload s).lanes = s.lanes :=
  by rw [handFrame_frame]

@[simp] theorem handFrame_store (role : FrameRole) (payload : List Byte) (s : State) : (handFrame role payload s).store = s.store :=
  by rw [handFrame_frame]

@[simp] theorem handFrame_due (role : FrameRole) (payload : List Byte) (s : State) : (handFrame role payload s).due = s.due :=
  by rw [handFrame_frame]

@[simp] theorem handFrame_pending (role : FrameRole) (payload : List Byte) (s : State) : (handFrame role payload s).pending = s.pending :=
  by rw [handFrame_frame]

theorem handReply_frame (role : FrameRole) (peer : Option Peer) (payload : List Byte) (s : State) :
    handReply role peer payload s = { s with link := (handReply role peer payload s).link } :=
  by unfold handReply; split <;> rfl

@[simp] theorem handReply_powered (role : FrameRole) (peer : Option Peer) (payload : List Byte) (s : State) : (handReply role peer payload s).powered = s.powered :=
  by rw [handReply_frame]

@[simp] theorem handReply_domain (role : FrameRole) (peer : Option Peer) (payload : List Byte) (s : State) : (handReply role peer payload s).domain = s.domain :=
  by rw [handReply_frame]

@[simp] theorem handReply_clock (role : FrameRole) (peer : Option Peer) (payload : List Byte) (s : State) : (handReply role peer payload s).clock = s.clock :=
  by rw [handReply_frame]

@[simp] theorem handReply_margin (role : FrameRole) (peer : Option Peer) (payload : List Byte) (s : State) : (handReply role peer payload s).margin = s.margin :=
  by rw [handReply_frame]

@[simp] theorem handReply_params (role : FrameRole) (peer : Option Peer) (payload : List Byte) (s : State) : (handReply role peer payload s).params = s.params :=
  by rw [handReply_frame]

@[simp] theorem handReply_keyring (role : FrameRole) (peer : Option Peer) (payload : List Byte) (s : State) : (handReply role peer payload s).keyring = s.keyring :=
  by rw [handReply_frame]

@[simp] theorem handReply_revocations (role : FrameRole) (peer : Option Peer) (payload : List Byte) (s : State) : (handReply role peer payload s).revocations = s.revocations :=
  by rw [handReply_frame]

@[simp] theorem handReply_engine (role : FrameRole) (peer : Option Peer) (payload : List Byte) (s : State) : (handReply role peer payload s).engine = s.engine :=
  by rw [handReply_frame]

@[simp] theorem handReply_screens (role : FrameRole) (peer : Option Peer) (payload : List Byte) (s : State) : (handReply role peer payload s).screens = s.screens :=
  by rw [handReply_frame]

@[simp] theorem handReply_lanes (role : FrameRole) (peer : Option Peer) (payload : List Byte) (s : State) : (handReply role peer payload s).lanes = s.lanes :=
  by rw [handReply_frame]

@[simp] theorem handReply_store (role : FrameRole) (peer : Option Peer) (payload : List Byte) (s : State) : (handReply role peer payload s).store = s.store :=
  by rw [handReply_frame]

@[simp] theorem handReply_due (role : FrameRole) (peer : Option Peer) (payload : List Byte) (s : State) : (handReply role peer payload s).due = s.due :=
  by rw [handReply_frame]

@[simp] theorem handReply_pending (role : FrameRole) (peer : Option Peer) (payload : List Byte) (s : State) : (handReply role peer payload s).pending = s.pending :=
  by rw [handReply_frame]

theorem answer_frame (r : Request) (status : Status) (body : List Byte) (s : State) :
    answer r status body s = { s with link := (answer r status body s).link } :=
  handReply_frame ..

@[simp] theorem answer_powered (r : Request) (status : Status) (body : List Byte) (s : State) : (answer r status body s).powered = s.powered :=
  by rw [answer_frame]

@[simp] theorem answer_domain (r : Request) (status : Status) (body : List Byte) (s : State) : (answer r status body s).domain = s.domain :=
  by rw [answer_frame]

@[simp] theorem answer_clock (r : Request) (status : Status) (body : List Byte) (s : State) : (answer r status body s).clock = s.clock :=
  by rw [answer_frame]

@[simp] theorem answer_margin (r : Request) (status : Status) (body : List Byte) (s : State) : (answer r status body s).margin = s.margin :=
  by rw [answer_frame]

@[simp] theorem answer_params (r : Request) (status : Status) (body : List Byte) (s : State) : (answer r status body s).params = s.params :=
  by rw [answer_frame]

@[simp] theorem answer_keyring (r : Request) (status : Status) (body : List Byte) (s : State) : (answer r status body s).keyring = s.keyring :=
  by rw [answer_frame]

@[simp] theorem answer_revocations (r : Request) (status : Status) (body : List Byte) (s : State) : (answer r status body s).revocations = s.revocations :=
  by rw [answer_frame]

@[simp] theorem answer_engine (r : Request) (status : Status) (body : List Byte) (s : State) : (answer r status body s).engine = s.engine :=
  by rw [answer_frame]

@[simp] theorem answer_screens (r : Request) (status : Status) (body : List Byte) (s : State) : (answer r status body s).screens = s.screens :=
  by rw [answer_frame]

@[simp] theorem answer_lanes (r : Request) (status : Status) (body : List Byte) (s : State) : (answer r status body s).lanes = s.lanes :=
  by rw [answer_frame]

@[simp] theorem answer_store (r : Request) (status : Status) (body : List Byte) (s : State) : (answer r status body s).store = s.store :=
  by rw [answer_frame]

@[simp] theorem answer_due (r : Request) (status : Status) (body : List Byte) (s : State) : (answer r status body s).due = s.due :=
  by rw [answer_frame]

@[simp] theorem answer_pending (r : Request) (status : Status) (body : List Byte) (s : State) : (answer r status body s).pending = s.pending :=
  by rw [answer_frame]

theorem judgeAttention_frame (s : State) :
    judgeAttention s = { s with link := (judgeAttention s).link } :=
  by
  unfold judgeAttention
  split
  · rw [handFrame_frame]
  · rfl

@[simp] theorem judgeAttention_powered (s : State) : (judgeAttention s).powered = s.powered :=
  by rw [judgeAttention_frame]

@[simp] theorem judgeAttention_domain (s : State) : (judgeAttention s).domain = s.domain :=
  by rw [judgeAttention_frame]

@[simp] theorem judgeAttention_clock (s : State) : (judgeAttention s).clock = s.clock :=
  by rw [judgeAttention_frame]

@[simp] theorem judgeAttention_margin (s : State) : (judgeAttention s).margin = s.margin :=
  by rw [judgeAttention_frame]

@[simp] theorem judgeAttention_params (s : State) : (judgeAttention s).params = s.params :=
  by rw [judgeAttention_frame]

@[simp] theorem judgeAttention_keyring (s : State) : (judgeAttention s).keyring = s.keyring :=
  by rw [judgeAttention_frame]

@[simp] theorem judgeAttention_revocations (s : State) : (judgeAttention s).revocations = s.revocations :=
  by rw [judgeAttention_frame]

@[simp] theorem judgeAttention_engine (s : State) : (judgeAttention s).engine = s.engine :=
  by rw [judgeAttention_frame]

@[simp] theorem judgeAttention_screens (s : State) : (judgeAttention s).screens = s.screens :=
  by rw [judgeAttention_frame]

@[simp] theorem judgeAttention_lanes (s : State) : (judgeAttention s).lanes = s.lanes :=
  by rw [judgeAttention_frame]

@[simp] theorem judgeAttention_store (s : State) : (judgeAttention s).store = s.store :=
  by rw [judgeAttention_frame]

@[simp] theorem judgeAttention_due (s : State) : (judgeAttention s).due = s.due :=
  by rw [judgeAttention_frame]

@[simp] theorem judgeAttention_pending (s : State) : (judgeAttention s).pending = s.pending :=
  by rw [judgeAttention_frame]

theorem addNotice_frame (n : Notice) (s : State) :
    addNotice n s = { s with link := (addNotice n s).link } :=
  rfl

theorem post_frame (n : Notice) (s : State) :
    post n s = { s with link := (post n s).link } :=
  by
  unfold post
  split
  · rw [judgeAttention_frame, addNotice_frame]
  · rfl

@[simp] theorem post_powered (n : Notice) (s : State) : (post n s).powered = s.powered :=
  by rw [post_frame]

@[simp] theorem post_domain (n : Notice) (s : State) : (post n s).domain = s.domain :=
  by rw [post_frame]

@[simp] theorem post_clock (n : Notice) (s : State) : (post n s).clock = s.clock :=
  by rw [post_frame]

@[simp] theorem post_margin (n : Notice) (s : State) : (post n s).margin = s.margin :=
  by rw [post_frame]

@[simp] theorem post_params (n : Notice) (s : State) : (post n s).params = s.params :=
  by rw [post_frame]

@[simp] theorem post_keyring (n : Notice) (s : State) : (post n s).keyring = s.keyring :=
  by rw [post_frame]

@[simp] theorem post_revocations (n : Notice) (s : State) : (post n s).revocations = s.revocations :=
  by rw [post_frame]

@[simp] theorem post_engine (n : Notice) (s : State) : (post n s).engine = s.engine :=
  by rw [post_frame]

@[simp] theorem post_screens (n : Notice) (s : State) : (post n s).screens = s.screens :=
  by rw [post_frame]

@[simp] theorem post_lanes (n : Notice) (s : State) : (post n s).lanes = s.lanes :=
  by rw [post_frame]

@[simp] theorem post_store (n : Notice) (s : State) : (post n s).store = s.store :=
  by rw [post_frame]

@[simp] theorem post_due (n : Notice) (s : State) : (post n s).due = s.due :=
  by rw [post_frame]

@[simp] theorem post_pending (n : Notice) (s : State) : (post n s).pending = s.pending :=
  by rw [post_frame]

theorem armWhenEmpty_frame (s : State) :
    armWhenEmpty s = { s with link := (armWhenEmpty s).link } :=
  by
  unfold armWhenEmpty
  split
  · rw [judgeAttention_frame]
  · rfl

@[simp] theorem armWhenEmpty_powered (s : State) : (armWhenEmpty s).powered = s.powered :=
  by rw [armWhenEmpty_frame]

@[simp] theorem armWhenEmpty_domain (s : State) : (armWhenEmpty s).domain = s.domain :=
  by rw [armWhenEmpty_frame]

@[simp] theorem armWhenEmpty_clock (s : State) : (armWhenEmpty s).clock = s.clock :=
  by rw [armWhenEmpty_frame]

@[simp] theorem armWhenEmpty_margin (s : State) : (armWhenEmpty s).margin = s.margin :=
  by rw [armWhenEmpty_frame]

@[simp] theorem armWhenEmpty_params (s : State) : (armWhenEmpty s).params = s.params :=
  by rw [armWhenEmpty_frame]

@[simp] theorem armWhenEmpty_keyring (s : State) : (armWhenEmpty s).keyring = s.keyring :=
  by rw [armWhenEmpty_frame]

@[simp] theorem armWhenEmpty_revocations (s : State) : (armWhenEmpty s).revocations = s.revocations :=
  by rw [armWhenEmpty_frame]

@[simp] theorem armWhenEmpty_engine (s : State) : (armWhenEmpty s).engine = s.engine :=
  by rw [armWhenEmpty_frame]

@[simp] theorem armWhenEmpty_screens (s : State) : (armWhenEmpty s).screens = s.screens :=
  by rw [armWhenEmpty_frame]

@[simp] theorem armWhenEmpty_lanes (s : State) : (armWhenEmpty s).lanes = s.lanes :=
  by rw [armWhenEmpty_frame]

@[simp] theorem armWhenEmpty_store (s : State) : (armWhenEmpty s).store = s.store :=
  by rw [armWhenEmpty_frame]

@[simp] theorem armWhenEmpty_due (s : State) : (armWhenEmpty s).due = s.due :=
  by rw [armWhenEmpty_frame]

@[simp] theorem armWhenEmpty_pending (s : State) : (armWhenEmpty s).pending = s.pending :=
  by rw [armWhenEmpty_frame]

theorem bufferRequest_frame (r : Request) (s : State) :
    bufferRequest r s = { s with link := (bufferRequest r s).link } :=
  by
  unfold bufferRequest
  split
  · rfl
  · exact post_frame ..

@[simp] theorem bufferRequest_powered (r : Request) (s : State) : (bufferRequest r s).powered = s.powered :=
  by rw [bufferRequest_frame]

@[simp] theorem bufferRequest_domain (r : Request) (s : State) : (bufferRequest r s).domain = s.domain :=
  by rw [bufferRequest_frame]

@[simp] theorem bufferRequest_clock (r : Request) (s : State) : (bufferRequest r s).clock = s.clock :=
  by rw [bufferRequest_frame]

@[simp] theorem bufferRequest_margin (r : Request) (s : State) : (bufferRequest r s).margin = s.margin :=
  by rw [bufferRequest_frame]

@[simp] theorem bufferRequest_params (r : Request) (s : State) : (bufferRequest r s).params = s.params :=
  by rw [bufferRequest_frame]

@[simp] theorem bufferRequest_keyring (r : Request) (s : State) : (bufferRequest r s).keyring = s.keyring :=
  by rw [bufferRequest_frame]

@[simp] theorem bufferRequest_revocations (r : Request) (s : State) : (bufferRequest r s).revocations = s.revocations :=
  by rw [bufferRequest_frame]

@[simp] theorem bufferRequest_engine (r : Request) (s : State) : (bufferRequest r s).engine = s.engine :=
  by rw [bufferRequest_frame]

@[simp] theorem bufferRequest_screens (r : Request) (s : State) : (bufferRequest r s).screens = s.screens :=
  by rw [bufferRequest_frame]

@[simp] theorem bufferRequest_lanes (r : Request) (s : State) : (bufferRequest r s).lanes = s.lanes :=
  by rw [bufferRequest_frame]

@[simp] theorem bufferRequest_store (r : Request) (s : State) : (bufferRequest r s).store = s.store :=
  by rw [bufferRequest_frame]

@[simp] theorem bufferRequest_due (r : Request) (s : State) : (bufferRequest r s).due = s.due :=
  by rw [bufferRequest_frame]

@[simp] theorem bufferRequest_pending (r : Request) (s : State) : (bufferRequest r s).pending = s.pending :=
  by rw [bufferRequest_frame]

theorem withoutOldest_frame (s : State) :
    withoutOldest s = { s with link := (withoutOldest s).link } :=
  rfl

theorem setLane_frame (l : LaneNo) (sc : Option Screening) (s : State) :
    setLane l sc s = { s with lanes := (setLane l sc s).lanes } :=
  rfl

theorem modifyLane_frame (l : LaneNo) (f : Screening → Screening) (s : State) :
    modifyLane l f s = { s with lanes := (modifyLane l f s).lanes } :=
  by unfold modifyLane; split <;> rfl

@[simp] theorem modifyLane_powered (l : LaneNo) (f : Screening → Screening) (s : State) : (modifyLane l f s).powered = s.powered :=
  by rw [modifyLane_frame]

@[simp] theorem modifyLane_domain (l : LaneNo) (f : Screening → Screening) (s : State) : (modifyLane l f s).domain = s.domain :=
  by rw [modifyLane_frame]

@[simp] theorem modifyLane_clock (l : LaneNo) (f : Screening → Screening) (s : State) : (modifyLane l f s).clock = s.clock :=
  by rw [modifyLane_frame]

@[simp] theorem modifyLane_margin (l : LaneNo) (f : Screening → Screening) (s : State) : (modifyLane l f s).margin = s.margin :=
  by rw [modifyLane_frame]

@[simp] theorem modifyLane_params (l : LaneNo) (f : Screening → Screening) (s : State) : (modifyLane l f s).params = s.params :=
  by rw [modifyLane_frame]

@[simp] theorem modifyLane_keyring (l : LaneNo) (f : Screening → Screening) (s : State) : (modifyLane l f s).keyring = s.keyring :=
  by rw [modifyLane_frame]

@[simp] theorem modifyLane_revocations (l : LaneNo) (f : Screening → Screening) (s : State) : (modifyLane l f s).revocations = s.revocations :=
  by rw [modifyLane_frame]

@[simp] theorem modifyLane_engine (l : LaneNo) (f : Screening → Screening) (s : State) : (modifyLane l f s).engine = s.engine :=
  by rw [modifyLane_frame]

@[simp] theorem modifyLane_screens (l : LaneNo) (f : Screening → Screening) (s : State) : (modifyLane l f s).screens = s.screens :=
  by rw [modifyLane_frame]

@[simp] theorem modifyLane_store (l : LaneNo) (f : Screening → Screening) (s : State) : (modifyLane l f s).store = s.store :=
  by rw [modifyLane_frame]

@[simp] theorem modifyLane_link (l : LaneNo) (f : Screening → Screening) (s : State) : (modifyLane l f s).link = s.link :=
  by rw [modifyLane_frame]

@[simp] theorem modifyLane_due (l : LaneNo) (f : Screening → Screening) (s : State) : (modifyLane l f s).due = s.due :=
  by rw [modifyLane_frame]

@[simp] theorem modifyLane_pending (l : LaneNo) (f : Screening → Screening) (s : State) : (modifyLane l f s).pending = s.pending :=
  by rw [modifyLane_frame]

theorem createJob_frame (i : JobItem) (s : State) :
    createJob i s = { s with engine := (createJob i s).engine } :=
  rfl

theorem enterService_frame (i : JobItem) (s : State) :
    enterService i s = { s with lanes := (enterService i s).lanes } :=
  by
  unfold enterService
  split
  · exact modifyLane_frame ..
  · rfl

@[simp] theorem enterService_powered (i : JobItem) (s : State) : (enterService i s).powered = s.powered :=
  by rw [enterService_frame]

@[simp] theorem enterService_domain (i : JobItem) (s : State) : (enterService i s).domain = s.domain :=
  by rw [enterService_frame]

@[simp] theorem enterService_clock (i : JobItem) (s : State) : (enterService i s).clock = s.clock :=
  by rw [enterService_frame]

@[simp] theorem enterService_margin (i : JobItem) (s : State) : (enterService i s).margin = s.margin :=
  by rw [enterService_frame]

@[simp] theorem enterService_params (i : JobItem) (s : State) : (enterService i s).params = s.params :=
  by rw [enterService_frame]

@[simp] theorem enterService_keyring (i : JobItem) (s : State) : (enterService i s).keyring = s.keyring :=
  by rw [enterService_frame]

@[simp] theorem enterService_revocations (i : JobItem) (s : State) : (enterService i s).revocations = s.revocations :=
  by rw [enterService_frame]

@[simp] theorem enterService_engine (i : JobItem) (s : State) : (enterService i s).engine = s.engine :=
  by rw [enterService_frame]

@[simp] theorem enterService_screens (i : JobItem) (s : State) : (enterService i s).screens = s.screens :=
  by rw [enterService_frame]

@[simp] theorem enterService_store (i : JobItem) (s : State) : (enterService i s).store = s.store :=
  by rw [enterService_frame]

@[simp] theorem enterService_link (i : JobItem) (s : State) : (enterService i s).link = s.link :=
  by rw [enterService_frame]

@[simp] theorem enterService_due (i : JobItem) (s : State) : (enterService i s).due = s.due :=
  by rw [enterService_frame]

@[simp] theorem enterService_pending (i : JobItem) (s : State) : (enterService i s).pending = s.pending :=
  by rw [enterService_frame]

theorem grant_frame (s : State) :
    grant s = { s with engine := (grant s).engine, lanes := (grant s).lanes } :=
  by
  unfold grant
  split
  · rfl
  · split
    · rfl
    · dsimp only
      rw [enterService_frame]

@[simp] theorem grant_powered (s : State) : (grant s).powered = s.powered :=
  by rw [grant_frame]

@[simp] theorem grant_domain (s : State) : (grant s).domain = s.domain :=
  by rw [grant_frame]

@[simp] theorem grant_clock (s : State) : (grant s).clock = s.clock :=
  by rw [grant_frame]

@[simp] theorem grant_margin (s : State) : (grant s).margin = s.margin :=
  by rw [grant_frame]

@[simp] theorem grant_params (s : State) : (grant s).params = s.params :=
  by rw [grant_frame]

@[simp] theorem grant_keyring (s : State) : (grant s).keyring = s.keyring :=
  by rw [grant_frame]

@[simp] theorem grant_revocations (s : State) : (grant s).revocations = s.revocations :=
  by rw [grant_frame]

@[simp] theorem grant_screens (s : State) : (grant s).screens = s.screens :=
  by rw [grant_frame]

@[simp] theorem grant_store (s : State) : (grant s).store = s.store :=
  by rw [grant_frame]

@[simp] theorem grant_link (s : State) : (grant s).link = s.link :=
  by rw [grant_frame]

@[simp] theorem grant_due (s : State) : (grant s).due = s.due :=
  by rw [grant_frame]

@[simp] theorem grant_pending (s : State) : (grant s).pending = s.pending :=
  by rw [grant_frame]

theorem releaseSync_frame (s : State) :
    releaseSync s = { s with link := (releaseSync s).link } :=
  by
  unfold releaseSync
  split
  · rfl
  · split
    · rw [handFrame_frame]
    · rfl

@[simp] theorem releaseSync_powered (s : State) : (releaseSync s).powered = s.powered :=
  by rw [releaseSync_frame]

@[simp] theorem releaseSync_domain (s : State) : (releaseSync s).domain = s.domain :=
  by rw [releaseSync_frame]

@[simp] theorem releaseSync_clock (s : State) : (releaseSync s).clock = s.clock :=
  by rw [releaseSync_frame]

@[simp] theorem releaseSync_margin (s : State) : (releaseSync s).margin = s.margin :=
  by rw [releaseSync_frame]

@[simp] theorem releaseSync_params (s : State) : (releaseSync s).params = s.params :=
  by rw [releaseSync_frame]

@[simp] theorem releaseSync_keyring (s : State) : (releaseSync s).keyring = s.keyring :=
  by rw [releaseSync_frame]

@[simp] theorem releaseSync_revocations (s : State) : (releaseSync s).revocations = s.revocations :=
  by rw [releaseSync_frame]

@[simp] theorem releaseSync_engine (s : State) : (releaseSync s).engine = s.engine :=
  by rw [releaseSync_frame]

@[simp] theorem releaseSync_screens (s : State) : (releaseSync s).screens = s.screens :=
  by rw [releaseSync_frame]

@[simp] theorem releaseSync_lanes (s : State) : (releaseSync s).lanes = s.lanes :=
  by rw [releaseSync_frame]

@[simp] theorem releaseSync_store (s : State) : (releaseSync s).store = s.store :=
  by rw [releaseSync_frame]

@[simp] theorem releaseSync_due (s : State) : (releaseSync s).due = s.due :=
  by rw [releaseSync_frame]

@[simp] theorem releaseSync_pending (s : State) : (releaseSync s).pending = s.pending :=
  by rw [releaseSync_frame]

theorem dropJobs_frame (p : JobItem → Bool) (s : State) :
    dropJobs p s = { s with engine := (dropJobs p s).engine, link := (dropJobs p s).link } :=
  by unfold dropJobs; rw [releaseSync_frame]

@[simp] theorem dropJobs_powered (p : JobItem → Bool) (s : State) : (dropJobs p s).powered = s.powered :=
  by rw [dropJobs_frame]

@[simp] theorem dropJobs_domain (p : JobItem → Bool) (s : State) : (dropJobs p s).domain = s.domain :=
  by rw [dropJobs_frame]

@[simp] theorem dropJobs_clock (p : JobItem → Bool) (s : State) : (dropJobs p s).clock = s.clock :=
  by rw [dropJobs_frame]

@[simp] theorem dropJobs_margin (p : JobItem → Bool) (s : State) : (dropJobs p s).margin = s.margin :=
  by rw [dropJobs_frame]

@[simp] theorem dropJobs_params (p : JobItem → Bool) (s : State) : (dropJobs p s).params = s.params :=
  by rw [dropJobs_frame]

@[simp] theorem dropJobs_keyring (p : JobItem → Bool) (s : State) : (dropJobs p s).keyring = s.keyring :=
  by rw [dropJobs_frame]

@[simp] theorem dropJobs_revocations (p : JobItem → Bool) (s : State) : (dropJobs p s).revocations = s.revocations :=
  by rw [dropJobs_frame]

@[simp] theorem dropJobs_screens (p : JobItem → Bool) (s : State) : (dropJobs p s).screens = s.screens :=
  by rw [dropJobs_frame]

@[simp] theorem dropJobs_lanes (p : JobItem → Bool) (s : State) : (dropJobs p s).lanes = s.lanes :=
  by rw [dropJobs_frame]

@[simp] theorem dropJobs_store (p : JobItem → Bool) (s : State) : (dropJobs p s).store = s.store :=
  by rw [dropJobs_frame]

@[simp] theorem dropJobs_due (p : JobItem → Bool) (s : State) : (dropJobs p s).due = s.due :=
  by rw [dropJobs_frame]

@[simp] theorem dropJobs_pending (p : JobItem → Bool) (s : State) : (dropJobs p s).pending = s.pending :=
  by rw [dropJobs_frame]

theorem setBundle_frame (slot : SlotNo) (b : Option Bundle) (s : State) :
    setBundle slot b s = { s with keyring := (setBundle slot b s).keyring } :=
  rfl

theorem eraseKeys_frame (slot : SlotNo) (b : Bundle) (after : Bundle → Bundle) (s : State) :
    eraseKeys slot b after s = { s with keyring := (eraseKeys slot b after s).keyring } :=
  rfl

@[simp] theorem eraseKeys_powered (slot : SlotNo) (b : Bundle) (after : Bundle → Bundle) (s : State) : (eraseKeys slot b after s).powered = s.powered :=
  by rw [eraseKeys_frame]

@[simp] theorem eraseKeys_domain (slot : SlotNo) (b : Bundle) (after : Bundle → Bundle) (s : State) : (eraseKeys slot b after s).domain = s.domain :=
  by rw [eraseKeys_frame]

@[simp] theorem eraseKeys_clock (slot : SlotNo) (b : Bundle) (after : Bundle → Bundle) (s : State) : (eraseKeys slot b after s).clock = s.clock :=
  by rw [eraseKeys_frame]

@[simp] theorem eraseKeys_margin (slot : SlotNo) (b : Bundle) (after : Bundle → Bundle) (s : State) : (eraseKeys slot b after s).margin = s.margin :=
  by rw [eraseKeys_frame]

@[simp] theorem eraseKeys_params (slot : SlotNo) (b : Bundle) (after : Bundle → Bundle) (s : State) : (eraseKeys slot b after s).params = s.params :=
  by rw [eraseKeys_frame]

@[simp] theorem eraseKeys_revocations (slot : SlotNo) (b : Bundle) (after : Bundle → Bundle) (s : State) : (eraseKeys slot b after s).revocations = s.revocations :=
  by rw [eraseKeys_frame]

@[simp] theorem eraseKeys_engine (slot : SlotNo) (b : Bundle) (after : Bundle → Bundle) (s : State) : (eraseKeys slot b after s).engine = s.engine :=
  by rw [eraseKeys_frame]

@[simp] theorem eraseKeys_screens (slot : SlotNo) (b : Bundle) (after : Bundle → Bundle) (s : State) : (eraseKeys slot b after s).screens = s.screens :=
  by rw [eraseKeys_frame]

@[simp] theorem eraseKeys_lanes (slot : SlotNo) (b : Bundle) (after : Bundle → Bundle) (s : State) : (eraseKeys slot b after s).lanes = s.lanes :=
  by rw [eraseKeys_frame]

@[simp] theorem eraseKeys_store (slot : SlotNo) (b : Bundle) (after : Bundle → Bundle) (s : State) : (eraseKeys slot b after s).store = s.store :=
  by rw [eraseKeys_frame]

@[simp] theorem eraseKeys_link (slot : SlotNo) (b : Bundle) (after : Bundle → Bundle) (s : State) : (eraseKeys slot b after s).link = s.link :=
  by rw [eraseKeys_frame]

@[simp] theorem eraseKeys_due (slot : SlotNo) (b : Bundle) (after : Bundle → Bundle) (s : State) : (eraseKeys slot b after s).due = s.due :=
  by rw [eraseKeys_frame]

@[simp] theorem eraseKeys_pending (slot : SlotNo) (b : Bundle) (after : Bundle → Bundle) (s : State) : (eraseKeys slot b after s).pending = s.pending :=
  by rw [eraseKeys_frame]

theorem leaveQueue_frame (slot : SlotNo) (s : State) :
    leaveQueue slot s = { s with keyring := (leaveQueue slot s).keyring } :=
  rfl

theorem presentIntake_frame (s : State) :
    presentIntake s = { s with engine := (presentIntake s).engine } :=
  by
  unfold presentIntake
  split
  · rfl
  · split
    · rfl
    · split <;> rfl

@[simp] theorem presentIntake_powered (s : State) : (presentIntake s).powered = s.powered :=
  by rw [presentIntake_frame]

@[simp] theorem presentIntake_domain (s : State) : (presentIntake s).domain = s.domain :=
  by rw [presentIntake_frame]

@[simp] theorem presentIntake_clock (s : State) : (presentIntake s).clock = s.clock :=
  by rw [presentIntake_frame]

@[simp] theorem presentIntake_margin (s : State) : (presentIntake s).margin = s.margin :=
  by rw [presentIntake_frame]

@[simp] theorem presentIntake_params (s : State) : (presentIntake s).params = s.params :=
  by rw [presentIntake_frame]

@[simp] theorem presentIntake_keyring (s : State) : (presentIntake s).keyring = s.keyring :=
  by rw [presentIntake_frame]

@[simp] theorem presentIntake_revocations (s : State) : (presentIntake s).revocations = s.revocations :=
  by rw [presentIntake_frame]

@[simp] theorem presentIntake_screens (s : State) : (presentIntake s).screens = s.screens :=
  by rw [presentIntake_frame]

@[simp] theorem presentIntake_lanes (s : State) : (presentIntake s).lanes = s.lanes :=
  by rw [presentIntake_frame]

@[simp] theorem presentIntake_store (s : State) : (presentIntake s).store = s.store :=
  by rw [presentIntake_frame]

@[simp] theorem presentIntake_link (s : State) : (presentIntake s).link = s.link :=
  by rw [presentIntake_frame]

@[simp] theorem presentIntake_due (s : State) : (presentIntake s).due = s.due :=
  by rw [presentIntake_frame]

@[simp] theorem presentIntake_pending (s : State) : (presentIntake s).pending = s.pending :=
  by rw [presentIntake_frame]

theorem postEntry_frame (slot : SlotNo) (st : BundleState) (s : State) :
    postEntry slot st s = { s with link := (postEntry slot st s).link } :=
  by
  unfold postEntry
  split
  · exact post_frame ..
  · exact post_frame ..
  · exact post_frame ..
  · rfl

@[simp] theorem postEntry_powered (slot : SlotNo) (st : BundleState) (s : State) : (postEntry slot st s).powered = s.powered :=
  by rw [postEntry_frame]

@[simp] theorem postEntry_domain (slot : SlotNo) (st : BundleState) (s : State) : (postEntry slot st s).domain = s.domain :=
  by rw [postEntry_frame]

@[simp] theorem postEntry_clock (slot : SlotNo) (st : BundleState) (s : State) : (postEntry slot st s).clock = s.clock :=
  by rw [postEntry_frame]

@[simp] theorem postEntry_margin (slot : SlotNo) (st : BundleState) (s : State) : (postEntry slot st s).margin = s.margin :=
  by rw [postEntry_frame]

@[simp] theorem postEntry_params (slot : SlotNo) (st : BundleState) (s : State) : (postEntry slot st s).params = s.params :=
  by rw [postEntry_frame]

@[simp] theorem postEntry_keyring (slot : SlotNo) (st : BundleState) (s : State) : (postEntry slot st s).keyring = s.keyring :=
  by rw [postEntry_frame]

@[simp] theorem postEntry_revocations (slot : SlotNo) (st : BundleState) (s : State) : (postEntry slot st s).revocations = s.revocations :=
  by rw [postEntry_frame]

@[simp] theorem postEntry_engine (slot : SlotNo) (st : BundleState) (s : State) : (postEntry slot st s).engine = s.engine :=
  by rw [postEntry_frame]

@[simp] theorem postEntry_screens (slot : SlotNo) (st : BundleState) (s : State) : (postEntry slot st s).screens = s.screens :=
  by rw [postEntry_frame]

@[simp] theorem postEntry_lanes (slot : SlotNo) (st : BundleState) (s : State) : (postEntry slot st s).lanes = s.lanes :=
  by rw [postEntry_frame]

@[simp] theorem postEntry_store (slot : SlotNo) (st : BundleState) (s : State) : (postEntry slot st s).store = s.store :=
  by rw [postEntry_frame]

@[simp] theorem postEntry_due (slot : SlotNo) (st : BundleState) (s : State) : (postEntry slot st s).due = s.due :=
  by rw [postEntry_frame]

@[simp] theorem postEntry_pending (slot : SlotNo) (st : BundleState) (s : State) : (postEntry slot st s).pending = s.pending :=
  by rw [postEntry_frame]

theorem enterWindow_frame (slot : SlotNo) (b : Bundle) (st : BundleState) (s : State) :
    enterWindow slot b st s = { s with keyring := (enterWindow slot b st s).keyring, link := (enterWindow slot b st s).link } :=
  by
  unfold enterWindow
  rw [postEntry_frame]
  split <;> rfl

@[simp] theorem enterWindow_powered (slot : SlotNo) (b : Bundle) (st : BundleState) (s : State) : (enterWindow slot b st s).powered = s.powered :=
  by rw [enterWindow_frame]

@[simp] theorem enterWindow_domain (slot : SlotNo) (b : Bundle) (st : BundleState) (s : State) : (enterWindow slot b st s).domain = s.domain :=
  by rw [enterWindow_frame]

@[simp] theorem enterWindow_clock (slot : SlotNo) (b : Bundle) (st : BundleState) (s : State) : (enterWindow slot b st s).clock = s.clock :=
  by rw [enterWindow_frame]

@[simp] theorem enterWindow_margin (slot : SlotNo) (b : Bundle) (st : BundleState) (s : State) : (enterWindow slot b st s).margin = s.margin :=
  by rw [enterWindow_frame]

@[simp] theorem enterWindow_params (slot : SlotNo) (b : Bundle) (st : BundleState) (s : State) : (enterWindow slot b st s).params = s.params :=
  by rw [enterWindow_frame]

@[simp] theorem enterWindow_revocations (slot : SlotNo) (b : Bundle) (st : BundleState) (s : State) : (enterWindow slot b st s).revocations = s.revocations :=
  by rw [enterWindow_frame]

@[simp] theorem enterWindow_engine (slot : SlotNo) (b : Bundle) (st : BundleState) (s : State) : (enterWindow slot b st s).engine = s.engine :=
  by rw [enterWindow_frame]

@[simp] theorem enterWindow_screens (slot : SlotNo) (b : Bundle) (st : BundleState) (s : State) : (enterWindow slot b st s).screens = s.screens :=
  by rw [enterWindow_frame]

@[simp] theorem enterWindow_lanes (slot : SlotNo) (b : Bundle) (st : BundleState) (s : State) : (enterWindow slot b st s).lanes = s.lanes :=
  by rw [enterWindow_frame]

@[simp] theorem enterWindow_store (slot : SlotNo) (b : Bundle) (st : BundleState) (s : State) : (enterWindow slot b st s).store = s.store :=
  by rw [enterWindow_frame]

@[simp] theorem enterWindow_due (slot : SlotNo) (b : Bundle) (st : BundleState) (s : State) : (enterWindow slot b st s).due = s.due :=
  by rw [enterWindow_frame]

@[simp] theorem enterWindow_pending (slot : SlotNo) (b : Bundle) (st : BundleState) (s : State) : (enterWindow slot b st s).pending = s.pending :=
  by rw [enterWindow_frame]

theorem judgeSlot_frame (now m : Nat) (slot : SlotNo) (s : State) :
    judgeSlot now m slot s = { s with keyring := (judgeSlot now m slot s).keyring, link := (judgeSlot now m slot s).link } :=
  by
  unfold judgeSlot
  split
  · rfl
  · split
    · exact enterWindow_frame ..
    · rfl

@[simp] theorem judgeSlot_powered (now m : Nat) (slot : SlotNo) (s : State) : (judgeSlot now m slot s).powered = s.powered :=
  by rw [judgeSlot_frame]

@[simp] theorem judgeSlot_domain (now m : Nat) (slot : SlotNo) (s : State) : (judgeSlot now m slot s).domain = s.domain :=
  by rw [judgeSlot_frame]

@[simp] theorem judgeSlot_clock (now m : Nat) (slot : SlotNo) (s : State) : (judgeSlot now m slot s).clock = s.clock :=
  by rw [judgeSlot_frame]

@[simp] theorem judgeSlot_margin (now m : Nat) (slot : SlotNo) (s : State) : (judgeSlot now m slot s).margin = s.margin :=
  by rw [judgeSlot_frame]

@[simp] theorem judgeSlot_params (now m : Nat) (slot : SlotNo) (s : State) : (judgeSlot now m slot s).params = s.params :=
  by rw [judgeSlot_frame]

@[simp] theorem judgeSlot_revocations (now m : Nat) (slot : SlotNo) (s : State) : (judgeSlot now m slot s).revocations = s.revocations :=
  by rw [judgeSlot_frame]

@[simp] theorem judgeSlot_engine (now m : Nat) (slot : SlotNo) (s : State) : (judgeSlot now m slot s).engine = s.engine :=
  by rw [judgeSlot_frame]

@[simp] theorem judgeSlot_screens (now m : Nat) (slot : SlotNo) (s : State) : (judgeSlot now m slot s).screens = s.screens :=
  by rw [judgeSlot_frame]

@[simp] theorem judgeSlot_lanes (now m : Nat) (slot : SlotNo) (s : State) : (judgeSlot now m slot s).lanes = s.lanes :=
  by rw [judgeSlot_frame]

@[simp] theorem judgeSlot_store (now m : Nat) (slot : SlotNo) (s : State) : (judgeSlot now m slot s).store = s.store :=
  by rw [judgeSlot_frame]

@[simp] theorem judgeSlot_due (now m : Nat) (slot : SlotNo) (s : State) : (judgeSlot now m slot s).due = s.due :=
  by rw [judgeSlot_frame]

@[simp] theorem judgeSlot_pending (now m : Nat) (slot : SlotNo) (s : State) : (judgeSlot now m slot s).pending = s.pending :=
  by rw [judgeSlot_frame]

theorem windowSweep_frame (s : State) :
    windowSweep s = { s with keyring := (windowSweep s).keyring, link := (windowSweep s).link } :=
  by
  unfold windowSweep
  exact frame_of_foldl _ (fun t u => u = { t with keyring := u.keyring, link := u.link }) (fun _ => rfl)
    (fun a b c h k => by rw [k, h]) (fun t i => judgeSlot_frame ..) _ s

@[simp] theorem windowSweep_powered (s : State) : (windowSweep s).powered = s.powered :=
  by rw [windowSweep_frame]

@[simp] theorem windowSweep_domain (s : State) : (windowSweep s).domain = s.domain :=
  by rw [windowSweep_frame]

@[simp] theorem windowSweep_clock (s : State) : (windowSweep s).clock = s.clock :=
  by rw [windowSweep_frame]

@[simp] theorem windowSweep_margin (s : State) : (windowSweep s).margin = s.margin :=
  by rw [windowSweep_frame]

@[simp] theorem windowSweep_params (s : State) : (windowSweep s).params = s.params :=
  by rw [windowSweep_frame]

@[simp] theorem windowSweep_revocations (s : State) : (windowSweep s).revocations = s.revocations :=
  by rw [windowSweep_frame]

@[simp] theorem windowSweep_engine (s : State) : (windowSweep s).engine = s.engine :=
  by rw [windowSweep_frame]

@[simp] theorem windowSweep_screens (s : State) : (windowSweep s).screens = s.screens :=
  by rw [windowSweep_frame]

@[simp] theorem windowSweep_lanes (s : State) : (windowSweep s).lanes = s.lanes :=
  by rw [windowSweep_frame]

@[simp] theorem windowSweep_store (s : State) : (windowSweep s).store = s.store :=
  by rw [windowSweep_frame]

@[simp] theorem windowSweep_due (s : State) : (windowSweep s).due = s.due :=
  by rw [windowSweep_frame]

@[simp] theorem windowSweep_pending (s : State) : (windowSweep s).pending = s.pending :=
  by rw [windowSweep_frame]

theorem takeUse_frame (slot : SlotNo) (s : State) :
    takeUse slot s = { s with keyring := (takeUse slot s).keyring } :=
  by unfold takeUse; split <;> rfl

@[simp] theorem takeUse_powered (slot : SlotNo) (s : State) : (takeUse slot s).powered = s.powered :=
  by rw [takeUse_frame]

@[simp] theorem takeUse_domain (slot : SlotNo) (s : State) : (takeUse slot s).domain = s.domain :=
  by rw [takeUse_frame]

@[simp] theorem takeUse_clock (slot : SlotNo) (s : State) : (takeUse slot s).clock = s.clock :=
  by rw [takeUse_frame]

@[simp] theorem takeUse_margin (slot : SlotNo) (s : State) : (takeUse slot s).margin = s.margin :=
  by rw [takeUse_frame]

@[simp] theorem takeUse_params (slot : SlotNo) (s : State) : (takeUse slot s).params = s.params :=
  by rw [takeUse_frame]

@[simp] theorem takeUse_revocations (slot : SlotNo) (s : State) : (takeUse slot s).revocations = s.revocations :=
  by rw [takeUse_frame]

@[simp] theorem takeUse_engine (slot : SlotNo) (s : State) : (takeUse slot s).engine = s.engine :=
  by rw [takeUse_frame]

@[simp] theorem takeUse_screens (slot : SlotNo) (s : State) : (takeUse slot s).screens = s.screens :=
  by rw [takeUse_frame]

@[simp] theorem takeUse_lanes (slot : SlotNo) (s : State) : (takeUse slot s).lanes = s.lanes :=
  by rw [takeUse_frame]

@[simp] theorem takeUse_store (slot : SlotNo) (s : State) : (takeUse slot s).store = s.store :=
  by rw [takeUse_frame]

@[simp] theorem takeUse_link (slot : SlotNo) (s : State) : (takeUse slot s).link = s.link :=
  by rw [takeUse_frame]

@[simp] theorem takeUse_due (slot : SlotNo) (s : State) : (takeUse slot s).due = s.due :=
  by rw [takeUse_frame]

@[simp] theorem takeUse_pending (slot : SlotNo) (s : State) : (takeUse slot s).pending = s.pending :=
  by rw [takeUse_frame]

theorem buryRevoked_frame (slot : SlotNo) (b : Bundle) (s : State) :
    buryRevoked slot b s = { s with keyring := (buryRevoked slot b s).keyring } :=
  rfl

@[simp] theorem buryRevoked_powered (slot : SlotNo) (b : Bundle) (s : State) : (buryRevoked slot b s).powered = s.powered :=
  by rw [buryRevoked_frame]

@[simp] theorem buryRevoked_domain (slot : SlotNo) (b : Bundle) (s : State) : (buryRevoked slot b s).domain = s.domain :=
  by rw [buryRevoked_frame]

@[simp] theorem buryRevoked_clock (slot : SlotNo) (b : Bundle) (s : State) : (buryRevoked slot b s).clock = s.clock :=
  by rw [buryRevoked_frame]

@[simp] theorem buryRevoked_margin (slot : SlotNo) (b : Bundle) (s : State) : (buryRevoked slot b s).margin = s.margin :=
  by rw [buryRevoked_frame]

@[simp] theorem buryRevoked_params (slot : SlotNo) (b : Bundle) (s : State) : (buryRevoked slot b s).params = s.params :=
  by rw [buryRevoked_frame]

@[simp] theorem buryRevoked_revocations (slot : SlotNo) (b : Bundle) (s : State) : (buryRevoked slot b s).revocations = s.revocations :=
  by rw [buryRevoked_frame]

@[simp] theorem buryRevoked_engine (slot : SlotNo) (b : Bundle) (s : State) : (buryRevoked slot b s).engine = s.engine :=
  by rw [buryRevoked_frame]

@[simp] theorem buryRevoked_screens (slot : SlotNo) (b : Bundle) (s : State) : (buryRevoked slot b s).screens = s.screens :=
  by rw [buryRevoked_frame]

@[simp] theorem buryRevoked_lanes (slot : SlotNo) (b : Bundle) (s : State) : (buryRevoked slot b s).lanes = s.lanes :=
  by rw [buryRevoked_frame]

@[simp] theorem buryRevoked_store (slot : SlotNo) (b : Bundle) (s : State) : (buryRevoked slot b s).store = s.store :=
  by rw [buryRevoked_frame]

@[simp] theorem buryRevoked_link (slot : SlotNo) (b : Bundle) (s : State) : (buryRevoked slot b s).link = s.link :=
  by rw [buryRevoked_frame]

@[simp] theorem buryRevoked_due (slot : SlotNo) (b : Bundle) (s : State) : (buryRevoked slot b s).due = s.due :=
  by rw [buryRevoked_frame]

@[simp] theorem buryRevoked_pending (slot : SlotNo) (b : Bundle) (s : State) : (buryRevoked slot b s).pending = s.pending :=
  by rw [buryRevoked_frame]

theorem returnUse_frame (slot : SlotNo) (s : State) :
    returnUse slot s = { s with keyring := (returnUse slot s).keyring } :=
  by
  unfold returnUse
  split
  · rfl
  · dsimp only; split <;> rfl

@[simp] theorem returnUse_powered (slot : SlotNo) (s : State) : (returnUse slot s).powered = s.powered :=
  by rw [returnUse_frame]

@[simp] theorem returnUse_domain (slot : SlotNo) (s : State) : (returnUse slot s).domain = s.domain :=
  by rw [returnUse_frame]

@[simp] theorem returnUse_clock (slot : SlotNo) (s : State) : (returnUse slot s).clock = s.clock :=
  by rw [returnUse_frame]

@[simp] theorem returnUse_margin (slot : SlotNo) (s : State) : (returnUse slot s).margin = s.margin :=
  by rw [returnUse_frame]

@[simp] theorem returnUse_params (slot : SlotNo) (s : State) : (returnUse slot s).params = s.params :=
  by rw [returnUse_frame]

@[simp] theorem returnUse_revocations (slot : SlotNo) (s : State) : (returnUse slot s).revocations = s.revocations :=
  by rw [returnUse_frame]

@[simp] theorem returnUse_engine (slot : SlotNo) (s : State) : (returnUse slot s).engine = s.engine :=
  by rw [returnUse_frame]

@[simp] theorem returnUse_screens (slot : SlotNo) (s : State) : (returnUse slot s).screens = s.screens :=
  by rw [returnUse_frame]

@[simp] theorem returnUse_lanes (slot : SlotNo) (s : State) : (returnUse slot s).lanes = s.lanes :=
  by rw [returnUse_frame]

@[simp] theorem returnUse_store (slot : SlotNo) (s : State) : (returnUse slot s).store = s.store :=
  by rw [returnUse_frame]

@[simp] theorem returnUse_link (slot : SlotNo) (s : State) : (returnUse slot s).link = s.link :=
  by rw [returnUse_frame]

@[simp] theorem returnUse_due (slot : SlotNo) (s : State) : (returnUse slot s).due = s.due :=
  by rw [returnUse_frame]

@[simp] theorem returnUse_pending (slot : SlotNo) (s : State) : (returnUse slot s).pending = s.pending :=
  by rw [returnUse_frame]

theorem resetSlot_frame (slot : SlotNo) (s : State) :
    resetSlot slot s = { s with keyring := (resetSlot slot s).keyring } :=
  by
  unfold resetSlot
  split
  · rfl
  · split
    · rfl
    · split <;> rfl

@[simp] theorem resetSlot_powered (slot : SlotNo) (s : State) : (resetSlot slot s).powered = s.powered :=
  by rw [resetSlot_frame]

@[simp] theorem resetSlot_domain (slot : SlotNo) (s : State) : (resetSlot slot s).domain = s.domain :=
  by rw [resetSlot_frame]

@[simp] theorem resetSlot_clock (slot : SlotNo) (s : State) : (resetSlot slot s).clock = s.clock :=
  by rw [resetSlot_frame]

@[simp] theorem resetSlot_margin (slot : SlotNo) (s : State) : (resetSlot slot s).margin = s.margin :=
  by rw [resetSlot_frame]

@[simp] theorem resetSlot_params (slot : SlotNo) (s : State) : (resetSlot slot s).params = s.params :=
  by rw [resetSlot_frame]

@[simp] theorem resetSlot_revocations (slot : SlotNo) (s : State) : (resetSlot slot s).revocations = s.revocations :=
  by rw [resetSlot_frame]

@[simp] theorem resetSlot_engine (slot : SlotNo) (s : State) : (resetSlot slot s).engine = s.engine :=
  by rw [resetSlot_frame]

@[simp] theorem resetSlot_screens (slot : SlotNo) (s : State) : (resetSlot slot s).screens = s.screens :=
  by rw [resetSlot_frame]

@[simp] theorem resetSlot_lanes (slot : SlotNo) (s : State) : (resetSlot slot s).lanes = s.lanes :=
  by rw [resetSlot_frame]

@[simp] theorem resetSlot_store (slot : SlotNo) (s : State) : (resetSlot slot s).store = s.store :=
  by rw [resetSlot_frame]

@[simp] theorem resetSlot_link (slot : SlotNo) (s : State) : (resetSlot slot s).link = s.link :=
  by rw [resetSlot_frame]

@[simp] theorem resetSlot_due (slot : SlotNo) (s : State) : (resetSlot slot s).due = s.due :=
  by rw [resetSlot_frame]

@[simp] theorem resetSlot_pending (slot : SlotNo) (s : State) : (resetSlot slot s).pending = s.pending :=
  by rw [resetSlot_frame]

theorem resetKeyring_frame (s : State) :
    resetKeyring s = { s with keyring := (resetKeyring s).keyring } :=
  by
  unfold resetKeyring
  have h := frame_of_foldl (fun t slot => resetSlot slot t) (fun t u => u = { t with keyring := u.keyring })
    (fun _ => rfl) (fun a b c h k => by rw [k, h]) (fun t i => resetSlot_frame ..) (List.finRange 64) s
  dsimp only
  rw [h]

@[simp] theorem resetKeyring_powered (s : State) : (resetKeyring s).powered = s.powered :=
  by rw [resetKeyring_frame]

@[simp] theorem resetKeyring_domain (s : State) : (resetKeyring s).domain = s.domain :=
  by rw [resetKeyring_frame]

@[simp] theorem resetKeyring_clock (s : State) : (resetKeyring s).clock = s.clock :=
  by rw [resetKeyring_frame]

@[simp] theorem resetKeyring_margin (s : State) : (resetKeyring s).margin = s.margin :=
  by rw [resetKeyring_frame]

@[simp] theorem resetKeyring_params (s : State) : (resetKeyring s).params = s.params :=
  by rw [resetKeyring_frame]

@[simp] theorem resetKeyring_revocations (s : State) : (resetKeyring s).revocations = s.revocations :=
  by rw [resetKeyring_frame]

@[simp] theorem resetKeyring_engine (s : State) : (resetKeyring s).engine = s.engine :=
  by rw [resetKeyring_frame]

@[simp] theorem resetKeyring_screens (s : State) : (resetKeyring s).screens = s.screens :=
  by rw [resetKeyring_frame]

@[simp] theorem resetKeyring_lanes (s : State) : (resetKeyring s).lanes = s.lanes :=
  by rw [resetKeyring_frame]

@[simp] theorem resetKeyring_store (s : State) : (resetKeyring s).store = s.store :=
  by rw [resetKeyring_frame]

@[simp] theorem resetKeyring_link (s : State) : (resetKeyring s).link = s.link :=
  by rw [resetKeyring_frame]

@[simp] theorem resetKeyring_due (s : State) : (resetKeyring s).due = s.due :=
  by rw [resetKeyring_frame]

@[simp] theorem resetKeyring_pending (s : State) : (resetKeyring s).pending = s.pending :=
  by rw [resetKeyring_frame]

theorem evaluateMargin_frame (cause : EvalCause) (s : State) :
    evaluateMargin cause s = { s with margin := (evaluateMargin cause s).margin, link := (evaluateMargin cause s).link } :=
  by
  unfold evaluateMargin
  dsimp only
  split
  · rfl
  · rw [post_frame]

@[simp] theorem evaluateMargin_powered (cause : EvalCause) (s : State) : (evaluateMargin cause s).powered = s.powered :=
  by rw [evaluateMargin_frame]

@[simp] theorem evaluateMargin_domain (cause : EvalCause) (s : State) : (evaluateMargin cause s).domain = s.domain :=
  by rw [evaluateMargin_frame]

@[simp] theorem evaluateMargin_clock (cause : EvalCause) (s : State) : (evaluateMargin cause s).clock = s.clock :=
  by rw [evaluateMargin_frame]

@[simp] theorem evaluateMargin_params (cause : EvalCause) (s : State) : (evaluateMargin cause s).params = s.params :=
  by rw [evaluateMargin_frame]

@[simp] theorem evaluateMargin_keyring (cause : EvalCause) (s : State) : (evaluateMargin cause s).keyring = s.keyring :=
  by rw [evaluateMargin_frame]

@[simp] theorem evaluateMargin_revocations (cause : EvalCause) (s : State) : (evaluateMargin cause s).revocations = s.revocations :=
  by rw [evaluateMargin_frame]

@[simp] theorem evaluateMargin_engine (cause : EvalCause) (s : State) : (evaluateMargin cause s).engine = s.engine :=
  by rw [evaluateMargin_frame]

@[simp] theorem evaluateMargin_screens (cause : EvalCause) (s : State) : (evaluateMargin cause s).screens = s.screens :=
  by rw [evaluateMargin_frame]

@[simp] theorem evaluateMargin_lanes (cause : EvalCause) (s : State) : (evaluateMargin cause s).lanes = s.lanes :=
  by rw [evaluateMargin_frame]

@[simp] theorem evaluateMargin_store (cause : EvalCause) (s : State) : (evaluateMargin cause s).store = s.store :=
  by rw [evaluateMargin_frame]

@[simp] theorem evaluateMargin_due (cause : EvalCause) (s : State) : (evaluateMargin cause s).due = s.due :=
  by rw [evaluateMargin_frame]

@[simp] theorem evaluateMargin_pending (cause : EvalCause) (s : State) : (evaluateMargin cause s).pending = s.pending :=
  by rw [evaluateMargin_frame]

theorem expiryPass_frame (s : State) :
    expiryPass s = { s with revocations := (expiryPass s).revocations } :=
  rfl

theorem fillSlot_frame (l : LaneNo) (n : SlotName) (p : Position) (neededBy : Nat) (s : State) :
    fillSlot l n p neededBy s = { s with engine := (fillSlot l n p neededBy s).engine, lanes := (fillSlot l n p neededBy s).lanes } :=
  by unfold fillSlot; rw [createJob_frame, modifyLane_frame]

@[simp] theorem fillSlot_powered (l : LaneNo) (n : SlotName) (p : Position) (neededBy : Nat) (s : State) : (fillSlot l n p neededBy s).powered = s.powered :=
  by rw [fillSlot_frame]

@[simp] theorem fillSlot_domain (l : LaneNo) (n : SlotName) (p : Position) (neededBy : Nat) (s : State) : (fillSlot l n p neededBy s).domain = s.domain :=
  by rw [fillSlot_frame]

@[simp] theorem fillSlot_clock (l : LaneNo) (n : SlotName) (p : Position) (neededBy : Nat) (s : State) : (fillSlot l n p neededBy s).clock = s.clock :=
  by rw [fillSlot_frame]

@[simp] theorem fillSlot_margin (l : LaneNo) (n : SlotName) (p : Position) (neededBy : Nat) (s : State) : (fillSlot l n p neededBy s).margin = s.margin :=
  by rw [fillSlot_frame]

@[simp] theorem fillSlot_params (l : LaneNo) (n : SlotName) (p : Position) (neededBy : Nat) (s : State) : (fillSlot l n p neededBy s).params = s.params :=
  by rw [fillSlot_frame]

@[simp] theorem fillSlot_keyring (l : LaneNo) (n : SlotName) (p : Position) (neededBy : Nat) (s : State) : (fillSlot l n p neededBy s).keyring = s.keyring :=
  by rw [fillSlot_frame]

@[simp] theorem fillSlot_revocations (l : LaneNo) (n : SlotName) (p : Position) (neededBy : Nat) (s : State) : (fillSlot l n p neededBy s).revocations = s.revocations :=
  by rw [fillSlot_frame]

@[simp] theorem fillSlot_screens (l : LaneNo) (n : SlotName) (p : Position) (neededBy : Nat) (s : State) : (fillSlot l n p neededBy s).screens = s.screens :=
  by rw [fillSlot_frame]

@[simp] theorem fillSlot_store (l : LaneNo) (n : SlotName) (p : Position) (neededBy : Nat) (s : State) : (fillSlot l n p neededBy s).store = s.store :=
  by rw [fillSlot_frame]

@[simp] theorem fillSlot_link (l : LaneNo) (n : SlotName) (p : Position) (neededBy : Nat) (s : State) : (fillSlot l n p neededBy s).link = s.link :=
  by rw [fillSlot_frame]

@[simp] theorem fillSlot_due (l : LaneNo) (n : SlotName) (p : Position) (neededBy : Nat) (s : State) : (fillSlot l n p neededBy s).due = s.due :=
  by rw [fillSlot_frame]

@[simp] theorem fillSlot_pending (l : LaneNo) (n : SlotName) (p : Position) (neededBy : Nat) (s : State) : (fillSlot l n p neededBy s).pending = s.pending :=
  by rw [fillSlot_frame]

theorem emptySlot_frame (l : LaneNo) (n : SlotName) (s : State) :
    emptySlot l n s = { s with engine := (emptySlot l n s).engine, lanes := (emptySlot l n s).lanes, link := (emptySlot l n s).link } :=
  by
  unfold emptySlot
  rw [dropJobs_frame, modifyLane_frame]

@[simp] theorem emptySlot_powered (l : LaneNo) (n : SlotName) (s : State) : (emptySlot l n s).powered = s.powered :=
  by rw [emptySlot_frame]

@[simp] theorem emptySlot_domain (l : LaneNo) (n : SlotName) (s : State) : (emptySlot l n s).domain = s.domain :=
  by rw [emptySlot_frame]

@[simp] theorem emptySlot_clock (l : LaneNo) (n : SlotName) (s : State) : (emptySlot l n s).clock = s.clock :=
  by rw [emptySlot_frame]

@[simp] theorem emptySlot_margin (l : LaneNo) (n : SlotName) (s : State) : (emptySlot l n s).margin = s.margin :=
  by rw [emptySlot_frame]

@[simp] theorem emptySlot_params (l : LaneNo) (n : SlotName) (s : State) : (emptySlot l n s).params = s.params :=
  by rw [emptySlot_frame]

@[simp] theorem emptySlot_keyring (l : LaneNo) (n : SlotName) (s : State) : (emptySlot l n s).keyring = s.keyring :=
  by rw [emptySlot_frame]

@[simp] theorem emptySlot_revocations (l : LaneNo) (n : SlotName) (s : State) : (emptySlot l n s).revocations = s.revocations :=
  by rw [emptySlot_frame]

@[simp] theorem emptySlot_screens (l : LaneNo) (n : SlotName) (s : State) : (emptySlot l n s).screens = s.screens :=
  by rw [emptySlot_frame]

@[simp] theorem emptySlot_store (l : LaneNo) (n : SlotName) (s : State) : (emptySlot l n s).store = s.store :=
  by rw [emptySlot_frame]

@[simp] theorem emptySlot_due (l : LaneNo) (n : SlotName) (s : State) : (emptySlot l n s).due = s.due :=
  by rw [emptySlot_frame]

@[simp] theorem emptySlot_pending (l : LaneNo) (n : SlotName) (s : State) : (emptySlot l n s).pending = s.pending :=
  by rw [emptySlot_frame]

theorem emptyWorking_frame (l : LaneNo) (n : SlotName) (s : State) :
    emptyWorking l n s = { s with engine := (emptyWorking l n s).engine, lanes := (emptyWorking l n s).lanes, link := (emptyWorking l n s).link } :=
  by
  unfold emptyWorking
  split
  · split
    · exact emptySlot_frame ..
    · rfl
  · rfl

@[simp] theorem emptyWorking_powered (l : LaneNo) (n : SlotName) (s : State) : (emptyWorking l n s).powered = s.powered :=
  by rw [emptyWorking_frame]

@[simp] theorem emptyWorking_domain (l : LaneNo) (n : SlotName) (s : State) : (emptyWorking l n s).domain = s.domain :=
  by rw [emptyWorking_frame]

@[simp] theorem emptyWorking_clock (l : LaneNo) (n : SlotName) (s : State) : (emptyWorking l n s).clock = s.clock :=
  by rw [emptyWorking_frame]

@[simp] theorem emptyWorking_margin (l : LaneNo) (n : SlotName) (s : State) : (emptyWorking l n s).margin = s.margin :=
  by rw [emptyWorking_frame]

@[simp] theorem emptyWorking_params (l : LaneNo) (n : SlotName) (s : State) : (emptyWorking l n s).params = s.params :=
  by rw [emptyWorking_frame]

@[simp] theorem emptyWorking_keyring (l : LaneNo) (n : SlotName) (s : State) : (emptyWorking l n s).keyring = s.keyring :=
  by rw [emptyWorking_frame]

@[simp] theorem emptyWorking_revocations (l : LaneNo) (n : SlotName) (s : State) : (emptyWorking l n s).revocations = s.revocations :=
  by rw [emptyWorking_frame]

@[simp] theorem emptyWorking_screens (l : LaneNo) (n : SlotName) (s : State) : (emptyWorking l n s).screens = s.screens :=
  by rw [emptyWorking_frame]

@[simp] theorem emptyWorking_store (l : LaneNo) (n : SlotName) (s : State) : (emptyWorking l n s).store = s.store :=
  by rw [emptyWorking_frame]

@[simp] theorem emptyWorking_due (l : LaneNo) (n : SlotName) (s : State) : (emptyWorking l n s).due = s.due :=
  by rw [emptyWorking_frame]

@[simp] theorem emptyWorking_pending (l : LaneNo) (n : SlotName) (s : State) : (emptyWorking l n s).pending = s.pending :=
  by rw [emptyWorking_frame]

theorem endLane_frame (l : LaneNo) (status : LaneStatus) (cause : EndCause) (notice : Notice) (s : State) :
    endLane l status cause notice s = { s with keyring := (endLane l status cause notice s).keyring, engine := (endLane l status cause notice s).engine, lanes := (endLane l status cause notice s).lanes, link := (endLane l status cause notice s).link } :=
  by
  unfold endLane
  split
  · rfl
  · dsimp only
    rw [post_frame, returnUse_frame, modifyLane_frame, emptySlot_frame, emptySlot_frame]

@[simp] theorem endLane_powered (l : LaneNo) (status : LaneStatus) (cause : EndCause) (notice : Notice) (s : State) : (endLane l status cause notice s).powered = s.powered :=
  by rw [endLane_frame]

@[simp] theorem endLane_domain (l : LaneNo) (status : LaneStatus) (cause : EndCause) (notice : Notice) (s : State) : (endLane l status cause notice s).domain = s.domain :=
  by rw [endLane_frame]

@[simp] theorem endLane_clock (l : LaneNo) (status : LaneStatus) (cause : EndCause) (notice : Notice) (s : State) : (endLane l status cause notice s).clock = s.clock :=
  by rw [endLane_frame]

@[simp] theorem endLane_margin (l : LaneNo) (status : LaneStatus) (cause : EndCause) (notice : Notice) (s : State) : (endLane l status cause notice s).margin = s.margin :=
  by rw [endLane_frame]

@[simp] theorem endLane_params (l : LaneNo) (status : LaneStatus) (cause : EndCause) (notice : Notice) (s : State) : (endLane l status cause notice s).params = s.params :=
  by rw [endLane_frame]

@[simp] theorem endLane_revocations (l : LaneNo) (status : LaneStatus) (cause : EndCause) (notice : Notice) (s : State) : (endLane l status cause notice s).revocations = s.revocations :=
  by rw [endLane_frame]

@[simp] theorem endLane_screens (l : LaneNo) (status : LaneStatus) (cause : EndCause) (notice : Notice) (s : State) : (endLane l status cause notice s).screens = s.screens :=
  by rw [endLane_frame]

@[simp] theorem endLane_store (l : LaneNo) (status : LaneStatus) (cause : EndCause) (notice : Notice) (s : State) : (endLane l status cause notice s).store = s.store :=
  by rw [endLane_frame]

@[simp] theorem endLane_due (l : LaneNo) (status : LaneStatus) (cause : EndCause) (notice : Notice) (s : State) : (endLane l status cause notice s).due = s.due :=
  by rw [endLane_frame]

@[simp] theorem endLane_pending (l : LaneNo) (status : LaneStatus) (cause : EndCause) (notice : Notice) (s : State) : (endLane l status cause notice s).pending = s.pending :=
  by rw [endLane_frame]

theorem finishLane_frame (l : LaneNo) (cause : EndCause) (s : State) :
    finishLane l cause s = { s with keyring := (finishLane l cause s).keyring, engine := (finishLane l cause s).engine, lanes := (finishLane l cause s).lanes, link := (finishLane l cause s).link } :=
  endLane_frame ..

@[simp] theorem finishLane_powered (l : LaneNo) (cause : EndCause) (s : State) : (finishLane l cause s).powered = s.powered :=
  by rw [finishLane_frame]

@[simp] theorem finishLane_domain (l : LaneNo) (cause : EndCause) (s : State) : (finishLane l cause s).domain = s.domain :=
  by rw [finishLane_frame]

@[simp] theorem finishLane_clock (l : LaneNo) (cause : EndCause) (s : State) : (finishLane l cause s).clock = s.clock :=
  by rw [finishLane_frame]

@[simp] theorem finishLane_margin (l : LaneNo) (cause : EndCause) (s : State) : (finishLane l cause s).margin = s.margin :=
  by rw [finishLane_frame]

@[simp] theorem finishLane_params (l : LaneNo) (cause : EndCause) (s : State) : (finishLane l cause s).params = s.params :=
  by rw [finishLane_frame]

@[simp] theorem finishLane_revocations (l : LaneNo) (cause : EndCause) (s : State) : (finishLane l cause s).revocations = s.revocations :=
  by rw [finishLane_frame]

@[simp] theorem finishLane_screens (l : LaneNo) (cause : EndCause) (s : State) : (finishLane l cause s).screens = s.screens :=
  by rw [finishLane_frame]

@[simp] theorem finishLane_store (l : LaneNo) (cause : EndCause) (s : State) : (finishLane l cause s).store = s.store :=
  by rw [finishLane_frame]

@[simp] theorem finishLane_due (l : LaneNo) (cause : EndCause) (s : State) : (finishLane l cause s).due = s.due :=
  by rw [finishLane_frame]

@[simp] theorem finishLane_pending (l : LaneNo) (cause : EndCause) (s : State) : (finishLane l cause s).pending = s.pending :=
  by rw [finishLane_frame]

theorem faultLane_frame (l : LaneNo) (s : State) :
    faultLane l s = { s with keyring := (faultLane l s).keyring, engine := (faultLane l s).engine, lanes := (faultLane l s).lanes, link := (faultLane l s).link } :=
  endLane_frame ..

@[simp] theorem faultLane_powered (l : LaneNo) (s : State) : (faultLane l s).powered = s.powered :=
  by rw [faultLane_frame]

@[simp] theorem faultLane_domain (l : LaneNo) (s : State) : (faultLane l s).domain = s.domain :=
  by rw [faultLane_frame]

@[simp] theorem faultLane_clock (l : LaneNo) (s : State) : (faultLane l s).clock = s.clock :=
  by rw [faultLane_frame]

@[simp] theorem faultLane_margin (l : LaneNo) (s : State) : (faultLane l s).margin = s.margin :=
  by rw [faultLane_frame]

@[simp] theorem faultLane_params (l : LaneNo) (s : State) : (faultLane l s).params = s.params :=
  by rw [faultLane_frame]

@[simp] theorem faultLane_revocations (l : LaneNo) (s : State) : (faultLane l s).revocations = s.revocations :=
  by rw [faultLane_frame]

@[simp] theorem faultLane_screens (l : LaneNo) (s : State) : (faultLane l s).screens = s.screens :=
  by rw [faultLane_frame]

@[simp] theorem faultLane_store (l : LaneNo) (s : State) : (faultLane l s).store = s.store :=
  by rw [faultLane_frame]

@[simp] theorem faultLane_due (l : LaneNo) (s : State) : (faultLane l s).due = s.due :=
  by rw [faultLane_frame]

@[simp] theorem faultLane_pending (l : LaneNo) (s : State) : (faultLane l s).pending = s.pending :=
  by rw [faultLane_frame]

theorem stopLane_frame (l : LaneNo) (s : State) :
    stopLane l s = { s with engine := (stopLane l s).engine, lanes := (stopLane l s).lanes, link := (stopLane l s).link } :=
  by
  unfold stopLane
  rw [modifyLane_frame, emptyWorking_frame, emptyWorking_frame]

@[simp] theorem stopLane_powered (l : LaneNo) (s : State) : (stopLane l s).powered = s.powered :=
  by rw [stopLane_frame]

@[simp] theorem stopLane_domain (l : LaneNo) (s : State) : (stopLane l s).domain = s.domain :=
  by rw [stopLane_frame]

@[simp] theorem stopLane_clock (l : LaneNo) (s : State) : (stopLane l s).clock = s.clock :=
  by rw [stopLane_frame]

@[simp] theorem stopLane_margin (l : LaneNo) (s : State) : (stopLane l s).margin = s.margin :=
  by rw [stopLane_frame]

@[simp] theorem stopLane_params (l : LaneNo) (s : State) : (stopLane l s).params = s.params :=
  by rw [stopLane_frame]

@[simp] theorem stopLane_keyring (l : LaneNo) (s : State) : (stopLane l s).keyring = s.keyring :=
  by rw [stopLane_frame]

@[simp] theorem stopLane_revocations (l : LaneNo) (s : State) : (stopLane l s).revocations = s.revocations :=
  by rw [stopLane_frame]

@[simp] theorem stopLane_screens (l : LaneNo) (s : State) : (stopLane l s).screens = s.screens :=
  by rw [stopLane_frame]

@[simp] theorem stopLane_store (l : LaneNo) (s : State) : (stopLane l s).store = s.store :=
  by rw [stopLane_frame]

@[simp] theorem stopLane_due (l : LaneNo) (s : State) : (stopLane l s).due = s.due :=
  by rw [stopLane_frame]

@[simp] theorem stopLane_pending (l : LaneNo) (s : State) : (stopLane l s).pending = s.pending :=
  by rw [stopLane_frame]

theorem judgeLane_frame (now lead : Nat) (l : LaneNo) (s : State) :
    judgeLane now lead l s = { s with keyring := (judgeLane now lead l s).keyring, engine := (judgeLane now lead l s).engine, lanes := (judgeLane now lead l s).lanes, link := (judgeLane now lead l s).link } :=
  by
  unfold judgeLane
  split
  · rfl
  · split
    · exact finishLane_frame ..
    · split
      · exact finishLane_frame ..
      · split
        · rw [post_frame, setLane_frame]
        · rfl

@[simp] theorem judgeLane_powered (now lead : Nat) (l : LaneNo) (s : State) : (judgeLane now lead l s).powered = s.powered :=
  by rw [judgeLane_frame]

@[simp] theorem judgeLane_domain (now lead : Nat) (l : LaneNo) (s : State) : (judgeLane now lead l s).domain = s.domain :=
  by rw [judgeLane_frame]

@[simp] theorem judgeLane_clock (now lead : Nat) (l : LaneNo) (s : State) : (judgeLane now lead l s).clock = s.clock :=
  by rw [judgeLane_frame]

@[simp] theorem judgeLane_margin (now lead : Nat) (l : LaneNo) (s : State) : (judgeLane now lead l s).margin = s.margin :=
  by rw [judgeLane_frame]

@[simp] theorem judgeLane_params (now lead : Nat) (l : LaneNo) (s : State) : (judgeLane now lead l s).params = s.params :=
  by rw [judgeLane_frame]

@[simp] theorem judgeLane_revocations (now lead : Nat) (l : LaneNo) (s : State) : (judgeLane now lead l s).revocations = s.revocations :=
  by rw [judgeLane_frame]

@[simp] theorem judgeLane_screens (now lead : Nat) (l : LaneNo) (s : State) : (judgeLane now lead l s).screens = s.screens :=
  by rw [judgeLane_frame]

@[simp] theorem judgeLane_store (now lead : Nat) (l : LaneNo) (s : State) : (judgeLane now lead l s).store = s.store :=
  by rw [judgeLane_frame]

@[simp] theorem judgeLane_due (now lead : Nat) (l : LaneNo) (s : State) : (judgeLane now lead l s).due = s.due :=
  by rw [judgeLane_frame]

@[simp] theorem judgeLane_pending (now lead : Nat) (l : LaneNo) (s : State) : (judgeLane now lead l s).pending = s.pending :=
  by rw [judgeLane_frame]

theorem stopTimeSweep_frame (s : State) :
    stopTimeSweep s = { s with keyring := (stopTimeSweep s).keyring, engine := (stopTimeSweep s).engine, lanes := (stopTimeSweep s).lanes, link := (stopTimeSweep s).link } :=
  by
  unfold stopTimeSweep
  exact frame_of_foldl _
    (fun t u => u = { t with keyring := u.keyring, engine := u.engine, lanes := u.lanes, link := u.link })
    (fun _ => rfl) (fun a b c h k => by rw [k, h]) (fun t i => judgeLane_frame ..) _ s

@[simp] theorem stopTimeSweep_powered (s : State) : (stopTimeSweep s).powered = s.powered :=
  by rw [stopTimeSweep_frame]

@[simp] theorem stopTimeSweep_domain (s : State) : (stopTimeSweep s).domain = s.domain :=
  by rw [stopTimeSweep_frame]

@[simp] theorem stopTimeSweep_clock (s : State) : (stopTimeSweep s).clock = s.clock :=
  by rw [stopTimeSweep_frame]

@[simp] theorem stopTimeSweep_margin (s : State) : (stopTimeSweep s).margin = s.margin :=
  by rw [stopTimeSweep_frame]

@[simp] theorem stopTimeSweep_params (s : State) : (stopTimeSweep s).params = s.params :=
  by rw [stopTimeSweep_frame]

@[simp] theorem stopTimeSweep_revocations (s : State) : (stopTimeSweep s).revocations = s.revocations :=
  by rw [stopTimeSweep_frame]

@[simp] theorem stopTimeSweep_screens (s : State) : (stopTimeSweep s).screens = s.screens :=
  by rw [stopTimeSweep_frame]

@[simp] theorem stopTimeSweep_store (s : State) : (stopTimeSweep s).store = s.store :=
  by rw [stopTimeSweep_frame]

@[simp] theorem stopTimeSweep_due (s : State) : (stopTimeSweep s).due = s.due :=
  by rw [stopTimeSweep_frame]

@[simp] theorem stopTimeSweep_pending (s : State) : (stopTimeSweep s).pending = s.pending :=
  by rw [stopTimeSweep_frame]

theorem evaluateAndSweep_frame (cause : EvalCause) (s : State) :
    evaluateAndSweep cause s = { s with margin := (evaluateAndSweep cause s).margin, keyring := (evaluateAndSweep cause s).keyring, link := (evaluateAndSweep cause s).link } :=
  by
  unfold evaluateAndSweep
  dsimp only
  split
  · rw [evaluateMargin_frame]
  · rw [windowSweep_frame, evaluateMargin_frame]

@[simp] theorem evaluateAndSweep_powered (cause : EvalCause) (s : State) : (evaluateAndSweep cause s).powered = s.powered :=
  by rw [evaluateAndSweep_frame]

@[simp] theorem evaluateAndSweep_domain (cause : EvalCause) (s : State) : (evaluateAndSweep cause s).domain = s.domain :=
  by rw [evaluateAndSweep_frame]

@[simp] theorem evaluateAndSweep_clock (cause : EvalCause) (s : State) : (evaluateAndSweep cause s).clock = s.clock :=
  by rw [evaluateAndSweep_frame]

@[simp] theorem evaluateAndSweep_params (cause : EvalCause) (s : State) : (evaluateAndSweep cause s).params = s.params :=
  by rw [evaluateAndSweep_frame]

@[simp] theorem evaluateAndSweep_revocations (cause : EvalCause) (s : State) : (evaluateAndSweep cause s).revocations = s.revocations :=
  by rw [evaluateAndSweep_frame]

@[simp] theorem evaluateAndSweep_engine (cause : EvalCause) (s : State) : (evaluateAndSweep cause s).engine = s.engine :=
  by rw [evaluateAndSweep_frame]

@[simp] theorem evaluateAndSweep_screens (cause : EvalCause) (s : State) : (evaluateAndSweep cause s).screens = s.screens :=
  by rw [evaluateAndSweep_frame]

@[simp] theorem evaluateAndSweep_lanes (cause : EvalCause) (s : State) : (evaluateAndSweep cause s).lanes = s.lanes :=
  by rw [evaluateAndSweep_frame]

@[simp] theorem evaluateAndSweep_store (cause : EvalCause) (s : State) : (evaluateAndSweep cause s).store = s.store :=
  by rw [evaluateAndSweep_frame]

@[simp] theorem evaluateAndSweep_due (cause : EvalCause) (s : State) : (evaluateAndSweep cause s).due = s.due :=
  by rw [evaluateAndSweep_frame]

@[simp] theorem evaluateAndSweep_pending (cause : EvalCause) (s : State) : (evaluateAndSweep cause s).pending = s.pending :=
  by rw [evaluateAndSweep_frame]

theorem bothSweeps_frame (order : SweepOrder) (s : State) :
    bothSweeps order s = { s with keyring := (bothSweeps order s).keyring, engine := (bothSweeps order s).engine, lanes := (bothSweeps order s).lanes, link := (bothSweeps order s).link } :=
  by
  unfold bothSweeps
  cases order
  · show stopTimeSweep (windowSweep s) = _
    rw [stopTimeSweep_frame, windowSweep_frame]
  · show windowSweep (stopTimeSweep s) = _
    rw [windowSweep_frame, stopTimeSweep_frame]

@[simp] theorem bothSweeps_powered (order : SweepOrder) (s : State) : (bothSweeps order s).powered = s.powered :=
  by rw [bothSweeps_frame]

@[simp] theorem bothSweeps_domain (order : SweepOrder) (s : State) : (bothSweeps order s).domain = s.domain :=
  by rw [bothSweeps_frame]

@[simp] theorem bothSweeps_clock (order : SweepOrder) (s : State) : (bothSweeps order s).clock = s.clock :=
  by rw [bothSweeps_frame]

@[simp] theorem bothSweeps_margin (order : SweepOrder) (s : State) : (bothSweeps order s).margin = s.margin :=
  by rw [bothSweeps_frame]

@[simp] theorem bothSweeps_params (order : SweepOrder) (s : State) : (bothSweeps order s).params = s.params :=
  by rw [bothSweeps_frame]

@[simp] theorem bothSweeps_revocations (order : SweepOrder) (s : State) : (bothSweeps order s).revocations = s.revocations :=
  by rw [bothSweeps_frame]

@[simp] theorem bothSweeps_screens (order : SweepOrder) (s : State) : (bothSweeps order s).screens = s.screens :=
  by rw [bothSweeps_frame]

@[simp] theorem bothSweeps_store (order : SweepOrder) (s : State) : (bothSweeps order s).store = s.store :=
  by rw [bothSweeps_frame]

@[simp] theorem bothSweeps_due (order : SweepOrder) (s : State) : (bothSweeps order s).due = s.due :=
  by rw [bothSweeps_frame]

@[simp] theorem bothSweeps_pending (order : SweepOrder) (s : State) : (bothSweeps order s).pending = s.pending :=
  by rw [bothSweeps_frame]

end Sys2Proof.Machine
end

