-- ==== Sys2Proof/Laws/Link.lean ====
section
/-! SUPPORT. What each shared operation leaves alone of the Message Link's session state: for an operation `op` that
touches the link, `op_link_frame` says which of its parts change, and the lemmas behind it read one untouched part each
through the operation. -/

namespace Sys2Proof.Machine

theorem bothSweeps_windowFirst (s : State) : bothSweeps .windowFirst s = stopTimeSweep (windowSweep s) := rfl

theorem bothSweeps_stopTimeFirst (s : State) : bothSweeps .stopTimeFirst s = windowSweep (stopTimeSweep s) := rfl

theorem handFrame_link_frame (role : FrameRole) (payload : List Byte) (s : State) :
    (handFrame role payload s).link = { s.link with transmit := (handFrame role payload s).link.transmit, sending := (handFrame role payload s).link.sending } :=
  by unfold handFrame; split <;> rfl

@[simp] theorem handFrame_link_latch (role : FrameRole) (payload : List Byte) (s : State) : (handFrame role payload s).link.latch = s.link.latch :=
  by rw [handFrame_link_frame]

@[simp] theorem handFrame_link_peer (role : FrameRole) (payload : List Byte) (s : State) : (handFrame role payload s).link.peer = s.link.peer :=
  by rw [handFrame_link_frame]

@[simp] theorem handFrame_link_serialHeld (role : FrameRole) (payload : List Byte) (s : State) : (handFrame role payload s).link.serialHeld = s.link.serialHeld :=
  by rw [handFrame_link_frame]

@[simp] theorem handFrame_link_receive (role : FrameRole) (payload : List Byte) (s : State) : (handFrame role payload s).link.receive = s.link.receive :=
  by rw [handFrame_link_frame]

@[simp] theorem handFrame_link_notices (role : FrameRole) (payload : List Byte) (s : State) : (handFrame role payload s).link.notices = s.link.notices :=
  by rw [handFrame_link_frame]

@[simp] theorem handFrame_link_startCause (role : FrameRole) (payload : List Byte) (s : State) : (handFrame role payload s).link.startCause = s.link.startCause :=
  by rw [handFrame_link_frame]

@[simp] theorem handFrame_link_armed (role : FrameRole) (payload : List Byte) (s : State) : (handFrame role payload s).link.armed = s.link.armed :=
  by rw [handFrame_link_frame]

@[simp] theorem handFrame_link_hold (role : FrameRole) (payload : List Byte) (s : State) : (handFrame role payload s).link.hold = s.link.hold :=
  by rw [handFrame_link_frame]

@[simp] theorem handFrame_link_cursor (role : FrameRole) (payload : List Byte) (s : State) : (handFrame role payload s).link.cursor = s.link.cursor :=
  by rw [handFrame_link_frame]

@[simp] theorem handFrame_link_pendingSync (role : FrameRole) (payload : List Byte) (s : State) : (handFrame role payload s).link.pendingSync = s.link.pendingSync :=
  by rw [handFrame_link_frame]

@[simp] theorem handFrame_link_restart (role : FrameRole) (payload : List Byte) (s : State) : (handFrame role payload s).link.restart = s.link.restart :=
  by rw [handFrame_link_frame]

theorem handReply_link_frame (role : FrameRole) (peer : Option Peer) (payload : List Byte) (s : State) :
    (handReply role peer payload s).link = { s.link with transmit := (handReply role peer payload s).link.transmit, sending := (handReply role peer payload s).link.sending } :=
  by unfold handReply; split <;> rfl

@[simp] theorem handReply_link_latch (role : FrameRole) (peer : Option Peer) (payload : List Byte) (s : State) : (handReply role peer payload s).link.latch = s.link.latch :=
  by rw [handReply_link_frame]

@[simp] theorem handReply_link_peer (role : FrameRole) (peer : Option Peer) (payload : List Byte) (s : State) : (handReply role peer payload s).link.peer = s.link.peer :=
  by rw [handReply_link_frame]

@[simp] theorem handReply_link_serialHeld (role : FrameRole) (peer : Option Peer) (payload : List Byte) (s : State) : (handReply role peer payload s).link.serialHeld = s.link.serialHeld :=
  by rw [handReply_link_frame]

@[simp] theorem handReply_link_receive (role : FrameRole) (peer : Option Peer) (payload : List Byte) (s : State) : (handReply role peer payload s).link.receive = s.link.receive :=
  by rw [handReply_link_frame]

@[simp] theorem handReply_link_notices (role : FrameRole) (peer : Option Peer) (payload : List Byte) (s : State) : (handReply role peer payload s).link.notices = s.link.notices :=
  by rw [handReply_link_frame]

@[simp] theorem handReply_link_startCause (role : FrameRole) (peer : Option Peer) (payload : List Byte) (s : State) : (handReply role peer payload s).link.startCause = s.link.startCause :=
  by rw [handReply_link_frame]

@[simp] theorem handReply_link_armed (role : FrameRole) (peer : Option Peer) (payload : List Byte) (s : State) : (handReply role peer payload s).link.armed = s.link.armed :=
  by rw [handReply_link_frame]

@[simp] theorem handReply_link_hold (role : FrameRole) (peer : Option Peer) (payload : List Byte) (s : State) : (handReply role peer payload s).link.hold = s.link.hold :=
  by rw [handReply_link_frame]

@[simp] theorem handReply_link_cursor (role : FrameRole) (peer : Option Peer) (payload : List Byte) (s : State) : (handReply role peer payload s).link.cursor = s.link.cursor :=
  by rw [handReply_link_frame]

@[simp] theorem handReply_link_pendingSync (role : FrameRole) (peer : Option Peer) (payload : List Byte) (s : State) : (handReply role peer payload s).link.pendingSync = s.link.pendingSync :=
  by rw [handReply_link_frame]

@[simp] theorem handReply_link_restart (role : FrameRole) (peer : Option Peer) (payload : List Byte) (s : State) : (handReply role peer payload s).link.restart = s.link.restart :=
  by rw [handReply_link_frame]

theorem answer_link_frame (r : Request) (status : Status) (body : List Byte) (s : State) :
    (answer r status body s).link = { s.link with transmit := (answer r status body s).link.transmit, sending := (answer r status body s).link.sending } :=
  handReply_link_frame ..

@[simp] theorem answer_link_latch (r : Request) (status : Status) (body : List Byte) (s : State) : (answer r status body s).link.latch = s.link.latch :=
  by rw [answer_link_frame]

@[simp] theorem answer_link_peer (r : Request) (status : Status) (body : List Byte) (s : State) : (answer r status body s).link.peer = s.link.peer :=
  by rw [answer_link_frame]

@[simp] theorem answer_link_serialHeld (r : Request) (status : Status) (body : List Byte) (s : State) : (answer r status body s).link.serialHeld = s.link.serialHeld :=
  by rw [answer_link_frame]

@[simp] theorem answer_link_receive (r : Request) (status : Status) (body : List Byte) (s : State) : (answer r status body s).link.receive = s.link.receive :=
  by rw [answer_link_frame]

@[simp] theorem answer_link_notices (r : Request) (status : Status) (body : List Byte) (s : State) : (answer r status body s).link.notices = s.link.notices :=
  by rw [answer_link_frame]

@[simp] theorem answer_link_startCause (r : Request) (status : Status) (body : List Byte) (s : State) : (answer r status body s).link.startCause = s.link.startCause :=
  by rw [answer_link_frame]

@[simp] theorem answer_link_armed (r : Request) (status : Status) (body : List Byte) (s : State) : (answer r status body s).link.armed = s.link.armed :=
  by rw [answer_link_frame]

@[simp] theorem answer_link_hold (r : Request) (status : Status) (body : List Byte) (s : State) : (answer r status body s).link.hold = s.link.hold :=
  by rw [answer_link_frame]

@[simp] theorem answer_link_cursor (r : Request) (status : Status) (body : List Byte) (s : State) : (answer r status body s).link.cursor = s.link.cursor :=
  by rw [answer_link_frame]

@[simp] theorem answer_link_pendingSync (r : Request) (status : Status) (body : List Byte) (s : State) : (answer r status body s).link.pendingSync = s.link.pendingSync :=
  by rw [answer_link_frame]

@[simp] theorem answer_link_restart (r : Request) (status : Status) (body : List Byte) (s : State) : (answer r status body s).link.restart = s.link.restart :=
  by rw [answer_link_frame]

theorem judgeAttention_link_frame (s : State) :
    (judgeAttention s).link = { s.link with transmit := (judgeAttention s).link.transmit, sending := (judgeAttention s).link.sending, armed := (judgeAttention s).link.armed } :=
  by
  unfold judgeAttention
  split
  · rw [handFrame_link_frame]
  · rfl

@[simp] theorem judgeAttention_link_latch (s : State) : (judgeAttention s).link.latch = s.link.latch :=
  by rw [judgeAttention_link_frame]

@[simp] theorem judgeAttention_link_peer (s : State) : (judgeAttention s).link.peer = s.link.peer :=
  by rw [judgeAttention_link_frame]

@[simp] theorem judgeAttention_link_serialHeld (s : State) : (judgeAttention s).link.serialHeld = s.link.serialHeld :=
  by rw [judgeAttention_link_frame]

@[simp] theorem judgeAttention_link_receive (s : State) : (judgeAttention s).link.receive = s.link.receive :=
  by rw [judgeAttention_link_frame]

@[simp] theorem judgeAttention_link_notices (s : State) : (judgeAttention s).link.notices = s.link.notices :=
  by rw [judgeAttention_link_frame]

@[simp] theorem judgeAttention_link_startCause (s : State) : (judgeAttention s).link.startCause = s.link.startCause :=
  by rw [judgeAttention_link_frame]

@[simp] theorem judgeAttention_link_hold (s : State) : (judgeAttention s).link.hold = s.link.hold :=
  by rw [judgeAttention_link_frame]

@[simp] theorem judgeAttention_link_cursor (s : State) : (judgeAttention s).link.cursor = s.link.cursor :=
  by rw [judgeAttention_link_frame]

@[simp] theorem judgeAttention_link_pendingSync (s : State) : (judgeAttention s).link.pendingSync = s.link.pendingSync :=
  by rw [judgeAttention_link_frame]

@[simp] theorem judgeAttention_link_restart (s : State) : (judgeAttention s).link.restart = s.link.restart :=
  by rw [judgeAttention_link_frame]

theorem addNotice_link_frame (n : Notice) (s : State) :
    (addNotice n s).link = { s.link with notices := (addNotice n s).link.notices } :=
  rfl

theorem post_link_frame (n : Notice) (s : State) :
    (post n s).link = { s.link with transmit := (post n s).link.transmit, sending := (post n s).link.sending, notices := (post n s).link.notices, armed := (post n s).link.armed } :=
  by
  unfold post
  split
  · rw [judgeAttention_link_frame]; rfl
  · rfl

@[simp] theorem post_link_latch (n : Notice) (s : State) : (post n s).link.latch = s.link.latch :=
  by rw [post_link_frame]

@[simp] theorem post_link_peer (n : Notice) (s : State) : (post n s).link.peer = s.link.peer :=
  by rw [post_link_frame]

@[simp] theorem post_link_serialHeld (n : Notice) (s : State) : (post n s).link.serialHeld = s.link.serialHeld :=
  by rw [post_link_frame]

@[simp] theorem post_link_receive (n : Notice) (s : State) : (post n s).link.receive = s.link.receive :=
  by rw [post_link_frame]

@[simp] theorem post_link_startCause (n : Notice) (s : State) : (post n s).link.startCause = s.link.startCause :=
  by rw [post_link_frame]

@[simp] theorem post_link_hold (n : Notice) (s : State) : (post n s).link.hold = s.link.hold :=
  by rw [post_link_frame]

@[simp] theorem post_link_cursor (n : Notice) (s : State) : (post n s).link.cursor = s.link.cursor :=
  by rw [post_link_frame]

@[simp] theorem post_link_pendingSync (n : Notice) (s : State) : (post n s).link.pendingSync = s.link.pendingSync :=
  by rw [post_link_frame]

@[simp] theorem post_link_restart (n : Notice) (s : State) : (post n s).link.restart = s.link.restart :=
  by rw [post_link_frame]

theorem armWhenEmpty_link_frame (s : State) :
    (armWhenEmpty s).link = { s.link with transmit := (armWhenEmpty s).link.transmit, sending := (armWhenEmpty s).link.sending, armed := (armWhenEmpty s).link.armed } :=
  by
  unfold armWhenEmpty
  split
  · rw [judgeAttention_link_frame]
  · rfl

@[simp] theorem armWhenEmpty_link_latch (s : State) : (armWhenEmpty s).link.latch = s.link.latch :=
  by rw [armWhenEmpty_link_frame]

@[simp] theorem armWhenEmpty_link_peer (s : State) : (armWhenEmpty s).link.peer = s.link.peer :=
  by rw [armWhenEmpty_link_frame]

@[simp] theorem armWhenEmpty_link_serialHeld (s : State) : (armWhenEmpty s).link.serialHeld = s.link.serialHeld :=
  by rw [armWhenEmpty_link_frame]

@[simp] theorem armWhenEmpty_link_receive (s : State) : (armWhenEmpty s).link.receive = s.link.receive :=
  by rw [armWhenEmpty_link_frame]

@[simp] theorem armWhenEmpty_link_notices (s : State) : (armWhenEmpty s).link.notices = s.link.notices :=
  by rw [armWhenEmpty_link_frame]

@[simp] theorem armWhenEmpty_link_startCause (s : State) : (armWhenEmpty s).link.startCause = s.link.startCause :=
  by rw [armWhenEmpty_link_frame]

@[simp] theorem armWhenEmpty_link_hold (s : State) : (armWhenEmpty s).link.hold = s.link.hold :=
  by rw [armWhenEmpty_link_frame]

@[simp] theorem armWhenEmpty_link_cursor (s : State) : (armWhenEmpty s).link.cursor = s.link.cursor :=
  by rw [armWhenEmpty_link_frame]

@[simp] theorem armWhenEmpty_link_pendingSync (s : State) : (armWhenEmpty s).link.pendingSync = s.link.pendingSync :=
  by rw [armWhenEmpty_link_frame]

@[simp] theorem armWhenEmpty_link_restart (s : State) : (armWhenEmpty s).link.restart = s.link.restart :=
  by rw [armWhenEmpty_link_frame]

theorem bufferRequest_link_frame (r : Request) (s : State) :
    (bufferRequest r s).link = { s.link with transmit := (bufferRequest r s).link.transmit, sending := (bufferRequest r s).link.sending, notices := (bufferRequest r s).link.notices, armed := (bufferRequest r s).link.armed, receive := (bufferRequest r s).link.receive } :=
  by
  unfold bufferRequest
  split
  · rfl
  · rw [post_link_frame]

@[simp] theorem bufferRequest_link_latch (r : Request) (s : State) : (bufferRequest r s).link.latch = s.link.latch :=
  by rw [bufferRequest_link_frame]

@[simp] theorem bufferRequest_link_peer (r : Request) (s : State) : (bufferRequest r s).link.peer = s.link.peer :=
  by rw [bufferRequest_link_frame]

@[simp] theorem bufferRequest_link_serialHeld (r : Request) (s : State) : (bufferRequest r s).link.serialHeld = s.link.serialHeld :=
  by rw [bufferRequest_link_frame]

@[simp] theorem bufferRequest_link_startCause (r : Request) (s : State) : (bufferRequest r s).link.startCause = s.link.startCause :=
  by rw [bufferRequest_link_frame]

@[simp] theorem bufferRequest_link_hold (r : Request) (s : State) : (bufferRequest r s).link.hold = s.link.hold :=
  by rw [bufferRequest_link_frame]

@[simp] theorem bufferRequest_link_cursor (r : Request) (s : State) : (bufferRequest r s).link.cursor = s.link.cursor :=
  by rw [bufferRequest_link_frame]

@[simp] theorem bufferRequest_link_pendingSync (r : Request) (s : State) : (bufferRequest r s).link.pendingSync = s.link.pendingSync :=
  by rw [bufferRequest_link_frame]

@[simp] theorem bufferRequest_link_restart (r : Request) (s : State) : (bufferRequest r s).link.restart = s.link.restart :=
  by rw [bufferRequest_link_frame]

theorem withoutOldest_link_frame (s : State) :
    (withoutOldest s).link = { s.link with receive := (withoutOldest s).link.receive } :=
  rfl

theorem releaseSync_link_frame (s : State) :
    (releaseSync s).link = { s.link with transmit := (releaseSync s).link.transmit, sending := (releaseSync s).link.sending, pendingSync := (releaseSync s).link.pendingSync } :=
  by
  unfold releaseSync
  split
  · rfl
  · split
    · rw [handFrame_link_frame]
    · rfl

@[simp] theorem releaseSync_link_latch (s : State) : (releaseSync s).link.latch = s.link.latch :=
  by rw [releaseSync_link_frame]

@[simp] theorem releaseSync_link_peer (s : State) : (releaseSync s).link.peer = s.link.peer :=
  by rw [releaseSync_link_frame]

@[simp] theorem releaseSync_link_serialHeld (s : State) : (releaseSync s).link.serialHeld = s.link.serialHeld :=
  by rw [releaseSync_link_frame]

@[simp] theorem releaseSync_link_receive (s : State) : (releaseSync s).link.receive = s.link.receive :=
  by rw [releaseSync_link_frame]

@[simp] theorem releaseSync_link_notices (s : State) : (releaseSync s).link.notices = s.link.notices :=
  by rw [releaseSync_link_frame]

@[simp] theorem releaseSync_link_startCause (s : State) : (releaseSync s).link.startCause = s.link.startCause :=
  by rw [releaseSync_link_frame]

@[simp] theorem releaseSync_link_armed (s : State) : (releaseSync s).link.armed = s.link.armed :=
  by rw [releaseSync_link_frame]

@[simp] theorem releaseSync_link_hold (s : State) : (releaseSync s).link.hold = s.link.hold :=
  by rw [releaseSync_link_frame]

@[simp] theorem releaseSync_link_cursor (s : State) : (releaseSync s).link.cursor = s.link.cursor :=
  by rw [releaseSync_link_frame]

@[simp] theorem releaseSync_link_restart (s : State) : (releaseSync s).link.restart = s.link.restart :=
  by rw [releaseSync_link_frame]

theorem dropJobs_link_frame (p : JobItem → Bool) (s : State) :
    (dropJobs p s).link = { s.link with transmit := (dropJobs p s).link.transmit, sending := (dropJobs p s).link.sending, pendingSync := (dropJobs p s).link.pendingSync } :=
  by unfold dropJobs; rw [releaseSync_link_frame]

@[simp] theorem dropJobs_link_latch (p : JobItem → Bool) (s : State) : (dropJobs p s).link.latch = s.link.latch :=
  by rw [dropJobs_link_frame]

@[simp] theorem dropJobs_link_peer (p : JobItem → Bool) (s : State) : (dropJobs p s).link.peer = s.link.peer :=
  by rw [dropJobs_link_frame]

@[simp] theorem dropJobs_link_serialHeld (p : JobItem → Bool) (s : State) : (dropJobs p s).link.serialHeld = s.link.serialHeld :=
  by rw [dropJobs_link_frame]

@[simp] theorem dropJobs_link_receive (p : JobItem → Bool) (s : State) : (dropJobs p s).link.receive = s.link.receive :=
  by rw [dropJobs_link_frame]

@[simp] theorem dropJobs_link_notices (p : JobItem → Bool) (s : State) : (dropJobs p s).link.notices = s.link.notices :=
  by rw [dropJobs_link_frame]

@[simp] theorem dropJobs_link_startCause (p : JobItem → Bool) (s : State) : (dropJobs p s).link.startCause = s.link.startCause :=
  by rw [dropJobs_link_frame]

@[simp] theorem dropJobs_link_armed (p : JobItem → Bool) (s : State) : (dropJobs p s).link.armed = s.link.armed :=
  by rw [dropJobs_link_frame]

@[simp] theorem dropJobs_link_hold (p : JobItem → Bool) (s : State) : (dropJobs p s).link.hold = s.link.hold :=
  by rw [dropJobs_link_frame]

@[simp] theorem dropJobs_link_cursor (p : JobItem → Bool) (s : State) : (dropJobs p s).link.cursor = s.link.cursor :=
  by rw [dropJobs_link_frame]

@[simp] theorem dropJobs_link_restart (p : JobItem → Bool) (s : State) : (dropJobs p s).link.restart = s.link.restart :=
  by rw [dropJobs_link_frame]

theorem postEntry_link_frame (slot : SlotNo) (st : BundleState) (s : State) :
    (postEntry slot st s).link = { s.link with transmit := (postEntry slot st s).link.transmit, sending := (postEntry slot st s).link.sending, notices := (postEntry slot st s).link.notices, armed := (postEntry slot st s).link.armed } :=
  by
  unfold postEntry
  split
  · rw [post_link_frame]
  · rw [post_link_frame]
  · rw [post_link_frame]
  · rfl

@[simp] theorem postEntry_link_latch (slot : SlotNo) (st : BundleState) (s : State) : (postEntry slot st s).link.latch = s.link.latch :=
  by rw [postEntry_link_frame]

@[simp] theorem postEntry_link_peer (slot : SlotNo) (st : BundleState) (s : State) : (postEntry slot st s).link.peer = s.link.peer :=
  by rw [postEntry_link_frame]

@[simp] theorem postEntry_link_serialHeld (slot : SlotNo) (st : BundleState) (s : State) : (postEntry slot st s).link.serialHeld = s.link.serialHeld :=
  by rw [postEntry_link_frame]

@[simp] theorem postEntry_link_receive (slot : SlotNo) (st : BundleState) (s : State) : (postEntry slot st s).link.receive = s.link.receive :=
  by rw [postEntry_link_frame]

@[simp] theorem postEntry_link_startCause (slot : SlotNo) (st : BundleState) (s : State) : (postEntry slot st s).link.startCause = s.link.startCause :=
  by rw [postEntry_link_frame]

@[simp] theorem postEntry_link_hold (slot : SlotNo) (st : BundleState) (s : State) : (postEntry slot st s).link.hold = s.link.hold :=
  by rw [postEntry_link_frame]

@[simp] theorem postEntry_link_cursor (slot : SlotNo) (st : BundleState) (s : State) : (postEntry slot st s).link.cursor = s.link.cursor :=
  by rw [postEntry_link_frame]

@[simp] theorem postEntry_link_pendingSync (slot : SlotNo) (st : BundleState) (s : State) : (postEntry slot st s).link.pendingSync = s.link.pendingSync :=
  by rw [postEntry_link_frame]

@[simp] theorem postEntry_link_restart (slot : SlotNo) (st : BundleState) (s : State) : (postEntry slot st s).link.restart = s.link.restart :=
  by rw [postEntry_link_frame]

theorem enterWindow_link_frame (slot : SlotNo) (b : Bundle) (st : BundleState) (s : State) :
    (enterWindow slot b st s).link = { s.link with transmit := (enterWindow slot b st s).link.transmit, sending := (enterWindow slot b st s).link.sending, notices := (enterWindow slot b st s).link.notices, armed := (enterWindow slot b st s).link.armed } :=
  by
  unfold enterWindow
  rw [postEntry_link_frame]
  split <;> rfl

@[simp] theorem enterWindow_link_latch (slot : SlotNo) (b : Bundle) (st : BundleState) (s : State) : (enterWindow slot b st s).link.latch = s.link.latch :=
  by rw [enterWindow_link_frame]

@[simp] theorem enterWindow_link_peer (slot : SlotNo) (b : Bundle) (st : BundleState) (s : State) : (enterWindow slot b st s).link.peer = s.link.peer :=
  by rw [enterWindow_link_frame]

@[simp] theorem enterWindow_link_serialHeld (slot : SlotNo) (b : Bundle) (st : BundleState) (s : State) : (enterWindow slot b st s).link.serialHeld = s.link.serialHeld :=
  by rw [enterWindow_link_frame]

@[simp] theorem enterWindow_link_receive (slot : SlotNo) (b : Bundle) (st : BundleState) (s : State) : (enterWindow slot b st s).link.receive = s.link.receive :=
  by rw [enterWindow_link_frame]

@[simp] theorem enterWindow_link_startCause (slot : SlotNo) (b : Bundle) (st : BundleState) (s : State) : (enterWindow slot b st s).link.startCause = s.link.startCause :=
  by rw [enterWindow_link_frame]

@[simp] theorem enterWindow_link_hold (slot : SlotNo) (b : Bundle) (st : BundleState) (s : State) : (enterWindow slot b st s).link.hold = s.link.hold :=
  by rw [enterWindow_link_frame]

@[simp] theorem enterWindow_link_cursor (slot : SlotNo) (b : Bundle) (st : BundleState) (s : State) : (enterWindow slot b st s).link.cursor = s.link.cursor :=
  by rw [enterWindow_link_frame]

@[simp] theorem enterWindow_link_pendingSync (slot : SlotNo) (b : Bundle) (st : BundleState) (s : State) : (enterWindow slot b st s).link.pendingSync = s.link.pendingSync :=
  by rw [enterWindow_link_frame]

@[simp] theorem enterWindow_link_restart (slot : SlotNo) (b : Bundle) (st : BundleState) (s : State) : (enterWindow slot b st s).link.restart = s.link.restart :=
  by rw [enterWindow_link_frame]

theorem judgeSlot_link_frame (now m : Nat) (slot : SlotNo) (s : State) :
    (judgeSlot now m slot s).link = { s.link with transmit := (judgeSlot now m slot s).link.transmit, sending := (judgeSlot now m slot s).link.sending, notices := (judgeSlot now m slot s).link.notices, armed := (judgeSlot now m slot s).link.armed } :=
  by
  unfold judgeSlot
  split
  · rfl
  · split
    · rw [enterWindow_link_frame]
    · rfl

@[simp] theorem judgeSlot_link_latch (now m : Nat) (slot : SlotNo) (s : State) : (judgeSlot now m slot s).link.latch = s.link.latch :=
  by rw [judgeSlot_link_frame]

@[simp] theorem judgeSlot_link_peer (now m : Nat) (slot : SlotNo) (s : State) : (judgeSlot now m slot s).link.peer = s.link.peer :=
  by rw [judgeSlot_link_frame]

@[simp] theorem judgeSlot_link_serialHeld (now m : Nat) (slot : SlotNo) (s : State) : (judgeSlot now m slot s).link.serialHeld = s.link.serialHeld :=
  by rw [judgeSlot_link_frame]

@[simp] theorem judgeSlot_link_receive (now m : Nat) (slot : SlotNo) (s : State) : (judgeSlot now m slot s).link.receive = s.link.receive :=
  by rw [judgeSlot_link_frame]

@[simp] theorem judgeSlot_link_startCause (now m : Nat) (slot : SlotNo) (s : State) : (judgeSlot now m slot s).link.startCause = s.link.startCause :=
  by rw [judgeSlot_link_frame]

@[simp] theorem judgeSlot_link_hold (now m : Nat) (slot : SlotNo) (s : State) : (judgeSlot now m slot s).link.hold = s.link.hold :=
  by rw [judgeSlot_link_frame]

@[simp] theorem judgeSlot_link_cursor (now m : Nat) (slot : SlotNo) (s : State) : (judgeSlot now m slot s).link.cursor = s.link.cursor :=
  by rw [judgeSlot_link_frame]

@[simp] theorem judgeSlot_link_pendingSync (now m : Nat) (slot : SlotNo) (s : State) : (judgeSlot now m slot s).link.pendingSync = s.link.pendingSync :=
  by rw [judgeSlot_link_frame]

@[simp] theorem judgeSlot_link_restart (now m : Nat) (slot : SlotNo) (s : State) : (judgeSlot now m slot s).link.restart = s.link.restart :=
  by rw [judgeSlot_link_frame]

theorem windowSweep_link_frame (s : State) :
    (windowSweep s).link = { s.link with transmit := (windowSweep s).link.transmit, sending := (windowSweep s).link.sending, notices := (windowSweep s).link.notices, armed := (windowSweep s).link.armed } :=
  by
  unfold windowSweep
  exact frame_of_foldl _ (fun t u => u.link = { t.link with transmit := u.link.transmit, sending := u.link.sending, notices := u.link.notices, armed := u.link.armed }) (fun _ => rfl)
    (fun a b c h k => by rw [k, h]) (fun t i => judgeSlot_link_frame ..) _ s

@[simp] theorem windowSweep_link_latch (s : State) : (windowSweep s).link.latch = s.link.latch :=
  by rw [windowSweep_link_frame]

@[simp] theorem windowSweep_link_peer (s : State) : (windowSweep s).link.peer = s.link.peer :=
  by rw [windowSweep_link_frame]

@[simp] theorem windowSweep_link_serialHeld (s : State) : (windowSweep s).link.serialHeld = s.link.serialHeld :=
  by rw [windowSweep_link_frame]

@[simp] theorem windowSweep_link_receive (s : State) : (windowSweep s).link.receive = s.link.receive :=
  by rw [windowSweep_link_frame]

@[simp] theorem windowSweep_link_startCause (s : State) : (windowSweep s).link.startCause = s.link.startCause :=
  by rw [windowSweep_link_frame]

@[simp] theorem windowSweep_link_hold (s : State) : (windowSweep s).link.hold = s.link.hold :=
  by rw [windowSweep_link_frame]

@[simp] theorem windowSweep_link_cursor (s : State) : (windowSweep s).link.cursor = s.link.cursor :=
  by rw [windowSweep_link_frame]

@[simp] theorem windowSweep_link_pendingSync (s : State) : (windowSweep s).link.pendingSync = s.link.pendingSync :=
  by rw [windowSweep_link_frame]

@[simp] theorem windowSweep_link_restart (s : State) : (windowSweep s).link.restart = s.link.restart :=
  by rw [windowSweep_link_frame]

theorem evaluateMargin_link_frame (cause : EvalCause) (s : State) :
    (evaluateMargin cause s).link = { s.link with transmit := (evaluateMargin cause s).link.transmit, sending := (evaluateMargin cause s).link.sending, notices := (evaluateMargin cause s).link.notices, armed := (evaluateMargin cause s).link.armed } :=
  by
  unfold evaluateMargin
  dsimp only
  split
  · rfl
  · rw [post_link_frame]

@[simp] theorem evaluateMargin_link_latch (cause : EvalCause) (s : State) : (evaluateMargin cause s).link.latch = s.link.latch :=
  by rw [evaluateMargin_link_frame]

@[simp] theorem evaluateMargin_link_peer (cause : EvalCause) (s : State) : (evaluateMargin cause s).link.peer = s.link.peer :=
  by rw [evaluateMargin_link_frame]

@[simp] theorem evaluateMargin_link_serialHeld (cause : EvalCause) (s : State) : (evaluateMargin cause s).link.serialHeld = s.link.serialHeld :=
  by rw [evaluateMargin_link_frame]

@[simp] theorem evaluateMargin_link_receive (cause : EvalCause) (s : State) : (evaluateMargin cause s).link.receive = s.link.receive :=
  by rw [evaluateMargin_link_frame]

@[simp] theorem evaluateMargin_link_startCause (cause : EvalCause) (s : State) : (evaluateMargin cause s).link.startCause = s.link.startCause :=
  by rw [evaluateMargin_link_frame]

@[simp] theorem evaluateMargin_link_hold (cause : EvalCause) (s : State) : (evaluateMargin cause s).link.hold = s.link.hold :=
  by rw [evaluateMargin_link_frame]

@[simp] theorem evaluateMargin_link_cursor (cause : EvalCause) (s : State) : (evaluateMargin cause s).link.cursor = s.link.cursor :=
  by rw [evaluateMargin_link_frame]

@[simp] theorem evaluateMargin_link_pendingSync (cause : EvalCause) (s : State) : (evaluateMargin cause s).link.pendingSync = s.link.pendingSync :=
  by rw [evaluateMargin_link_frame]

@[simp] theorem evaluateMargin_link_restart (cause : EvalCause) (s : State) : (evaluateMargin cause s).link.restart = s.link.restart :=
  by rw [evaluateMargin_link_frame]

theorem emptySlot_link_frame (l : LaneNo) (n : SlotName) (s : State) :
    (emptySlot l n s).link = { s.link with transmit := (emptySlot l n s).link.transmit, sending := (emptySlot l n s).link.sending, pendingSync := (emptySlot l n s).link.pendingSync } :=
  by unfold emptySlot; rw [dropJobs_link_frame, modifyLane_link]

@[simp] theorem emptySlot_link_latch (l : LaneNo) (n : SlotName) (s : State) : (emptySlot l n s).link.latch = s.link.latch :=
  by rw [emptySlot_link_frame]

@[simp] theorem emptySlot_link_peer (l : LaneNo) (n : SlotName) (s : State) : (emptySlot l n s).link.peer = s.link.peer :=
  by rw [emptySlot_link_frame]

@[simp] theorem emptySlot_link_serialHeld (l : LaneNo) (n : SlotName) (s : State) : (emptySlot l n s).link.serialHeld = s.link.serialHeld :=
  by rw [emptySlot_link_frame]

@[simp] theorem emptySlot_link_receive (l : LaneNo) (n : SlotName) (s : State) : (emptySlot l n s).link.receive = s.link.receive :=
  by rw [emptySlot_link_frame]

@[simp] theorem emptySlot_link_notices (l : LaneNo) (n : SlotName) (s : State) : (emptySlot l n s).link.notices = s.link.notices :=
  by rw [emptySlot_link_frame]

@[simp] theorem emptySlot_link_startCause (l : LaneNo) (n : SlotName) (s : State) : (emptySlot l n s).link.startCause = s.link.startCause :=
  by rw [emptySlot_link_frame]

@[simp] theorem emptySlot_link_armed (l : LaneNo) (n : SlotName) (s : State) : (emptySlot l n s).link.armed = s.link.armed :=
  by rw [emptySlot_link_frame]

@[simp] theorem emptySlot_link_hold (l : LaneNo) (n : SlotName) (s : State) : (emptySlot l n s).link.hold = s.link.hold :=
  by rw [emptySlot_link_frame]

@[simp] theorem emptySlot_link_cursor (l : LaneNo) (n : SlotName) (s : State) : (emptySlot l n s).link.cursor = s.link.cursor :=
  by rw [emptySlot_link_frame]

@[simp] theorem emptySlot_link_restart (l : LaneNo) (n : SlotName) (s : State) : (emptySlot l n s).link.restart = s.link.restart :=
  by rw [emptySlot_link_frame]

theorem emptyWorking_link_frame (l : LaneNo) (n : SlotName) (s : State) :
    (emptyWorking l n s).link = { s.link with transmit := (emptyWorking l n s).link.transmit, sending := (emptyWorking l n s).link.sending, pendingSync := (emptyWorking l n s).link.pendingSync } :=
  by
  unfold emptyWorking
  split
  · split
    · rw [emptySlot_link_frame]
    · rfl
  · rfl

@[simp] theorem emptyWorking_link_latch (l : LaneNo) (n : SlotName) (s : State) : (emptyWorking l n s).link.latch = s.link.latch :=
  by rw [emptyWorking_link_frame]

@[simp] theorem emptyWorking_link_peer (l : LaneNo) (n : SlotName) (s : State) : (emptyWorking l n s).link.peer = s.link.peer :=
  by rw [emptyWorking_link_frame]

@[simp] theorem emptyWorking_link_serialHeld (l : LaneNo) (n : SlotName) (s : State) : (emptyWorking l n s).link.serialHeld = s.link.serialHeld :=
  by rw [emptyWorking_link_frame]

@[simp] theorem emptyWorking_link_receive (l : LaneNo) (n : SlotName) (s : State) : (emptyWorking l n s).link.receive = s.link.receive :=
  by rw [emptyWorking_link_frame]

@[simp] theorem emptyWorking_link_notices (l : LaneNo) (n : SlotName) (s : State) : (emptyWorking l n s).link.notices = s.link.notices :=
  by rw [emptyWorking_link_frame]

@[simp] theorem emptyWorking_link_startCause (l : LaneNo) (n : SlotName) (s : State) : (emptyWorking l n s).link.startCause = s.link.startCause :=
  by rw [emptyWorking_link_frame]

@[simp] theorem emptyWorking_link_armed (l : LaneNo) (n : SlotName) (s : State) : (emptyWorking l n s).link.armed = s.link.armed :=
  by rw [emptyWorking_link_frame]

@[simp] theorem emptyWorking_link_hold (l : LaneNo) (n : SlotName) (s : State) : (emptyWorking l n s).link.hold = s.link.hold :=
  by rw [emptyWorking_link_frame]

@[simp] theorem emptyWorking_link_cursor (l : LaneNo) (n : SlotName) (s : State) : (emptyWorking l n s).link.cursor = s.link.cursor :=
  by rw [emptyWorking_link_frame]

@[simp] theorem emptyWorking_link_restart (l : LaneNo) (n : SlotName) (s : State) : (emptyWorking l n s).link.restart = s.link.restart :=
  by rw [emptyWorking_link_frame]

theorem endLane_link_frame (l : LaneNo) (status : LaneStatus) (cause : EndCause) (notice : Notice) (s : State) :
    (endLane l status cause notice s).link = { s.link with transmit := (endLane l status cause notice s).link.transmit, sending := (endLane l status cause notice s).link.sending, notices := (endLane l status cause notice s).link.notices, armed := (endLane l status cause notice s).link.armed, pendingSync := (endLane l status cause notice s).link.pendingSync } :=
  by
  unfold endLane
  split
  · rfl
  · dsimp only
    rw [post_link_frame, returnUse_link, modifyLane_link, emptySlot_link_frame, emptySlot_link_frame]

@[simp] theorem endLane_link_latch (l : LaneNo) (status : LaneStatus) (cause : EndCause) (notice : Notice) (s : State) : (endLane l status cause notice s).link.latch = s.link.latch :=
  by rw [endLane_link_frame]

@[simp] theorem endLane_link_peer (l : LaneNo) (status : LaneStatus) (cause : EndCause) (notice : Notice) (s : State) : (endLane l status cause notice s).link.peer = s.link.peer :=
  by rw [endLane_link_frame]

@[simp] theorem endLane_link_serialHeld (l : LaneNo) (status : LaneStatus) (cause : EndCause) (notice : Notice) (s : State) : (endLane l status cause notice s).link.serialHeld = s.link.serialHeld :=
  by rw [endLane_link_frame]

@[simp] theorem endLane_link_receive (l : LaneNo) (status : LaneStatus) (cause : EndCause) (notice : Notice) (s : State) : (endLane l status cause notice s).link.receive = s.link.receive :=
  by rw [endLane_link_frame]

@[simp] theorem endLane_link_startCause (l : LaneNo) (status : LaneStatus) (cause : EndCause) (notice : Notice) (s : State) : (endLane l status cause notice s).link.startCause = s.link.startCause :=
  by rw [endLane_link_frame]

@[simp] theorem endLane_link_hold (l : LaneNo) (status : LaneStatus) (cause : EndCause) (notice : Notice) (s : State) : (endLane l status cause notice s).link.hold = s.link.hold :=
  by rw [endLane_link_frame]

@[simp] theorem endLane_link_cursor (l : LaneNo) (status : LaneStatus) (cause : EndCause) (notice : Notice) (s : State) : (endLane l status cause notice s).link.cursor = s.link.cursor :=
  by rw [endLane_link_frame]

@[simp] theorem endLane_link_restart (l : LaneNo) (status : LaneStatus) (cause : EndCause) (notice : Notice) (s : State) : (endLane l status cause notice s).link.restart = s.link.restart :=
  by rw [endLane_link_frame]

theorem finishLane_link_frame (l : LaneNo) (cause : EndCause) (s : State) :
    (finishLane l cause s).link = { s.link with transmit := (finishLane l cause s).link.transmit, sending := (finishLane l cause s).link.sending, notices := (finishLane l cause s).link.notices, armed := (finishLane l cause s).link.armed, pendingSync := (finishLane l cause s).link.pendingSync } :=
  endLane_link_frame ..

@[simp] theorem finishLane_link_latch (l : LaneNo) (cause : EndCause) (s : State) : (finishLane l cause s).link.latch = s.link.latch :=
  by rw [finishLane_link_frame]

@[simp] theorem finishLane_link_peer (l : LaneNo) (cause : EndCause) (s : State) : (finishLane l cause s).link.peer = s.link.peer :=
  by rw [finishLane_link_frame]

@[simp] theorem finishLane_link_serialHeld (l : LaneNo) (cause : EndCause) (s : State) : (finishLane l cause s).link.serialHeld = s.link.serialHeld :=
  by rw [finishLane_link_frame]

@[simp] theorem finishLane_link_receive (l : LaneNo) (cause : EndCause) (s : State) : (finishLane l cause s).link.receive = s.link.receive :=
  by rw [finishLane_link_frame]

@[simp] theorem finishLane_link_startCause (l : LaneNo) (cause : EndCause) (s : State) : (finishLane l cause s).link.startCause = s.link.startCause :=
  by rw [finishLane_link_frame]

@[simp] theorem finishLane_link_hold (l : LaneNo) (cause : EndCause) (s : State) : (finishLane l cause s).link.hold = s.link.hold :=
  by rw [finishLane_link_frame]

@[simp] theorem finishLane_link_cursor (l : LaneNo) (cause : EndCause) (s : State) : (finishLane l cause s).link.cursor = s.link.cursor :=
  by rw [finishLane_link_frame]

@[simp] theorem finishLane_link_restart (l : LaneNo) (cause : EndCause) (s : State) : (finishLane l cause s).link.restart = s.link.restart :=
  by rw [finishLane_link_frame]

theorem faultLane_link_frame (l : LaneNo) (s : State) :
    (faultLane l s).link = { s.link with transmit := (faultLane l s).link.transmit, sending := (faultLane l s).link.sending, notices := (faultLane l s).link.notices, armed := (faultLane l s).link.armed, pendingSync := (faultLane l s).link.pendingSync } :=
  endLane_link_frame ..

@[simp] theorem faultLane_link_latch (l : LaneNo) (s : State) : (faultLane l s).link.latch = s.link.latch :=
  by rw [faultLane_link_frame]

@[simp] theorem faultLane_link_peer (l : LaneNo) (s : State) : (faultLane l s).link.peer = s.link.peer :=
  by rw [faultLane_link_frame]

@[simp] theorem faultLane_link_serialHeld (l : LaneNo) (s : State) : (faultLane l s).link.serialHeld = s.link.serialHeld :=
  by rw [faultLane_link_frame]

@[simp] theorem faultLane_link_receive (l : LaneNo) (s : State) : (faultLane l s).link.receive = s.link.receive :=
  by rw [faultLane_link_frame]

@[simp] theorem faultLane_link_startCause (l : LaneNo) (s : State) : (faultLane l s).link.startCause = s.link.startCause :=
  by rw [faultLane_link_frame]

@[simp] theorem faultLane_link_hold (l : LaneNo) (s : State) : (faultLane l s).link.hold = s.link.hold :=
  by rw [faultLane_link_frame]

@[simp] theorem faultLane_link_cursor (l : LaneNo) (s : State) : (faultLane l s).link.cursor = s.link.cursor :=
  by rw [faultLane_link_frame]

@[simp] theorem faultLane_link_restart (l : LaneNo) (s : State) : (faultLane l s).link.restart = s.link.restart :=
  by rw [faultLane_link_frame]

theorem stopLane_link_frame (l : LaneNo) (s : State) :
    (stopLane l s).link = { s.link with transmit := (stopLane l s).link.transmit, sending := (stopLane l s).link.sending, pendingSync := (stopLane l s).link.pendingSync } :=
  by unfold stopLane; rw [modifyLane_link, emptyWorking_link_frame, emptyWorking_link_frame]

@[simp] theorem stopLane_link_latch (l : LaneNo) (s : State) : (stopLane l s).link.latch = s.link.latch :=
  by rw [stopLane_link_frame]

@[simp] theorem stopLane_link_peer (l : LaneNo) (s : State) : (stopLane l s).link.peer = s.link.peer :=
  by rw [stopLane_link_frame]

@[simp] theorem stopLane_link_serialHeld (l : LaneNo) (s : State) : (stopLane l s).link.serialHeld = s.link.serialHeld :=
  by rw [stopLane_link_frame]

@[simp] theorem stopLane_link_receive (l : LaneNo) (s : State) : (stopLane l s).link.receive = s.link.receive :=
  by rw [stopLane_link_frame]

@[simp] theorem stopLane_link_notices (l : LaneNo) (s : State) : (stopLane l s).link.notices = s.link.notices :=
  by rw [stopLane_link_frame]

@[simp] theorem stopLane_link_startCause (l : LaneNo) (s : State) : (stopLane l s).link.startCause = s.link.startCause :=
  by rw [stopLane_link_frame]

@[simp] theorem stopLane_link_armed (l : LaneNo) (s : State) : (stopLane l s).link.armed = s.link.armed :=
  by rw [stopLane_link_frame]

@[simp] theorem stopLane_link_hold (l : LaneNo) (s : State) : (stopLane l s).link.hold = s.link.hold :=
  by rw [stopLane_link_frame]

@[simp] theorem stopLane_link_cursor (l : LaneNo) (s : State) : (stopLane l s).link.cursor = s.link.cursor :=
  by rw [stopLane_link_frame]

@[simp] theorem stopLane_link_restart (l : LaneNo) (s : State) : (stopLane l s).link.restart = s.link.restart :=
  by rw [stopLane_link_frame]

theorem judgeLane_link_frame (now lead : Nat) (l : LaneNo) (s : State) :
    (judgeLane now lead l s).link = { s.link with transmit := (judgeLane now lead l s).link.transmit, sending := (judgeLane now lead l s).link.sending, notices := (judgeLane now lead l s).link.notices, armed := (judgeLane now lead l s).link.armed, pendingSync := (judgeLane now lead l s).link.pendingSync } :=
  by
  unfold judgeLane
  split
  · rfl
  · split
    · rw [finishLane_link_frame]
    · split
      · rw [finishLane_link_frame]
      · split
        · rw [post_link_frame, setLane_link]
        · rfl

@[simp] theorem judgeLane_link_latch (now lead : Nat) (l : LaneNo) (s : State) : (judgeLane now lead l s).link.latch = s.link.latch :=
  by rw [judgeLane_link_frame]

@[simp] theorem judgeLane_link_peer (now lead : Nat) (l : LaneNo) (s : State) : (judgeLane now lead l s).link.peer = s.link.peer :=
  by rw [judgeLane_link_frame]

@[simp] theorem judgeLane_link_serialHeld (now lead : Nat) (l : LaneNo) (s : State) : (judgeLane now lead l s).link.serialHeld = s.link.serialHeld :=
  by rw [judgeLane_link_frame]

@[simp] theorem judgeLane_link_receive (now lead : Nat) (l : LaneNo) (s : State) : (judgeLane now lead l s).link.receive = s.link.receive :=
  by rw [judgeLane_link_frame]

@[simp] theorem judgeLane_link_startCause (now lead : Nat) (l : LaneNo) (s : State) : (judgeLane now lead l s).link.startCause = s.link.startCause :=
  by rw [judgeLane_link_frame]

@[simp] theorem judgeLane_link_hold (now lead : Nat) (l : LaneNo) (s : State) : (judgeLane now lead l s).link.hold = s.link.hold :=
  by rw [judgeLane_link_frame]

@[simp] theorem judgeLane_link_cursor (now lead : Nat) (l : LaneNo) (s : State) : (judgeLane now lead l s).link.cursor = s.link.cursor :=
  by rw [judgeLane_link_frame]

@[simp] theorem judgeLane_link_restart (now lead : Nat) (l : LaneNo) (s : State) : (judgeLane now lead l s).link.restart = s.link.restart :=
  by rw [judgeLane_link_frame]

theorem stopTimeSweep_link_frame (s : State) :
    (stopTimeSweep s).link = { s.link with transmit := (stopTimeSweep s).link.transmit, sending := (stopTimeSweep s).link.sending, notices := (stopTimeSweep s).link.notices, armed := (stopTimeSweep s).link.armed, pendingSync := (stopTimeSweep s).link.pendingSync } :=
  by
  unfold stopTimeSweep
  exact frame_of_foldl _ (fun t u => u.link = { t.link with transmit := u.link.transmit, sending := u.link.sending, notices := u.link.notices, armed := u.link.armed, pendingSync := u.link.pendingSync }) (fun _ => rfl)
    (fun a b c h k => by rw [k, h]) (fun t i => judgeLane_link_frame ..) _ s

@[simp] theorem stopTimeSweep_link_latch (s : State) : (stopTimeSweep s).link.latch = s.link.latch :=
  by rw [stopTimeSweep_link_frame]

@[simp] theorem stopTimeSweep_link_peer (s : State) : (stopTimeSweep s).link.peer = s.link.peer :=
  by rw [stopTimeSweep_link_frame]

@[simp] theorem stopTimeSweep_link_serialHeld (s : State) : (stopTimeSweep s).link.serialHeld = s.link.serialHeld :=
  by rw [stopTimeSweep_link_frame]

@[simp] theorem stopTimeSweep_link_receive (s : State) : (stopTimeSweep s).link.receive = s.link.receive :=
  by rw [stopTimeSweep_link_frame]

@[simp] theorem stopTimeSweep_link_startCause (s : State) : (stopTimeSweep s).link.startCause = s.link.startCause :=
  by rw [stopTimeSweep_link_frame]

@[simp] theorem stopTimeSweep_link_hold (s : State) : (stopTimeSweep s).link.hold = s.link.hold :=
  by rw [stopTimeSweep_link_frame]

@[simp] theorem stopTimeSweep_link_cursor (s : State) : (stopTimeSweep s).link.cursor = s.link.cursor :=
  by rw [stopTimeSweep_link_frame]

@[simp] theorem stopTimeSweep_link_restart (s : State) : (stopTimeSweep s).link.restart = s.link.restart :=
  by rw [stopTimeSweep_link_frame]

theorem evaluateAndSweep_link_frame (cause : EvalCause) (s : State) :
    (evaluateAndSweep cause s).link = { s.link with transmit := (evaluateAndSweep cause s).link.transmit, sending := (evaluateAndSweep cause s).link.sending, notices := (evaluateAndSweep cause s).link.notices, armed := (evaluateAndSweep cause s).link.armed } :=
  by
  unfold evaluateAndSweep
  dsimp only
  split
  · rw [evaluateMargin_link_frame]
  · rw [windowSweep_link_frame, evaluateMargin_link_frame]

@[simp] theorem evaluateAndSweep_link_latch (cause : EvalCause) (s : State) : (evaluateAndSweep cause s).link.latch = s.link.latch :=
  by rw [evaluateAndSweep_link_frame]

@[simp] theorem evaluateAndSweep_link_peer (cause : EvalCause) (s : State) : (evaluateAndSweep cause s).link.peer = s.link.peer :=
  by rw [evaluateAndSweep_link_frame]

@[simp] theorem evaluateAndSweep_link_serialHeld (cause : EvalCause) (s : State) : (evaluateAndSweep cause s).link.serialHeld = s.link.serialHeld :=
  by rw [evaluateAndSweep_link_frame]

@[simp] theorem evaluateAndSweep_link_receive (cause : EvalCause) (s : State) : (evaluateAndSweep cause s).link.receive = s.link.receive :=
  by rw [evaluateAndSweep_link_frame]

@[simp] theorem evaluateAndSweep_link_startCause (cause : EvalCause) (s : State) : (evaluateAndSweep cause s).link.startCause = s.link.startCause :=
  by rw [evaluateAndSweep_link_frame]

@[simp] theorem evaluateAndSweep_link_hold (cause : EvalCause) (s : State) : (evaluateAndSweep cause s).link.hold = s.link.hold :=
  by rw [evaluateAndSweep_link_frame]

@[simp] theorem evaluateAndSweep_link_cursor (cause : EvalCause) (s : State) : (evaluateAndSweep cause s).link.cursor = s.link.cursor :=
  by rw [evaluateAndSweep_link_frame]

@[simp] theorem evaluateAndSweep_link_pendingSync (cause : EvalCause) (s : State) : (evaluateAndSweep cause s).link.pendingSync = s.link.pendingSync :=
  by rw [evaluateAndSweep_link_frame]

@[simp] theorem evaluateAndSweep_link_restart (cause : EvalCause) (s : State) : (evaluateAndSweep cause s).link.restart = s.link.restart :=
  by rw [evaluateAndSweep_link_frame]

theorem bothSweeps_link_frame (order : SweepOrder) (s : State) :
    (bothSweeps order s).link = { s.link with transmit := (bothSweeps order s).link.transmit, sending := (bothSweeps order s).link.sending, notices := (bothSweeps order s).link.notices, armed := (bothSweeps order s).link.armed, pendingSync := (bothSweeps order s).link.pendingSync } :=
  by
  cases order
  · rw [bothSweeps_windowFirst, stopTimeSweep_link_frame, windowSweep_link_frame]
  · rw [bothSweeps_stopTimeFirst, windowSweep_link_frame, stopTimeSweep_link_frame]

@[simp] theorem bothSweeps_link_latch (order : SweepOrder) (s : State) : (bothSweeps order s).link.latch = s.link.latch :=
  by rw [bothSweeps_link_frame]

@[simp] theorem bothSweeps_link_peer (order : SweepOrder) (s : State) : (bothSweeps order s).link.peer = s.link.peer :=
  by rw [bothSweeps_link_frame]

@[simp] theorem bothSweeps_link_serialHeld (order : SweepOrder) (s : State) : (bothSweeps order s).link.serialHeld = s.link.serialHeld :=
  by rw [bothSweeps_link_frame]

@[simp] theorem bothSweeps_link_receive (order : SweepOrder) (s : State) : (bothSweeps order s).link.receive = s.link.receive :=
  by rw [bothSweeps_link_frame]

@[simp] theorem bothSweeps_link_startCause (order : SweepOrder) (s : State) : (bothSweeps order s).link.startCause = s.link.startCause :=
  by rw [bothSweeps_link_frame]

@[simp] theorem bothSweeps_link_hold (order : SweepOrder) (s : State) : (bothSweeps order s).link.hold = s.link.hold :=
  by rw [bothSweeps_link_frame]

@[simp] theorem bothSweeps_link_cursor (order : SweepOrder) (s : State) : (bothSweeps order s).link.cursor = s.link.cursor :=
  by rw [bothSweeps_link_frame]

@[simp] theorem bothSweeps_link_restart (order : SweepOrder) (s : State) : (bothSweeps order s).link.restart = s.link.restart :=
  by rw [bothSweeps_link_frame]

end Sys2Proof.Machine
end

