-- ==== Sys2Proof/Laws/Ops.lean ====
section
/-! SUPPORT. What each shared operation can do, said once: the link's frames and notices, the engine's queue and the
canonical form of the reel key pool. -/

namespace Sys2Proof.Machine

/-! ### Frames, ATTENTION and notices -/

/-- A frame handed to a peer with a route joins the frames waiting, its sending begins where none is being sent, and
nothing else changes. -/
theorem handFrame_eq {s : State} {rt : Route} (h : s.route s.link.peer = some rt) (role : FrameRole)
    (payload : List Byte) :
    handFrame role payload s =
      { s with
        link :=
          { s.link with
            transmit := s.link.transmit ++ [{ role, payload }]
            sending := sendingAfter s.link.transmit s.link.restart s.link.sending rt } } := by
  simp [handFrame, h]

/-- A frame handed behind others waits. -/
@[simp] theorem sendingAfter_waiting (f : OutFrame) (later : List OutFrame) (restart : RestartPhase)
    (sending : Option Route) (rt : Route) : sendingAfter (f :: later) restart sending rt = sending := by
  simp [sendingAfter]

/-- A frame handed to an empty transmit side is sent at once, no RESTART being due. -/
theorem sendingAfter_nil {restart : RestartPhase} (h : restart ≠ .due) (sending : Option Route) (rt : Route) :
    sendingAfter [] restart sending rt = some rt := by
  cases restart <;> simp_all [sendingAfter]

/-- Judging ATTENTION either changes nothing, its condition not holding, or hands one and clears the armed flag. -/
theorem judgeAttention_cases (s : State) :
    (attentionHolds s = false ∧ judgeAttention s = s) ∨
      (attentionHolds s = true ∧
        judgeAttention s = handFrame .attention attentionPayload { s with link := { s.link with armed := false } }) := by
  unfold judgeAttention
  cases attentionHolds s <;> simp

/-- A posted notice is added to its subject's set; ATTENTION is judged when the set was empty before. -/
theorem post_cases (n : Notice) (s : State) :
    (noticesEmpty s.link.notices = true ∧ post n s = judgeAttention (addNotice n s)) ∨
      (noticesEmpty s.link.notices = false ∧ post n s = addNotice n s) := by
  unfold post
  cases noticesEmpty s.link.notices <;> simp

/-- The notice set after a post. -/
@[simp] theorem post_link_notices (n : Notice) (s : State) :
    (post n s).link.notices = withNotice n s.link.notices := by
  obtain ⟨-, h⟩ | ⟨-, h⟩ := post_cases n s <;> rw [h] <;> simp [withNotice]

/-- After judging, no ATTENTION is due. -/
theorem judgeAttention_handed (s : State) : attentionHolds (judgeAttention s) = false := by
  obtain ⟨h, e⟩ | ⟨-, e⟩ := judgeAttention_cases s
  · rw [e, h]
  · rw [e]
    simp [attentionHolds]

/-! ### Jobs -/

/-- SYNC is released exactly when one is pending and its snapshot is empty. -/
theorem releaseSync_cases (s : State) :
    (releaseSync s = s ∧ (s.link.pendingSync = none ∨ snapshotLeft s.engine ≠ 0)) ∨
      ∃ tag, s.link.pendingSync = some tag ∧ snapshotLeft s.engine = 0 ∧
        releaseSync s =
          handFrame .reply (replyPayload RequestKind.sync.code tag .ok [])
            { s with link := { s.link with pendingSync := none } } := by
  unfold releaseSync
  split
  · exact .inl ⟨rfl, .inl ‹_›⟩
  · split
    · exact .inr ⟨_, ‹_›, ‹_›, rfl⟩
    · exact .inl ⟨rfl, .inr ‹_›⟩

@[simp] theorem releaseSync_engine_eq (s : State) : (releaseSync s).engine = s.engine := by
  obtain ⟨e, -⟩ | ⟨tag, -, -, e⟩ := releaseSync_cases s <;> rw [e]
  simp

/-- Jobs that are no longer wanted leave the queue, or are marked for discard in service. -/
theorem dropJobs_engine_eq (p : JobItem → Bool) (s : State) :
    (dropJobs p s).engine =
      { s.engine with
        inService := s.engine.inService.map fun j => if p j.job.item then { j with discard := true } else j
        queued := s.engine.queued.filter fun j => !p j.item } := by
  simp [dropJobs]

/-- A grant changes nothing, or puts one chosen job into service and makes the rank step of its requester. -/
theorem grant_cases (s : State) :
    (grant s = s ∧ (s.engine.inService ≠ none ∨ grantChoice s = none)) ∨
      ∃ r j, s.engine.inService = none ∧ grantChoice s = some (r, j) ∧
        grant s =
          { enterService j.item s with
            engine :=
              { inService :=
                  some { job := j, jobClass := jobClass s j.item, discard := false, inputs := readInputs s j.item }
                queued := s.engine.queued.erase j
                ranks := rankStep s.engine.ranks r } } := by
  unfold grant
  split
  · exact .inl ⟨rfl, .inl (by rintro h; simp_all)⟩
  · split
    · exact .inl ⟨rfl, .inr ‹_›⟩
    · exact .inr ⟨_, _, by simp_all, ‹_›, rfl⟩

/-! ### Bytes -/

/-- A number is written in as many bytes as its field has. -/
@[simp] theorem beBytes_length (width n : Nat) : (beBytes width n).length = width := by
  induction width <;> simp_all [beBytes]

/-- A sent LAN frame is its 16 bytes of header, its payload, padding up to the minimum, and its 4 bytes of check
sequence (R151, R175). -/
theorem lanWire_length (destination source : StationAddress) (payload : List Byte) :
    (lanWire destination source payload).length = max 64 (20 + payload.length) := by
  simp [lanWire, lanChecked, lanPad]
  omega

/-! ### The evaluation (R21) -/

/-- Each shape of an evaluation has its own grade. -/
@[simp] theorem evaluation_grades_get (shapes : Vector Shape 8) (terms : Vector Term 8) (p : SiteParameters)
    (x1 x2 : Nat) (cause : EvalCause) (now : Nat) (i : TableNo) :
    (evaluation shapes terms p x1 x2 cause now).grades[i] = shapes[i].grade x1 x2 :=
  tabulate_get _ i

/-- Each term of an evaluation has its own weight, of that evaluation's grades. -/
@[simp] theorem evaluation_weights_get (shapes : Vector Shape 8) (terms : Vector Term 8) (p : SiteParameters)
    (x1 x2 : Nat) (cause : EvalCause) (now : Nat) (i : TableNo) :
    (evaluation shapes terms p x1 x2 cause now).weights[i] =
      terms[i].weight shapes (evaluation shapes terms p x1 x2 cause now).grades :=
  tabulate_get _ i

/-! ### The reel key pool (R40) -/

theorem mem_insertCell {c d : PoolCell} {pool : List PoolCell} : d ∈ insertCell c pool ↔ d = c ∨ d ∈ pool := by
  induction pool with
  | nil => simp [insertCell]
  | cons e rest ih =>
    unfold insertCell
    split
    · simp
    · simp only [List.mem_cons, ih]
      tauto

/-- Reserving an entry that is free keeps the canonical form. -/
theorem insertCell_rising {c : PoolCell} {pool : List PoolCell} (h : poolRising pool)
    (free : ∀ d ∈ pool, d.number ≠ c.number) : poolRising (insertCell c pool) := by
  unfold poolRising at *
  induction pool with
  | nil => simp [insertCell]
  | cons e rest ih =>
    rw [List.pairwise_cons] at h
    unfold insertCell
    split
    next lt =>
      refine List.pairwise_cons.2 ⟨fun d hd => ?_, List.pairwise_cons.2 h⟩
      rcases List.mem_cons.1 hd with rfl | hd
      · exact lt
      · exact lt_trans lt (h.1 d hd)
    next ge =>
      refine List.pairwise_cons.2 ⟨fun d hd => ?_, ih h.2 fun d hd => free d (List.mem_cons_of_mem _ hd)⟩
      rcases mem_insertCell.1 hd with rfl | hd
      · exact lt_of_le_of_ne (not_lt.1 ge) (free e (List.mem_cons_self ..))
      · exact h.1 d hd

/-- Filling an entry keeps the canonical form. -/
theorem fillCell_rising {pool : List PoolCell} (number : PoolNo) (key : KeyMaterial) (h : poolRising pool) :
    poolRising (fillCell number key pool) := by
  unfold poolRising fillCell at *
  refine List.pairwise_map.2 (h.imp fun {a b} lt => ?_)
  split <;> split <;> exact lt

/-- Freeing entries keeps the canonical form. -/
theorem freeCells_rising {pool : List PoolCell} (refs : List PoolNo) (h : poolRising pool) :
    poolRising (freeCells refs pool) :=
  List.Pairwise.filter _ h

theorem mem_reserveCells {refs : List PoolNo} {pool : List PoolCell} {d : PoolCell} :
    d ∈ reserveCells refs pool ↔ d ∈ pool ∨ ∃ n ∈ refs, d = { number := n, key := none } := by
  unfold reserveCells
  induction refs generalizing pool with
  | nil => simp
  | cons n rest ih =>
    rw [List.foldl_cons, ih, mem_insertCell]
    simp only [List.mem_cons, exists_eq_or_imp]
    tauto

/-- Reserving distinct free entries keeps the canonical form. -/
theorem reserveCells_rising {refs : List PoolNo} {pool : List PoolCell} (h : poolRising pool) (distinct : refs.Nodup)
    (free : ∀ n ∈ refs, ∀ d ∈ pool, d.number ≠ n) : poolRising (reserveCells refs pool) := by
  unfold reserveCells
  induction refs generalizing pool with
  | nil => exact h
  | cons n rest ih =>
    rw [List.nodup_cons] at distinct
    refine ih (insertCell_rising h (free n (List.mem_cons_self ..))) distinct.2 fun m hm d hd => ?_
    rcases mem_insertCell.1 hd with rfl | hd
    · rintro rfl
      exact distinct.1 hm
    · exact free m (List.mem_cons_of_mem _ hm) d hd

/-- The free entries are those with no cell. -/
theorem mem_freeNumbers {pool : List PoolCell} {n : PoolNo} : n ∈ freeNumbers pool ↔ ∀ d ∈ pool, d.number ≠ n := by
  simp [freeNumbers]

/-- A pool entry is read by its number (R121). -/
theorem poolKey_of_mem {pool : List PoolCell} (h : poolRising pool) {c : PoolCell} (m : c ∈ pool) :
    poolKey pool c.number = c.key := by
  unfold poolKey
  induction pool with
  | nil => cases m
  | cons d rest ih =>
    rw [poolRising, List.pairwise_cons] at h
    rcases List.mem_cons.1 m with rfl | m
    · simp
    · rw [List.find?_cons_of_neg (by simpa using ne_of_lt (h.1 c m))]
      exact ih h.2 m

/-- The pool of a part right after reset has the canonical form. -/
theorem reset_pool_rising : poolRising State.reset.keyring.pool := List.Pairwise.nil

end Sys2Proof.Machine
end

