-- ==== Sys2Proof/Laws/Serve.lean ====
section
/-! SUPPORT. What serving a request does, said once: which action runs under `Serving`, and what an answer leaves when
nothing else was handed. -/

namespace Sys2Proof.Machine

variable {k : RequestKind} {r : Request} {rest : List Request} {rt : Route} {s : State}

theorem Taking.canServe (h : Taking r rest rt s) : canServe s = true := by
  simp [Sys2Proof.Machine.canServe, h.powered, h.sent, h.noRestart]

/-- Under `Serving` the request goes to its owning block. -/
theorem serve_of_serving (h : Serving k r rest rt s) (act : Request → State → State) :
    serve k act s = act r (withoutOldest s) := by
  have hp := h.admitted
  unfold serve
  rw [if_pos h.toTaking.canServe, h.oldest]
  simp only [h.kind, if_true]
  rcases hp with hp | hp <;> simp [hp]

theorem serveBare_of_serving (h : Serving k r rest rt s) (act : Request → State → State) :
    serveBare k act s = if r.body = [] then act r (withoutOldest s) else answer r .badRequest [] (withoutOldest s) :=
  serve_of_serving h _

theorem serveWith_of_serving {α : Type} (h : Serving k r rest rt s) (parse : List Byte → Option α)
    (act : α → Request → State → State) :
    serveWith k parse act s =
      match parse r.body with
      | none => answer r .badRequest [] (withoutOldest s)
      | some fields => act fields r (withoutOldest s) :=
  serve_of_serving h _

theorem withoutOldest_eq (h : Taking r rest rt s) :
    withoutOldest s = { s with link := { s.link with receive := rest } } := by
  simp [withoutOldest, h.oldest]

/-- An answer, where nothing but the queue has changed on the link: the reply alone is handed, and is being sent. -/
theorem handReply_eq (role : FrameRole) (peer : Option Peer) (payload : List Byte) (s : State) (rt : Route)
    (hr : s.route peer = some rt) (ht : s.link.transmit = []) (hi : s.link.restart = .idle) :
    handReply role peer payload s =
      { s with link := { s.link with transmit := [{ role, payload }], sending := some rt } } := by
  simp [handReply, sendingAfter, hr, ht, hi]

theorem route_congr {s t : State} (peer : Option Peer) (hl : t.link.latch = s.link.latch)
    (hs : t.store.station = s.store.station) : t.route peer = s.route peer := by
  simp [State.route, hl, hs]

/-- An answer given with the session's route and nothing handed yet. -/
theorem answer_eq (h : Taking r rest rt s) (status : Status) (body : List Byte) (t : State)
    (hl : t.link.latch = s.link.latch) (hp : t.link.peer = s.link.peer) (hs : t.store.station = s.store.station)
    (ht : t.link.transmit = []) (hi : t.link.restart = .idle) :
    answer r status body t =
      { t with link := { t.link with transmit := [replyFrame r status body], sending := some rt } } := by
  unfold answer
  rw [handReply_eq (rt := rt) (ht := ht) (hi := hi)]
  · rfl
  · rw [hp, route_congr _ hl hs]; exact h.routed

/-- A request answered with nothing else done. -/
theorem answer_withoutOldest (h : Taking r rest rt s) (status : Status) (body : List Byte) :
    answer r status body (withoutOldest s) = replied r rest rt status body s := by
  rw [answer_eq h, withoutOldest_eq h]
  · rfl
  · rfl
  · rfl
  · rfl
  · simp [withoutOldest, h.sent]
  · simp [withoutOldest, h.noRestart]

end Sys2Proof.Machine
end

