-- ==== Sys2Proof/WellFormed.lean ====
section
/-! DEFINITION. Which commands the world outside can form: the operands' own limits.  The meanings are total and do
not rely on these checks. -/

namespace Sys2Proof

/-- The operands are ones that the outside can produce: bytes arrive in a SERIAL_FRAME, and a tag covers a frame's
body, which is at most 1,398 bytes (R150: the payload is at most 1,400, two of them kind and tag). A claimed time
fits in its four bytes (R7). -/
def Instr.wf : Instr → Bool
  | .serialFrame bytes => !bytes.isEmpty
  | .lanFrame bytes _ => !bytes.isEmpty
  | .timeClaim (some tg) _ => decide (tg.time ≤ Config.timeMax)
  | .deliverBundle (some tg) => decide (tg.covered.length + 2 ≤ Config.payloadMax)
  | .revoke (some tg) => decide (tg.covered.length = 14)
  | _ => true

end Sys2Proof
end

