-- ==== Sys2Proof/Tests/Slice0.lean ====
section
/-! SUPPORT. Tests of the model on fixed values, most of them the manual's own worked examples, and for every statement
with hypotheses a theorem `witness_<statement>` that shows a state and operands meeting them. -/

open Sys2Proof Sys2Proof.Machine

namespace Sys2Proof.Tests

set_option Elab.async false

/-! ### States and what is read from an outcome -/

/-- A store with its six slots written and FINAL. -/
def finalStore : Store :=
  { state := .final, serial := some 1, site := some 1207, lineAddress := some 14, station := some 0x020304050607
    authority := some 99, identity := some 98 }

/-- A bundle of two reels, LIVE and in use on lane 1. -/
def liveBundle : Bundle :=
  { bundleId := 101, featureId := 7, notBefore := 900000, notAfter := 1100000, grace := 3600, allowance := 2
    screens := .all, reelCount := 2, poolRefs := [0, 1], state := .live, entryTime := 950000, useCount := 1
    reelsUnwrapped := 2, revocationMode := none, wrappedKeys := [] }

/-- A bundle whose only reel is in service at the engine. -/
def intakeBundle : Bundle :=
  { bundleId := 102, featureId := 8, notBefore := 900000, notAfter := 1100000, grace := 0, allowance := 1
    screens := .only [0], reelCount := 1, poolRefs := [2], state := .unwrapping, entryTime := 999990, useCount := 0
    reelsUnwrapped := 0, revocationMode := none, wrappedKeys := [5] }

/-- A tombstone. -/
def spentBundle : Bundle :=
  { liveBundle with bundleId := 103, poolRefs := [], state := .expired, useCount := 0 }

/-- Lane 1's screening of the live bundle: reel 1 delivered and playing, reel 2 queued. -/
def playingLane : Screening :=
  { status := .running, featureId := 7, bundleSlot := 0, bundleId := 101, startTime := 999900, plannedEnd := 1005000
    stopTime := 1006200, openMargin := 300, firstReel := 1, repeatTotal := 1, current := { cycle := 1, reel := 1 }
    slotX := .holds { cycle := 1, reel := 1 } 999900 (.delivered 6), slotY := .holds { cycle := 1, reel := 2 } 1000500 .queued
    amendment := none, closingNotice := false, ending := none
    report :=
      { entries := [{ position := { cycle := 1, reel := 1 }, released := 999910, neededBy := 999900, lateness := 10 }]
        truncated := false, cursor := 0 } }

/-- A controller at work. -/
def stage : State :=
  { State.reset with
    store := finalStore
    clock :=
      { state := .running, now := 1000000, allowance := 120, residual := 0, staleness := 0, minuteCountdown := 60
        replenishCountdown := 86400 }
    keyring :=
      { slots :=
          (((State.reset.keyring.slots.set 0 (some liveBundle)).set 1 (some intakeBundle)).set 2 (some spentBundle))
        pool := [{ number := 0, key := some [1] }, { number := 1, key := some [2] }, { number := 2, key := none }]
        intakeQueue := [1], listCursor := 0 }
    revocations := [{ kind := .bundle, target := 500, expires := 1000000 }]
    engine :=
      { State.reset.engine with
        inService :=
          some
            { job := { item := .intake 1 1, inSnapshot := false }, jobClass := 1, discard := false
              inputs := .intake (some 5) (some 98) }
        queued :=
          [{ item := .rewrap 0 .y { cycle := 1, reel := 2 } 1000500, inSnapshot := false },
            { item := .bind 2, inSnapshot := false }] }
    screens :=
      ((State.reset.screens.set 0 { binding := .bound 11 [3], bias := 0 }).set 1
          { binding := .bound 12 [4], bias := 1 }).set 2 { binding := .binding 13 9, bias := 2 }
    lanes :=
      (State.reset.lanes.set 0 (some playingLane)).set 1
        (some
          { playingLane with
            status := .ended, slotX := .empty, slotY := .empty, ending := some (.completed, 999999) })
    link :=
      { State.reset.link with
        latch := some .lan, peer := some (.station 77), armed := false } }

/-- A request of kind `k`, as it waits in the receive buffer. -/
def req (k : RequestKind) (body : List Byte) : Request := { kind := k.code, tag := 7, body, sender := .station 77 }

/-- `s` with one request waiting. -/
def asking (k : RequestKind) (body : List Byte) (s : State) : State :=
  { s with link := { s.link with receive := [req k body] } }

/-- The route of the stage's replies. -/
def lanRoute : Route := .lan 77 0x020304050607

/-- The stage's link serves whatever waits. -/
theorem asking_serving (k : RequestKind) (body : List Byte) : Serving k (req k body) [] lanRoute (asking k body stage) :=
  ⟨⟨rfl, rfl, rfl, rfl, rfl⟩, rfl, .inr rfl⟩

theorem stage_link : LinkOk stage := ⟨by decide, by decide +kernel, ⟨77, rfl⟩, fun _ h => nomatch h⟩

/-- No SYNC is pending in the stage, with or without a request waiting. -/
theorem stage_sync : SyncOk stage := fun h => absurd rfl h

theorem asking_sync (k : RequestKind) (body : List Byte) : SyncOk (asking k body stage) := fun h => absurd rfl h

/-- The stage with a SYNC pending on the job in service. -/
def syncing : State :=
  { stage with
    engine :=
      { stage.engine with
        inService := stage.engine.inService.map fun j => { j with job := { j.job with inSnapshot := true } } }
    link := { stage.link with pendingSync := some 9 } }

theorem syncing_sync : SyncOk syncing := by unfold SyncOk; decide +kernel

/-- The payload of the first frame that command `c` hands in state `s`. -/
def reply (c : Instr) (s : State) : Option (List Byte) :=
  match exec c s with
  | .next t => t.link.transmit.head?.map (·.payload)
  | _ => none

/-- The status byte of that frame. -/
def status (c : Instr) (s : State) : Option Byte := (reply c s).bind (·[2]?)

/-- The state after `c`, where there is one. -/
def after (c : Instr) (s : State) : State :=
  match exec c s with
  | .next t => t
  | _ => s

/-- Whether the next step of `s` answers a next state. -/
def steps (s : State) : Bool :=
  match step s with
  | .next _ => true
  | _ => false

/-- Zeros. -/
def zeros (n : Nat) : List Byte := List.replicate n 0

/-! ### The stage meets every standing condition, and a step is possible there -/

/-- The stage with a command at the front. -/
def ready (c : Instr) : State := { stage with pending := [c] }

/-- A whole tick. -/
def tick : Instr := .tick (.whole .windowFirst)

theorem stage_pool_refs (i : SlotNo) : stage.keyring.slots[i] =
    if i = 0 then some liveBundle else if i = 1 then some intakeBundle else if i = 2 then some spentBundle else none := by
  revert i; decide +kernel

theorem witness_ClockRangesAreKept : (ready tick).clock.Ok ∧ steps (ready tick) = true := by
  unfold Clock.Ok; decide +kernel

theorem witness_ClockIsUnsetOnlyByLoss :
    let s := { ready (.powerUp false .complete) with powered := false }
    s.clock.state = .running ∧ steps s = true ∧ (after (.powerUp false .complete) s).clock.state = .unset := by
  decide +kernel

theorem witness_MarginStaysInRange : MarginOk (ready tick) ∧ steps (ready tick) = true := by
  unfold MarginOk SiteParameters.Ok; decide +kernel

theorem witness_RecordsStayDistinct : RecordsOk (ready tick) ∧ steps (ready tick) = true := by
  unfold RecordsOk; decide +kernel

theorem stage_uses : UsesOk stage := by
  refine ⟨fun _ i => ?_, fun h => (by cases h), by decide +kernel⟩
  have key : ∀ i : SlotNo, usesOf stage i = if i = 0 then 1 else 0 := by decide +kernel
  rw [key, stage_pool_refs]
  by_cases h0 : i = 0
  · subst h0; refine ⟨?_, ?_, ?_⟩ <;> decide
  · by_cases h1 : i = 1
    · subst h1; refine ⟨?_, ?_, ?_⟩ <;> decide
    · by_cases h2 : i = 2
      · subst h2; refine ⟨?_, ?_, ?_⟩ <;> decide
      · simp [h0, h1, h2]

theorem stage_pool : PoolOk stage := by
  refine ⟨by unfold poolRising; decide +kernel, ?_, ?_, ?_⟩
  · decide +kernel
  · intro n
    constructor
    · intro h
      have : n = 0 ∨ n = 1 ∨ n = 2 := by
        have h' : n ∈ [(0 : PoolNo), 1, 2] := h
        simpa using h'
      rcases this with rfl | rfl | rfl
      · exact ⟨0, liveBundle, by decide +kernel, by decide⟩
      · exact ⟨0, liveBundle, by decide +kernel, by decide⟩
      · exact ⟨1, intakeBundle, by decide +kernel, by decide⟩
    · rintro ⟨i, b, hb, hn⟩
      have key : ∀ i : SlotNo, ∀ b ∈ stage.keyring.slots[i], ∀ n ∈ b.poolRefs, n ∈ stage.keyring.pool.map PoolCell.number := by
        decide +kernel
      exact key i b hb n hn
  · decide +kernel

theorem witness_PoolAlwaysAddsUp : PoolOk (ready tick) ∧ UsesOk (ready tick) ∧ steps (ready tick) = true :=
  ⟨stage_pool, stage_uses, by decide +kernel⟩

theorem witness_BarredBundlesStayOut : RevocationsOk (ready tick) ∧ NoneBarred (ready tick) ∧ steps (ready tick) = true := by
  unfold RevocationsOk NoneBarred; decide +kernel

/-- A controller in UNSET, linked, with its store FINAL. -/
def unsetStage : State :=
  { State.reset with
    store := finalStore
    link := { State.reset.link with latch := some .lan, peer := some (.station 77), armed := false } }

theorem witness_UnsetMeansEmpty :
    EmptyWhileUnset { unsetStage with pending := [tick] } ∧ unsetStage.clock.state = .unset ∧
      steps { unsetStage with pending := [tick] } = true := by
  unfold EmptyWhileUnset; decide +kernel

theorem witness_UseCountsMatchTheLanes : UsesOk (ready tick) ∧ steps (ready tick) = true := ⟨stage_uses, by decide +kernel⟩

theorem witness_StopTimesStayInTheWindow : UsesOk (ready tick) ∧ StopTimesOk (ready tick) ∧ steps (ready tick) = true :=
  ⟨stage_uses, by unfold StopTimesOk; decide +kernel, by decide +kernel⟩

theorem witness_RanksStayAPermutation :
    RanksOk (ready (.intakeUnwrapComplete none)) ∧ steps (ready (.intakeUnwrapComplete none)) = true := by
  unfold RanksOk; decide +kernel

theorem stage_jobs : JobsOk stage := by
  refine ⟨by decide, by decide, ?_, ?_, by decide⟩
  · intro j hj
    have : j = { item := .rewrap 0 .y { cycle := 1, reel := 2 } 1000500, inSnapshot := false } ∨
        j = { item := .bind 2, inSnapshot := false } := by simpa [stage] using hj
    rcases this with rfl | rfl
    · exact ⟨playingLane, by decide +kernel, rfl, rfl⟩
    · exact ⟨by decide +kernel, by decide +kernel⟩
  · intro j hj _
    have : j.job.item = .intake 1 1 := by
      simp only [stage, Option.mem_def, Option.some.injEq] at hj
      rw [← hj]
    rw [this]
    trivial

theorem witness_JobsFitTheirOwners :
    IntakeOk (ready tick) ∧ JobsOk (ready tick) ∧ steps (ready tick) = true :=
  ⟨by unfold IntakeOk; decide +kernel, stage_jobs, by decide +kernel⟩

theorem witness_SessionStaysWhole : LinkOk (ready tick) ∧ NoticesOk (ready tick) ∧ steps (ready tick) = true :=
  ⟨stage_link, by unfold NoticesOk; decide +kernel, by decide +kernel⟩

/-- A pending SYNC of one job is answered as that job completes, and leaves nothing pending. -/
theorem witness_SessionStaysWhole_sync :
    SyncOk { syncing with pending := [.intakeUnwrapComplete none] } ∧ syncing.link.pendingSync ≠ none ∧
      steps { syncing with pending := [.intakeUnwrapComplete none] } = true ∧
      (after (.intakeUnwrapComplete none) syncing).link.pendingSync = none ∧
      (after tick syncing).link.pendingSync = some 9 :=
  ⟨syncing_sync, by decide, by decide +kernel, by decide +kernel, by decide +kernel⟩

theorem witness_AttentionIsNeverLeftDue : AttentionHanded (ready tick) ∧ steps (ready tick) = true :=
  ⟨by unfold AttentionHanded; decide +kernel, by decide +kernel⟩

theorem witness_StoreIsWriteOnce : steps (ready tick) = true ∧ (ready tick).store.state = .final := by decide +kernel

theorem witness_EndedRecordsStayEnded :
    (ready tick).keyring.slots[(2 : SlotNo)] = some spentBundle ∧ spentBundle.state = .expired ∧
      steps (ready tick) = true := by
  decide +kernel

/-- The three events that end a tombstone: it is deleted, a delivery of its id takes its slot, or the domain is lost. -/
theorem witness_EndedRecordsStayEnded_events :
    let slot2 := fun s : State => (s.keyring.slots[(2 : SlotNo)]).map fun b => (b.bundleId, b.state, b.useCount)
    let body := beBytes 8 103 ++ beBytes 8 7 ++ beBytes 4 900000 ++ beBytes 4 1100000 ++ beBytes 2 0 ++ [1, 0, 1] ++
      zeros 40
    let deliver : Instr := .deliverBundle (some { identity := 98, covered := body })
    slot2 stage = some (103, .expired, 0) ∧
      slot2 (after .deleteBundle (asking .deleteBundle (beBytes 8 103) stage)) = none ∧
      slot2 (after deliver (asking .deliverBundle (body ++ zeros 32) stage)) = some (103, .unwrapping, 0) ∧
      slot2 (after (.powerUp false .complete) { stage with powered := false }) = none ∧
      slot2 (after .deleteBundle (asking .deleteBundle (beBytes 8 101) stage)) = some (103, .expired, 0) := by
  decide +kernel

theorem witness_ClearKeysNeverShow :
    steps (ready (.intakeUnwrapComplete (some [8, 9]))) = true ∧
      (after (.intakeUnwrapComplete (some [8, 9])) stage).keyring.pool.map PoolCell.key =
        [some [1], some [2], some [8, 9]] := by
  decide +kernel

/-! ### Margin, sweeps and grant -/

theorem witness_CatchUpEqualsTicks : stage.clock.Ok := witness_ClockRangesAreKept.1

/-- 100,000 seconds of catch-up from the last replenish: one replenish, 1,666 minutes (R17). -/
theorem test_powerUp_catchUp :
    stage.clock.catchUp 100000 =
      { state := .running, now := 1100000, allowance := 150, residual := 0, staleness := 1666, minuteCountdown := 20
        replenishCountdown := 72800 } := by
  decide +kernel

/-- Nothing changes in UNSET, and a delivery and an open are refused there. -/
theorem witness_TickInUnset :
    unsetStage.clock.Ok ∧ EmptyWhileUnset unsetStage ∧ unsetStage.clock.state = .unset ∧
      Serving .deliverBundle (req .deliverBundle []) [] lanRoute (asking .deliverBundle [] unsetStage) ∧
      Serving .openScreening (req .openScreening [1]) [] lanRoute (asking .openScreening [1] unsetStage) ∧
      (parseOpen ([1] ++ zeros 23)).isSome = true :=
  ⟨by unfold Clock.Ok; decide +kernel, by unfold EmptyWhileUnset; decide +kernel, rfl,
    ⟨⟨rfl, rfl, rfl, rfl, rfl⟩, rfl, .inr rfl⟩, ⟨⟨rfl, rfl, rfl, rfl, rfl⟩, rfl, .inr rfl⟩, by decide⟩

/-- Default shape 1 (R35) with the values of "A drifting, half-stale clock" and its edges. -/
theorem witness_GradeOfAShape :
    let s : Shape :=
      { inUse := true, input := .x1, centre := 60, leftSpread := 50, rightSpread := 120, leftShoulder := false
        rightShoulder := false }
    let wide := { s with centre := 1000, leftSpread := 720, rightSpread := 720 }
    (s.centre ≤ 65535 ∧ s.leftSpread ≤ 65535 ∧ s.rightSpread ≤ 65535) ∧
      [10, 11, 45, 59, 60, 61, 145, 180].map s.gradeAt = [0, 5, 178, 249, 255, 252, 74, 0] ∧
      [282, 999, 1001, 1718].map wide.gradeAt = [0, 254, 254, 0] ∧ 255 * (720 - (1718 - 1000)) < 720 := by
  decide

theorem witness_WeightOfATerm :
    let t : Term := { inUse := true, a := { shape := 0, negate := false }, b := some ({ shape := 0, negate := true }, .and), proposed := 3600 }
    let grades : Vector Nat 8 := Vector.replicate 8 255
    let shapes := stage.margin.shapes
    (∀ i : TableNo, grades[i] ≤ 255) ∧ shapes[(0 : TableNo)].inUse = true ∧ shapes[(7 : TableNo)].inUse = false ∧
      t.weight shapes grades = 0 ∧
      { t with b := some ({ shape := 0, negate := true }, .or) }.weight shapes grades = 255 ∧
      { t with b := none }.weight shapes grades = 255 ∧
      { t with b := some ({ shape := 7, negate := true }, .or) }.weight shapes grades = 0 := by
  decide +kernel

/-- Default shape 3 grades X1 and shape 4 X2, and shape 6, not in use, has grade 0. -/
theorem witness_GradeOfAShape_evaluation :
    let e := evaluation stage.margin.shapes stage.margin.terms stage.params 200 180 .claim 5
    stage.margin.shapes[(2 : TableNo)].input = .x1 ∧ stage.margin.shapes[(3 : TableNo)].input = .x2 ∧
      stage.margin.shapes[(5 : TableNo)].inUse = false ∧
      [2, 3, 5].map (fun i : TableNo => e.grades[i]) = [127, 191, 0] ∧ (e.x1, e.x2, e.time) = (200, 180, 5) := by
  decide +kernel

/-- The manual's evaluations (section 2.11), and the table left without an opinion. -/
theorem witness_RawMarginAndClamp :
    MarginOk stage ∧
      (let e := evaluation stage.margin.shapes stage.margin.terms stage.params 45 1000 .claim 0;
        (e.weightSum, e.productSum, e.rawMargin, e.margin, e.usedNoOpinion) = (211, 83100, 393, 393, false)) ∧
      (evaluation stage.margin.shapes stage.margin.terms stage.params 145 0 .claim 0).margin = 952 ∧
      (let e := evaluation stage.margin.shapes stage.margin.terms stage.params 4 720 .claim 0;
        (e.weightSum, e.usedNoOpinion, e.margin) = (0, true, 1800)) := by
  unfold MarginOk SiteParameters.Ok; decide +kernel

/-- A window sweep that finds WAITING, LIVE, CLOSING and EXPIRED, each at the first or last second of its case. -/
theorem witness_WindowSweepRule :
    let at_ := fun b : Bundle =>
      ((windowSweep { stage with keyring := { stage.keyring with slots := stage.keyring.slots.set 5 (some b) } }).keyring.slots[
        (5 : SlotNo)]).map Bundle.state
    let b := { liveBundle with bundleId := 200, useCount := 0, poolRefs := [], grace := 100 }
    at_ { b with state := .live, notBefore := 999701, notAfter := 2000000 } = some .waiting ∧
      at_ { b with state := .waiting, notBefore := 999700, notAfter := 1000300 } = some .live ∧
      at_ { b with state := .live, notAfter := 1000299 } = some .closing ∧
      at_ { b with state := .closing, notAfter := 1000200 } = some .closing ∧
      at_ { b with state := .closing, notAfter := 1000199 } = some .expired ∧ LinkOk stage ∧ SyncOk stage := by
  refine ⟨?_, ?_, ?_, ?_, ?_, stage_link, stage_sync⟩ <;> decide +kernel

/-- A stop time is passed only after it, and the closing lead is 600 s. -/
theorem witness_StopTimeSweepRule :
    let at_ := fun h : Nat =>
      ((stopTimeSweep { stage with lanes := stage.lanes.set 0 (some { playingLane with stopTime := h }) }).lanes[
        (0 : LaneNo)]).map fun sc => (sc.status, sc.closingNotice)
    at_ 999999 = some (.ended, false) ∧ at_ 1000000 = some (.running, true) ∧ at_ 1000600 = some (.running, true) ∧
      at_ 1000601 = some (.running, false) ∧ LinkOk stage ∧ SyncOk stage := by
  refine ⟨?_, ?_, ?_, ?_, stage_link, stage_sync⟩ <;> decide +kernel

/-- A revoked bundle whose last lane ends in the sweep is erased, its two pool entries freed, and the lane's queued
rewrap withdrawn (R67, R112). -/
theorem test_stopTimeSweep_buries :
    let s : State :=
      { stage with
        keyring :=
          { stage.keyring with
            slots :=
              stage.keyring.slots.set 0
                (some { liveBundle with state := .revoked, revocationMode := some .afterScreening }) }
        lanes := stage.lanes.set 0 (some { playingLane with stopTime := 999999 }) }
    let t := stopTimeSweep s
    usesOver s 0 = 1 ∧
      (t.keyring.slots[(0 : SlotNo)]).map (fun b => (b.state, b.useCount, b.poolRefs, b.revocationMode)) =
        some (.revoked, 0, [], none) ∧
      t.keyring.pool.map PoolCell.number = [2] ∧ t.engine.queued.map Job.item = [.bind 2] := by
  decide +kernel

/-- The manual's grant 1 (section 6.10): lane 7 wins over lane 3 by rank, lane 5 and the intake by class. -/
theorem witness_GrantRule :
    let lane := fun (p : Position) (t : Nat) =>
      { playingLane with slotX := .holds p t .queued, slotY := .empty }
    let one : Position := { cycle := 1, reel := 1 }
    let s : State :=
      { stage with
        clock := { stage.clock with now := 1080000 }
        lanes :=
          ((State.reset.lanes.set 2 (some (lane one 1080000))).set 4 (some (lane one 1080600))).set 6
            (some { lane one 1080000 with slotY := .holds { cycle := 1, reel := 2 } 1080600 .queued })
        screens := stage.screens.set 4 { binding := .bound 1 [1], bias := 1 }
        engine :=
          { inService := none
            queued :=
              [.intake 4 1, .rewrap 2 .x one 1080000, .rewrap 4 .x one 1080600,
                .rewrap 6 .y { cycle := 1, reel := 2 } 1080600, .rewrap 6 .x one 1080000].map fun i =>
                  { item := i, inSnapshot := false }
            ranks := rankStep State.reset.engine.ranks 10 } }
    RanksOk s ∧ s.engine.inService = none ∧ presented s 7 ≠ none ∧
      (grant s).engine.inService.map (fun j => (j.job.item, j.jobClass)) = some (.rewrap 6 .x one 1080000, 3) ∧
      [0, 3, 5, 7, 10].map (fun q : RequesterNo => (grant s).engine.ranks[q]) = [2, 5, 7, 0, 1] := by
  unfold RanksOk; decide +kernel

/-- What a job of each kind reads in the stage: lane 1's reels are in pool entries 0 and 1. -/
theorem witness_GrantRule_inputs :
    stage.lanes[(0 : LaneNo)] = some playingLane ∧ stage.keyring.slots[(0 : SlotNo)] = some liveBundle ∧
      liveBundle.poolRefs[2 - 1]? = some 1 ∧ poolRising stage.keyring.pool ∧
      ({ number := 1, key := some [2] } : PoolCell) ∈ stage.keyring.pool ∧
      (stage.screens[(0 : LaneNo)]).binding = .bound 11 [3] ∧ (stage.screens[(2 : LaneNo)]).binding = .binding 13 9 ∧
      readInputs stage (.rewrap 0 .y { cycle := 1, reel := 2 } 1000500) = .rewrap (some [2]) (some [3]) ∧
      readInputs stage (.intake 1 1) = .intake (some 5) (some 98) ∧
      readInputs stage (.bind 2) = .bind (some 9) (some 98) := by
  unfold poolRising; decide +kernel

/-! ### Frames -/

/-- The serial check: CRC-16 of the nine digits (R150). -/
theorem test_serialFrame_crc : crc16 ("123456789".toList.map fun c => BitVec.ofNat 8 c.toNat) = 0x29B1 := by decide +kernel

/-- `stage` before any frame has come. -/
def unlinked : State := { stage with link := { stage.link with latch := none, peer := none } }

theorem witness_SerialFramesAreTaken :
    unlinked.powered = true ∧ unlinked.link.latch ≠ some .lan ∧ unlinked.link.serialHeld = [] ∧
      (zeros 1398).length ≤ 1398 ∧ (∀ own ∈ unlinked.store.lineAddress, own = 14) ∧
      (∃ own ∈ unlinked.store.lineAddress, own ≠ (15 : Byte)) ∧
      (0xA5 : Byte) ∉ 15 :: (beBytes 2 2 ++ [1, 7]) ++ beBytes 2 (crc16 (15 :: (beBytes 2 2 ++ [1, 7]))).toNat ∧
      crc16 (14 :: (beBytes 2 2 ++ [1, 7])) ≠ 0 ∧ (0xA5 : Byte) ∉ 14 :: (beBytes 2 2 ++ [1, 7]) ++ beBytes 2 0 ∧
      (after (.serialFrame (serialWire 14 [1, 7])) unlinked).link.receive =
        [{ kind := 1, tag := 7, body := [], sender := .line 14 }] := by
  refine ⟨rfl, by decide, rfl, by decide +kernel, by decide, ⟨14, rfl, by decide⟩, by decide +kernel, by decide +kernel,
    by decide +kernel, by decide +kernel⟩

/-- A LAN frame of the stage's peer to `destination`. -/
def lanWire (destination : StationAddress) (body padding : List Byte) : List Byte :=
  beBytes 6 destination.toNat ++ beBytes 6 77 ++ [0x88, 0xB6] ++ beBytes 2 (body.length + 2) ++ (1 :: 7 :: body) ++
    padding ++ zeros 4

theorem witness_LanFramesAreTaken :
    unlinked.powered = true ∧ unlinked.link.latch ≠ some .serial ∧
      (lanWire 0x020304050607 [] (zeros 42)).length = 64 ∧
      (lanWire 0x020304050607 (zeros 1398) (zeros 98)).length = 1518 ∧
      (∀ own ∈ unlinked.store.station, own = 0x020304050607) ∧ (∃ own ∈ unlinked.store.station, own ≠ 9) ∧
      (after (.lanFrame (lanWire 0x020304050607 [] (zeros 42)) true) unlinked).link.receive =
        [{ kind := 1, tag := 7, body := [], sender := .station 77 }] ∧
      ([2, 44, 45, 1400].map fun n =>
        (({ role := .reply, payload := zeros n } : OutFrame).wire (.lan 77 0x020304050607)).length) =
        [64, 64, 65, 1420] := by
  refine ⟨rfl, by decide, by decide +kernel, by decide +kernel, fun _ h => (Option.some.inj h).symm,
    ⟨0x020304050607, rfl, by decide +kernel⟩, by decide +kernel, by decide +kernel⟩

theorem witness_FramesWaitAndGoInOrder :
    serialWire 14 [1, 7] = 0xA5 :: ([14, 0] ++ [2, 1, 7, 0xF3, 0x12]) ∧ (0xA5 : Byte) ∉ [14, 0] ∧
      (let s : State :=
        { stage with
          link :=
            { stage.link with
              restart := .replying, sending := some lanRoute
              transmit := [{ role := .restartReply, payload := [0x87, 7, 0] }] } };
        s.link.restart ≠ .due ∧ (after .frameSent s).link.restart = .due ∧ (after .frameSent s).link.transmit = [] ∧
          (after .frameSent s).link.sending = none) ∧
      (let s : State :=
        { stage with
          link :=
            { stage.link with
              peer := some (.station 78), sending := some lanRoute
              transmit := [{ role := .reply, payload := [0x84, 7, 1] }, { role := .attention, payload := [0x7F, 0] }] } };
        (after .frameSent s).link.sending = some (.lan 78 0x020304050607)) := by
  decide +kernel

/-! ### Service, provisioning and the session -/

/-- A request with any kind byte. -/
def raw (kind : Byte) (s : State) : State :=
  { s with link := { s.link with receive := [{ kind, tag := 7, body := [], sender := .station 77 }] } }

/-- A controller at its site, before provisioning. -/
def blankStage : State :=
  { State.reset with link := { State.reset.link with latch := some .lan, peer := some (.station 77), armed := false } }

/-- The route of its replies. -/
def blankRoute : Route := .lan 77 Config.blankStation

theorem witness_RequestsAreScreened :
    Taking (req .siteParameter []) [] blankRoute (asking .siteParameter [] blankStage) ∧
      requestOf .siteParameter = some .siteParameter ∧
      status .siteParameter (asking .siteParameter [] blankStage) = some 4 ∧
      [0x00, 0x20, 0x22, 0xFF].map (fun k => status .unknownKind (raw k stage)) = [some 2, some 2, some 2, some 2] ∧
      [0x01, 0x1F, 0x21].map (fun k => status .unknownKind (raw k stage)) = [none, none, none] ∧
      status .collect (asking .collect [] { stage with powered := false }) = none ∧
      status .collect (asking .dismiss [] stage) = none :=
  ⟨⟨rfl, rfl, rfl, rfl, rfl⟩, rfl, by decide +kernel, by decide +kernel, by decide +kernel, by decide +kernel,
    by decide +kernel⟩

theorem witness_RefusalsChangeNothing :
    requestOf .collect = some .collect ∧ Serving .collect (req .collect [0]) [] lanRoute (asking .collect [0] stage) ∧
      reply .collect (asking .collect [0] stage) = some [0x84, 7, 1] :=
  ⟨rfl, asking_serving _ _, by decide +kernel⟩

/-- The status replies are as long as section 12.5 makes them: three bytes before the body. -/
theorem witness_StatusReplies :
    Serving .identify (req .identify []) [] lanRoute (asking .identify [] stage) ∧
      (reply .identify (asking .identify [] stage)).map List.length = some (3 + 56) ∧
      (reply .clockStatus (asking .clockStatus [] stage)).map List.length = some (3 + 18) ∧
      (reply .marginStatus (asking .marginStatus [] stage)).map List.length = some (3 + 192) ∧
      (reply .listRevocations (asking .listRevocations [] stage)).map List.length = some (3 + 1 + 13) ∧
      (reply .engineStatus (asking .engineStatus [] stage)).map List.length = some (3 + 106) ∧
      status .engineStatus (asking .engineStatus [0] stage) = some 1 :=
  ⟨asking_serving _ _, by decide +kernel, by decide +kernel, by decide +kernel, by decide +kernel, by decide +kernel,
    by decide +kernel⟩

/-- PROVISION_WRITE at the edges of its checks, with slot codes 1 SERIAL to 6 IDENTITY. -/
theorem witness_WritesAreMadeOnce :
    Serving .provisionWrite (req .provisionWrite [2, 4, 183]) [] blankRoute (asking .provisionWrite [2, 4, 183] blankStage) ∧
      ([[2, 0, 0], [2, 4, 183], [3, 0], [3, 255], [3, 1], [3, 254], [4, 1, 0, 0, 0, 0, 5], 4 :: zeros 6,
          [4, 2, 0, 0, 0, 0, 5], [7, 1], [2, 4], [1, 9, 9, 9, 9, 9, 9, 9, 9], 1 :: zeros 8].map fun body =>
        status .provisionWrite (asking .provisionWrite body blankStage)) =
        [some 1, some 0, some 1, some 1, some 0, some 0, some 1, some 1, some 0, some 1, some 1, some 6, some 0] ∧
      status .provisionWrite (asking .provisionWrite [2, 4, 183] stage) = some 5 ∧
      (after .provisionWrite (asking .provisionWrite [2, 4, 183] blankStage)).store.site = some 1207 :=
  ⟨⟨⟨rfl, rfl, rfl, rfl, rfl⟩, rfl, .inl rfl⟩, by decide +kernel, by decide +kernel, by decide +kernel⟩

/-- FINALIZE with a slot BLANK, with all WRITTEN, and again. -/
theorem witness_FinalizeAnswersByTheStore :
    Serving .provisionFinalize (req .provisionFinalize []) [] blankRoute (asking .provisionFinalize [] blankStage) ∧
      reply .provisionFinalize (asking .provisionFinalize [] blankStage) = some [0x83, 7, 7, 0, 1, 1] ∧
      reply .provisionFinalize (asking .provisionFinalize [] { stage with store := { finalStore with state := .open_ } }) =
        some [0x83, 7, 0, 0, 2, 0x3F] ∧
      reply .provisionFinalize (asking .provisionFinalize [] stage) = some [0x83, 7, 0, 0, 2, 0x3F] :=
  ⟨⟨⟨rfl, rfl, rfl, rfl, rfl⟩, rfl, .inl rfl⟩, by decide +kernel, by decide +kernel, by decide +kernel⟩

/-- The first COLLECT of section 10.6: link, slots 3 and 9 pending; the cursor ends on slot 10 and the flag is set. -/
theorem witness_CollectTakesEightSubjects :
    let s := asking .collect [] { stage with
      link := { stage.link with
        startCause := .power, notices := ((State.reset.link.notices.set 37 2).set 43 4) } }
    Serving .collect (req .collect []) [] lanRoute s ∧
      reply .collect s = some [0x84, 7, 0, 3, 0, 1, 1, 37, 2, 0, 43, 4, 0, 0] ∧
      (after .collect s).link.cursor = 44 ∧ (after .collect s).link.armed = true :=
  ⟨⟨⟨rfl, rfl, rfl, rfl, rfl⟩, rfl, .inr rfl⟩, by decide +kernel, by decide +kernel, by decide +kernel⟩

/-- DISMISS of a lane's kinds, of a kind its subject does not take, and past the last subject; NOTICE_HOLD cleared
with notices waiting. -/
theorem witness_DismissAndHold :
    let s : State := { stage with link := { stage.link with armed := true, hold := true, notices := State.reset.link.notices.set 6 3 } }
    Serving .dismiss (req .dismiss [1, 6, 1]) [] lanRoute (asking .dismiss [1, 6, 1] stage) ∧
      reply .dismiss (asking .dismiss [1, 6, 1] s) = some [0x85, 7, 0, 6, 2] ∧
      ([[1, 1, 4], [0, 97, 0], [0, 98, 0], [2, 6, 1]].map fun body => status .dismiss (asking .dismiss body s)) =
        [some 1, some 0, some 1, some 1] ∧
      Serving .noticeHold (req .noticeHold [0]) [] lanRoute (asking .noticeHold [0] stage) ∧
      (after .noticeHold (asking .noticeHold [0] s)).link.transmit.map OutFrame.payload = [[0x86, 7, 0, 0], [0x7F, 0]] :=
  ⟨asking_serving _ _, by decide +kernel, by decide +kernel, asking_serving _ _, by decide +kernel⟩

/-- RESTART's reply is sent first; the reset then discards the intake and the lanes and keeps the clock. -/
theorem witness_RestartResetsTheSession :
    Serving .restart (req .restart []) [] lanRoute (asking .restart [] stage) ∧
      reply .restart (asking .restart [] stage) = some [0x87, 7, 0] ∧
      (let s : State := { stage with link := { stage.link with restart := .due } };
        s.powered = true ∧ s.link.restart = .due ∧ (after .restartReset s).clock = stage.clock ∧
          (after .restartReset s).lanes[(0 : LaneNo)] = none ∧
          (after .restartReset s).keyring.slots[(1 : SlotNo)] = none ∧ (after .restartReset s).link.latch = none ∧
          (after .restartReset s).link.startCause = .restart) :=
  ⟨asking_serving _ _, by decide +kernel, by decide +kernel⟩

/-! ### Parameters, claims and tables -/

/-- A SITE_PARAMETER body. -/
def parameters (presence : Byte) (l m n c : Nat) : List Byte :=
  presence :: (beBytes 2 l ++ beBytes 2 m ++ beBytes 2 n ++ beBytes 2 c)

/-- Clamps at their edges: L 7,200, floor 3,600, closing lead 60; the raised floor raises M. -/
theorem witness_ParametersAreClampedAndJudged :
    Serving .siteParameter (req .siteParameter (parameters 0 0 0 0 0)) [] lanRoute
        (asking .siteParameter (parameters 0 0 0 0 0) stage) ∧
      SyncOk (asking .siteParameter (parameters 0 0 0 0 0) stage) ∧
      (parseParameters (parameters 15 65535 65535 65535 0)).isSome = true ∧ parseParameters (parameters 16 0 0 0 0) = none ∧
      reply .siteParameter (asking .siteParameter (parameters 15 7201 3601 3600 59) stage) =
        some ([0x88, 7, 0] ++ beBytes 2 7200 ++ beBytes 2 3600 ++ beBytes 2 3600 ++ beBytes 2 60 ++ beBytes 2 3600) ∧
      reply .siteParameter (asking .siteParameter (parameters 9 5 0 0 3601) stage) =
        some ([0x88, 7, 0] ++ beBytes 2 5 ++ beBytes 2 0 ++ beBytes 2 1800 ++ beBytes 2 3600 ++ beBytes 2 300) :=
  ⟨asking_serving _ _, asking_sync _ _, by decide +kernel, by decide +kernel, by decide +kernel, by decide +kernel⟩

/-- A TIME_CLAIM body. -/
def claim (T : Nat) : List Byte := beBytes 4 T ++ zeros 32

/-- A claim with a good tag. -/
def goodClaim (T : Nat) : Instr := .timeClaim (some { authority := 99, site := 1207, time := T }) .windowFirst

/-- "A single clamped claim" (section 1.10), the first claim after retained loss, a bad tag, and a short body. -/
theorem witness_ClaimsAreRationed :
    let s : State := { stage with clock := { stage.clock with now := 5000000 } }
    Serving .timeClaim (req .timeClaim (claim 4999800)) [] lanRoute (asking .timeClaim (claim 4999800) stage) ∧
      SyncOk (asking .timeClaim (claim 4999800) stage) ∧
      parseClaim (claim 4999800) = some 4999800 ∧ parseClaim (zeros 35) = none ∧
      (after (goodClaim 4999800) (asking .timeClaim (claim 4999800) s)).clock =
        { s.clock with now := 4999880, allowance := 0, residual := -80 } ∧
      reply (goodClaim 4999800) (asking .timeClaim (claim 4999800) s) =
        some ([0x89, 7, 0, 2] ++ beBytes 4 4294967176 ++ beBytes 4 4294967216 ++ beBytes 2 0 ++ beBytes 4 4999880) ∧
      status (goodClaim 4999801) (asking .timeClaim (claim 4999800) s) = some 9 ∧
      (let t := after (goodClaim 1079000) (asking .timeClaim (claim 1079000) unsetStage);
        t.clock.now = 1079000 ∧ t.clock.allowance = 300 ∧ t.clock.state = .running ∧ t.margin.margin = 0) := by
  refine ⟨asking_serving _ _, asking_sync _ _, ?_⟩
  decide +kernel

/-- Claims of exactly the allowance and of one second more, either way; and "A clamped claim widens the margin" (section
13.3), whose reply is the manual's, without the M that the claim has changed from 0 to 300. -/
theorem test_timeClaim_edges :
    (let s : State :=
      { stage with
        clock :=
          { stage.clock with now := 1082000, allowance := 60, staleness := 43, minuteCountdown := 40 }
        margin := { stage.margin with margin := 0 } }
     let t := after (goodClaim 1082150) (asking .timeClaim (claim 1082150) s)
     t.margin.margin = 300 ∧
      reply (goodClaim 1082150) (asking .timeClaim (claim 1082150) s) =
        some ([0x89, 7, 0, 2] ++ beBytes 4 60 ++ beBytes 4 90 ++ beBytes 2 0 ++ beBytes 4 1082060)) ∧
    ([1000120, 1000121, 999880, 999879].map fun T =>
      let c := (after (goodClaim T) (asking .timeClaim (claim T) stage)).clock
      (c.now, c.allowance, c.residual)) =
      [(1000120, 0, 0), (1000120, 0, 1), (999880, 0, 0), (999880, 0, -1)] := by
  decide +kernel

/-- SET_SHAPE clamps and refuses shape 8; SET_TERM refuses an absent combinator with antecedent B present. -/
theorem witness_TablesAreSetAndJudged :
    let shape := fun i : Byte => [i, 1, 1] ++ beBytes 4 65536 ++ beBytes 4 10 ++ beBytes 4 70000 ++ [0, 1]
    let term := fun (i present combinator : Byte) => [i, 1, 0, 0, present, 7, 1, combinator] ++ beBytes 4 3601
    Serving .setShape (req .setShape (shape 7)) [] lanRoute (asking .setShape (shape 7) stage) ∧
      SyncOk (asking .setShape (shape 7) stage) ∧
      ([0, 7, 8].map fun i => status .setShape (asking .setShape (shape i) stage)) = [some 0, some 0, some 1] ∧
      (reply .setShape (asking .setShape (shape 7) stage)).map (fun p => (p.take 14).drop 3) =
        some ([7, 1, 1] ++ beBytes 2 65535 ++ beBytes 2 10 ++ beBytes 2 65535 ++ [0, 1]) ∧
      Serving .setTerm (req .setTerm (term 7 1 1)) [] lanRoute (asking .setTerm (term 7 1 1) stage) ∧
      SyncOk (asking .setTerm (term 7 1 1) stage) ∧
      ([(7, 1, 1), (7, 1, 3), (7, 0, 3), (8, 1, 1)].map fun (i, p, c) => status .setTerm (asking .setTerm (term i p c) stage)) =
        [some 0, some 1, some 0, some 1] ∧
      (reply .setTerm (asking .setTerm (term 7 0 3) stage)).map (fun p => (p.take 13).drop 3) =
        some ([7, 1, 0, 0, 0, 0, 0, 0] ++ beBytes 2 3600) := by
  refine ⟨asking_serving _ _, asking_sync _ _, ?_, ?_, asking_serving _ _, asking_sync _ _, ?_, ?_⟩ <;> decide +kernel

/-! ### Keyring and revocation -/

/-- A delivery's bytes before its tag, for every screen. -/
def covered (id feature : Ident) (nb na grace : Nat) (allowance reels : Byte) : List Byte :=
  beBytes 8 id.toNat ++ beBytes 8 feature.toNat ++ beBytes 4 nb ++ beBytes 4 na ++ beBytes 2 grace ++
    [allowance, 0, reels] ++ zeros (40 * reels.toNat)

/-- A DELIVER_BUNDLE with a good tag. -/
def goodDelivery (c : List Byte) : Instr := .deliverBundle (some { identity := 98, covered := c })

/-- What a delivery is answered. -/
def delivered (c : List Byte) (s : State) : Option (List Byte) :=
  (reply (goodDelivery c) (asking .deliverBundle (c ++ zeros 32) s)).map (·.drop 2)

/-- The keyring of section 3.10: two live bundles of 10 and 12 reels and a tombstone. -/
def threeSlots : State :=
  { stage with
    clock := { stage.clock with now := 1050600 }
    keyring :=
      { slots :=
          ((State.reset.keyring.slots.set 0
              (some { liveBundle with bundleId := 10, featureId := 1, reelCount := 10, useCount := 0 })).set 1
            (some { liveBundle with bundleId := 11, featureId := 2, reelCount := 12, useCount := 0 })).set 2
            (some { spentBundle with bundleId := 7, featureId := 3, entryTime := 1050000 })
        pool := (List.finRange 768).take 22 |>.map fun n => { number := n, key := some [1] }
        intakeQueue := [], listCursor := 0 }
    engine := State.reset.engine, lanes := State.reset.lanes }

/-- The three deliveries of section 3.10 (slots 3, 4 and 2), and each refusal of R42 at its edge. -/
theorem witness_DeliveriesAreCheckedAndPlaced :
    let live := covered 20 4 1000000 1200000 3600 2 8
    Serving .deliverBundle (req .deliverBundle (live ++ zeros 32)) [] lanRoute
        (asking .deliverBundle (live ++ zeros 32) stage) ∧
      JobsOk stage ∧ (parseDelivery (live ++ zeros 32)).isSome = true ∧
      (let second := after (goodDelivery live) (asking .deliverBundle (live ++ zeros 32) threeSlots);
        delivered live threeSlots = some [0, 3] ∧ second.engine.inService.map (·.job.item) = some (.intake 3 1) ∧
          freeEntries second.keyring = 738) ∧
      delivered (covered 7 3 1000000 1200000 3600 2 7) threeSlots = some [0, 2] ∧
      delivered (covered 20 4 1000000 1050600 0 2 1) threeSlots = some [0, 3] ∧
      delivered (covered 20 4 1000000 1050599 0 2 1) threeSlots = some [0x0F] ∧
      delivered (covered 10 9 1000000 1200000 0 2 1) threeSlots = some [0x0B] ∧
      delivered (covered 500 9 1000000 1200000 0 2 1) { threeSlots with revocations := stage.revocations } = some [0x0A] ∧
      delivered (covered 20 9 1000000 1200000 0 2 24)
          { threeSlots with
            keyring :=
              { threeSlots.keyring with
                pool := (List.finRange 768).take 745 |>.map fun n => { number := n, key := none } } } = some [0x0E] ∧
      delivered (covered 20 9 1000000 1200000 0 2 1)
          { threeSlots with keyring := { threeSlots.keyring with intakeQueue := [5, 6, 7, 8] } } = some [3] ∧
      delivered live unsetStage = some [8] ∧
      (reply (.deliverBundle none) (asking .deliverBundle (live ++ zeros 32) threeSlots)).map (·.drop 2) = some [9] := by
  refine ⟨asking_serving _ _, stage_jobs, ?_, ?_⟩ <;> decide +kernel

/-- Five records of one feature, and no slot without a record that is not a tombstone. -/
theorem test_deliverBundle_full :
    let one := covered 20 4 1000000 1200000 0 2 1
    let many := fun (n : Nat) (feature : Ident) =>
      { threeSlots with
        keyring :=
          { threeSlots.keyring with
            slots := Vector.ofFn fun i : SlotNo =>
              if i.val < n then
                some { liveBundle with bundleId := BitVec.ofNat 64 (100 + i.val), featureId := feature, poolRefs := [] }
              else none } }
    delivered one (many 3 4) = some [0, 3] ∧ delivered one (many 4 4) = some [0x0C] ∧
      delivered one (many 63 5) = some [0, 63] ∧ delivered one (many 64 5) = some [0x0D] := by
  decide +kernel

/-- A status record is 71 bytes, and sixteen of them make 1,141 (section 12.5). -/
theorem witness_RecordsAreReadAsTheyStand :
    let byId := 2 :: 0 :: beBytes 8 103
    let full : State :=
      { stage with
        keyring :=
          { stage.keyring with
            slots := Vector.ofFn fun i : SlotNo =>
              if i.val % 2 = 1 then some { spentBundle with bundleId := BitVec.ofNat 64 i.val } else none } }
    Serving .bundleStatus (req .bundleStatus byId) [] lanRoute (asking .bundleStatus byId stage) ∧ RecordsOk stage ∧
      (reply .bundleStatus (asking .bundleStatus byId stage)).map (fun p => (p.length, p.take 5)) =
        some (3 + 71, [0x8F, 7, 0, 2, 5]) ∧
      ([1 :: 63 :: zeros 8, 1 :: 64 :: zeros 8, 2 :: 0 :: beBytes 8 999, 3 :: 0 :: zeros 8].map fun body =>
        status .bundleStatus (asking .bundleStatus body stage)) = [some 0x10, some 1, some 0x10, some 1] ∧
      Serving .listBundles (req .listBundles []) [] lanRoute (asking .listBundles [] stage) ∧
      (reply .listBundles (asking .listBundles [] full)).map List.length = some (3 + 1141) ∧
      (after .listBundles (asking .listBundles [] full)).keyring.listCursor = 32 ∧
      (after .listBundles (asking .listBundles [63] full)).keyring.listCursor = 30 ∧
      (after .listBundles (asking .listBundles [63] stage)).keyring.listCursor = 63 ∧
      status .listBundles (asking .listBundles [64] stage) = some 1 :=
  ⟨asking_serving _ _, by unfold RecordsOk; decide +kernel, by decide +kernel, by decide +kernel, asking_serving _ _,
    by decide +kernel, by decide +kernel, by decide +kernel, by decide +kernel, by decide +kernel⟩

/-- DELETE_BUNDLE of a bundle in use, of one in intake, of a tombstone, of none, and of one with its keys. -/
theorem witness_DeletionEmptiesTheSlot :
    let idle : State :=
      { stage with keyring := { stage.keyring with slots := stage.keyring.slots.set 0 (some { liveBundle with useCount := 0 }) } }
    Serving .deleteBundle (req .deleteBundle (beBytes 8 101)) [] lanRoute (asking .deleteBundle (beBytes 8 101) stage) ∧
      RecordsOk stage ∧
      ([101, 102, 103, 104].map fun id => status .deleteBundle (asking .deleteBundle (beBytes 8 id) stage)) =
        [some 0x11, some 3, some 0, some 0x10] ∧
      (let t := after .deleteBundle (asking .deleteBundle (beBytes 8 101) idle);
        t.keyring.slots[(0 : SlotNo)] = none ∧ freeEntries t.keyring = 767) :=
  ⟨asking_serving _ _, by unfold RecordsOk; decide +kernel, by decide +kernel, by decide +kernel⟩

/-- An order's bytes before its tag. -/
def order (kind : Byte) (id : Ident) (mode : Byte) (expires : Nat) : List Byte :=
  [kind] ++ beBytes 8 id.toNat ++ [mode] ++ beBytes 4 expires

/-- What an order with a good tag is answered. -/
def ordered (o : List Byte) (s : State) : Option (List Byte) :=
  (reply (.revoke (some { authority := 99, covered := o })) (asking .revoke (o ++ zeros 32) s)).map (·.drop 2)

/-- The full list and the keyring of section 5.10. -/
def fullList : State :=
  let entry := fun (kind : TargetKind) (target : Ident) (expires : Nat) =>
    ({ kind, target, expires } : RevocationEntry)
  let lane := fun i : JobItem => ({ item := i, inSnapshot := false } : Job)
  { stage with
    clock := { stage.clock with now := 3000000 }
    revocations :=
      [entry .feature 9 3100000, entry .bundle 44 3050000, entry .bundle 45 3050000, entry .feature 2 3400000] ++
        (List.range 28).map fun i => entry .bundle (BitVec.ofNat 64 (1000 + i)) 3600000
    keyring :=
      { slots :=
          ((((State.reset.keyring.slots.set 6
            (some { liveBundle with bundleId := 30, featureId := 6, useCount := 2, poolRefs := [0, 1] })).set 8
            (some { liveBundle with bundleId := 31, featureId := 6, state := .waiting, useCount := 0, poolRefs := [2, 3] })).set 11
            (some
              { intakeBundle with bundleId := 32, featureId := 6, reelCount := 8, reelsUnwrapped := 3, poolRefs := [4] })).set 13
            (some { spentBundle with bundleId := 29, featureId := 6 })).set 15
            (some { intakeBundle with bundleId := 33, featureId := 7, poolRefs := [5] })
        pool := (List.finRange 768).take 6 |>.map fun n => { number := n, key := some [1] }
        intakeQueue := [11, 15], listCursor := 0 }
    lanes :=
      (State.reset.lanes.set 4 (some { playingLane with bundleSlot := 6 })).set 8
        (some { playingLane with bundleSlot := 6, slotY := .empty })
    engine :=
      { inService :=
          some
            { job := lane (.intake 11 4), jobClass := 1, discard := false
              inputs := .intake (some 5) (some 98) }
        queued := [lane (.rewrap 4 .y { cycle := 1, reel := 2 } 1000500)]
        ranks := State.reset.engine.ranks } }

/-- The two orders of section 5.10, then the list's other actions, and the edges of R74's checks. -/
theorem witness_OrdersStrikeTheKeyring :
    let first := order 2 6 1 3500000
    let t := after (.revoke (some { authority := 99, covered := first })) (asking .revoke (first ++ zeros 32) fullList)
    Serving .revoke (req .revoke (first ++ zeros 32)) [] lanRoute (asking .revoke (first ++ zeros 32) stage) ∧
      SyncOk (asking .revoke (first ++ zeros 32) stage) ∧
      RevocationsOk stage ∧ JobsOk stage ∧ (parseOrder (first ++ zeros 32)).isSome = true ∧
      ordered (order 2 6 1 3040000) fullList = some [0x12] ∧ ordered (order 2 6 1 3050000) fullList = some [0x12] ∧
      ordered first fullList = some [0, 4, 3, 2, 32] ∧
      t.revocations[1]?.map RevocationEntry.target = some 45 ∧ t.keyring.intakeQueue = [15] ∧ t.engine.queued = [] ∧
      t.engine.inService.map (·.discard) = some true ∧ freeEntries t.keyring = 765 ∧
      (t.lanes[(4 : LaneNo)]).map (fun sc => (sc.status, sc.slotY)) = some (.stopping, .empty) ∧
      [6, 8, 11].map (fun i : SlotNo => (t.keyring.slots[i]).map fun b => (b.state, b.revocationMode)) =
        [some (.revoked, some .immediate), some (.revoked, none), some (.revoked, none)] ∧
      ordered (order 1 500 1 1000000) stage = some [1] ∧ ordered (order 1 500 1 1000001) stage = some [0, 2, 0, 0, 1] ∧
      ordered (order 2 500 2 1000001) stage = some [0, 1, 0, 0, 2] ∧ ordered (order 3 500 2 1000001) stage = some [1] ∧
      ordered (order 1 500 1 1000001) { stage with revocations := [{ kind := .bundle, target := 500, expires := 1000001 }] } =
        some [0, 3, 0, 0, 1] := by
  refine ⟨asking_serving _ _, asking_sync _ _, by unfold RevocationsOk; decide +kernel, stage_jobs, ?_⟩
  decide +kernel

/-- SYNC with a body, with one pending, with no job, and with jobs. -/
theorem witness_SyncTakesASnapshot :
    Serving .sync (req .sync []) [] lanRoute (asking .sync [] stage) ∧
      status .sync (asking .sync [0] stage) = some 1 ∧
      status .sync (asking .sync [] { stage with link := { stage.link with pendingSync := some 1 } }) = some 3 ∧
      status .sync (asking .sync [] { stage with engine := State.reset.engine }) = some 0 ∧
      (let t := after .sync (asking .sync [] stage);
        t.link.transmit = [] ∧ t.link.pendingSync = some 7 ∧ t.engine.queued.map Job.inSnapshot = [true, true]) :=
  ⟨asking_serving _ _, by decide +kernel, by decide +kernel, by decide +kernel, by decide +kernel⟩

/-! ### Screens, lanes and reels -/

/-- A BIND_SCREEN body. -/
def bind (screen bias : Byte) : List Byte := [screen] ++ zeros 8 ++ zeros 48 ++ [bias]

/-- Screens are set while their lane is CLOSED: lanes 1 and 2 of the stage are not, and there is no screen 0 or 33. -/
theorem witness_ScreensAreSetWhileClosed :
    Serving .bindScreen (req .bindScreen (bind 32 3)) [] lanRoute (asking .bindScreen (bind 32 3) stage) ∧
      SyncOk (asking .bindScreen (bind 32 3) stage) ∧
      (parseBind (bind 1 2)).isSome = true ∧
      ([0, 1, 2, 3, 32, 33].map fun i => status .bindScreen (asking .bindScreen (bind i 3) stage)) =
        [some 1, some 0x13, some 0x13, some 0, some 0, some 1] ∧
      reply .bindScreen (asking .bindScreen (bind 32 3) stage) = some [0x95, 7, 0, 2] ∧
      (after .bindScreen (asking .bindScreen (bind 32 3) { stage with engine := State.reset.engine })).engine.inService.map
          (·.job.item) = some (.bind 31) ∧
      Serving .unbindScreen (req .unbindScreen [3]) [] lanRoute (asking .unbindScreen [3] stage) ∧
      SyncOk (asking .unbindScreen [3] stage) ∧
      ([0, 1, 2, 3, 32, 33].map fun i => status .unbindScreen (asking .unbindScreen [i] stage)) =
        [some 1, some 0x13, some 0x13, some 0, some 0, some 1] ∧
      (after .unbindScreen (asking .unbindScreen [3] stage)).engine.queued.length = 1 ∧
      Serving .setBias (req .setBias [3, 3]) [] lanRoute (asking .setBias [3, 3] stage) ∧
      ([[0, 1], [1, 1], [3, 255], [33, 1]].map fun body => reply .setBias (asking .setBias body stage)) =
        [some [0x97, 7, 1], some [0x97, 7, 0x13], some [0x97, 7, 0, 2], some [0x97, 7, 1]] := by
  refine ⟨asking_serving _ _, asking_sync _ _, ?_, ?_, ?_, ?_, asking_serving _ _, asking_sync _ _, ?_, ?_, asking_serving _ _, ?_⟩ <;> decide +kernel

/-- The keyring and screens of section 7.9: M = 393, two LIVE bundles of F1 and one WAITING. -/
def choosing : State :=
  let b := { liveBundle with featureId := 1, notBefore := 1000000, reelCount := 6 }
  let bound := fun i : Ident => ({ binding := .bound i [1], bias := 0 } : Screen)
  { stage with
    clock := { stage.clock with now := 1080000 }
    margin := { stage.margin with margin := 393 }
    keyring :=
      { stage.keyring with
        slots :=
          ((State.reset.keyring.slots.set 2 (some { b with bundleId := 2, notAfter := 1086400, grace := 7200 })).set 9
            (some { b with bundleId := 9, notAfter := 1100000, grace := 0, allowance := 1, screens := .only [2, 4] })).set 20
            (some
              { b with bundleId := 20, notAfter := 1150000, grace := 0, allowance := 4, useCount := 0, state := .waiting })
        intakeQueue := [] }
    engine := State.reset.engine
    screens := ((State.reset.screens.set 4 (bound 5)).set 5 (bound 6)).set 6 (bound 7)
    lanes := State.reset.lanes.set 0 (some playingLane) }

/-- An OPEN_SCREENING body. -/
def open_ (lane : Byte) (feature : Ident) (planned : Nat) (presence : Byte) (bundle : Ident) (reel total : Byte) : List Byte :=
  [lane] ++ beBytes 8 feature.toNat ++ beBytes 4 planned ++ [presence] ++ beBytes 8 bundle.toNat ++ [reel, total]

/-- The opens of section 7.9, and each other refusal of R107. -/
theorem witness_OpensAreCheckedAndBegun :
    let status := fun body : List Byte => status .openScreening (asking .openScreening body choosing)
    let good := open_ 5 1 1089000 0 0 0 0
    let t := after .openScreening (asking .openScreening good choosing)
    let one : Position := { cycle := 1, reel := 1 }
    Serving .openScreening (req .openScreening good) [] lanRoute (asking .openScreening good stage) ∧
      (parseOpen good).isSome = true ∧
      reply .openScreening (asking .openScreening good choosing) =
        some ([0x98, 7, 0, 2] ++ beBytes 2 393 ++ beBytes 4 1090200) ∧
      (t.keyring.slots[(2 : SlotNo)]).map Bundle.useCount = some 2 ∧
      (t.lanes[(4 : LaneNo)]).map (fun sc => (sc.slotX, sc.slotY)) =
        some (.holds one 1080000 .unwrapping, .holds { cycle := 1, reel := 2 } 1080600 .queued) ∧
      [status (open_ 5 1 1095000 0 0 0 0), status (open_ 7 1 1089000 1 20 0 0), status (open_ 0 1 1089000 0 0 0 0),
          status (open_ 1 1 1089000 0 0 0 0), status (open_ 4 1 1089000 0 0 0 0), status (open_ 5 2 1089000 0 0 0 0),
          status (open_ 5 1 1089000 1 3 0 0), status (open_ 6 1 1089000 1 9 0 0), status (open_ 5 1 1099607 1 9 0 0),
          status (open_ 5 1 1099608 1 9 0 0), status (open_ 5 1 1080000 0 0 0 0), status (open_ 5 1 1080001 2 0 6 0),
          status (open_ 5 1 1080001 2 0 7 0), status (open_ 5 1 1080001 2 0 0 0)] =
        [some 0x19, some 0x15, some 1, some 0x13, some 0x14, some 0x10, some 0x10, some 0x17, some 0x19, some 0x18,
          some 1, some 0, some 1, some 1] := by
  refine ⟨asking_serving _ _, ?_⟩
  decide +kernel

/-- Lane 1 as it plays and a CLOSED lane, 11 + 64 bytes each (section 12.5). -/
theorem witness_LanesAreReadAsTheyStand :
    Serving .laneStatus (req .laneStatus [1]) [] lanRoute (asking .laneStatus [1] stage) ∧
      ([1, 32].map fun l => (reply .laneStatus (asking .laneStatus [l] stage)).map List.length) = [some 78, some 78] ∧
      ([0, 33].map fun l => status .laneStatus (asking .laneStatus [l] stage)) = [some 1, some 1] :=
  ⟨asking_serving _ _, by decide +kernel, by decide +kernel⟩

/-- `stage` with lane 1's screening changed. -/
def laneOne (f : Screening → Screening) : State := { stage with lanes := stage.lanes.set 0 (some (f playingLane)) }

/-- END_SCREENING of a RUNNING and a STOPPING lane, an ENDED and a CLOSED one; CLOSE_LANE the other way about. -/
theorem witness_LanesEndAndClose :
    Serving .endScreening (req .endScreening [1]) [] lanRoute (asking .endScreening [1] stage) ∧
      SyncOk (asking .endScreening [1] stage) ∧
      reply .endScreening (asking .endScreening [1] stage) = some ([0x9A, 7, 0, 1] ++ beBytes 4 1000000) ∧
      reply .endScreening (asking .endScreening [1] (laneOne fun sc => { sc with status := .stopping })) =
        some ([0x9A, 7, 0, 3] ++ beBytes 4 1000000) ∧
      ([2, 32].map fun l => status .endScreening (asking .endScreening [l] stage)) = [some 0x1A, some 0x1A] ∧
      Serving .closeLane (req .closeLane [2]) [] lanRoute (asking .closeLane [2] stage) ∧
      ([1, 2, 32].map fun l => status .closeLane (asking .closeLane [l] stage)) = [some 0x1B, some 0, some 0x1B] ∧
      status .closeLane (asking .closeLane [1] (laneOne fun sc => { sc with status := .faulted })) = some 0 :=
  ⟨asking_serving _ _, asking_sync _ _, by decide +kernel, by decide +kernel, by decide +kernel, asking_serving _ _, by decide +kernel,
    by decide +kernel⟩

/-- A position. -/
def at_ (cycle reel : Nat) : Position := { cycle, reel }

/-- "A three-reel screening" (section 8.9) at its fetches: not held, first release, repeat, not READY, and past H. -/
theorem witness_ReelsAreReleased :
    let early := laneOne fun sc =>
      { sc with
        current := at_ 1 0, slotX := .holds (at_ 1 1) 999990 (.ready 6), report := { sc.report with entries := [] } }
    let t := after .fetchReel (asking .fetchReel [1, 1] early)
    Serving .fetchReel (req .fetchReel [1, 1]) [] lanRoute (asking .fetchReel [1, 1] stage) ∧
      (parseFetch [32, 24]).isSome = true ∧ parseFetch [1, 0] = none ∧ parseFetch [1, 25] = none ∧
      ([[1, 3], [1, 2], [2, 1], [32, 1]].map fun body => status .fetchReel (asking .fetchReel body stage)) =
        [some 0x1E, some 0x1C, some 0x1A, some 0x1A] ∧
      (reply .fetchReel (asking .fetchReel [1, 1] early)).map (fun p => (p.length, p[14]?)) = some (55, some 0) ∧
      (reply .fetchReel (asking .fetchReel [1, 1] stage)).map (fun p => (p.length, p[14]?)) = some (55, some 1) ∧
      (t.lanes[(0 : LaneNo)]).map (fun sc => sc.report.entries) =
        some [{ position := at_ 1 1, released := 1000000, neededBy := 999990, lateness := 10 }] ∧
      (t.lanes[(0 : LaneNo)]).map (fun sc => sc.slotX) = some (.holds (at_ 1 1) 999990 (.delivered 6)) ∧
      ([999999, 1000000].map fun h => status .fetchReel (asking .fetchReel [1, 1] (laneOne fun sc => { sc with stopTime := h }))) =
        [some 0x0F, some 0] ∧
      status .fetchReel (asking .fetchReel [1, 1] (laneOne fun sc => { sc with status := .stopping })) = some 0x0A := by
  refine ⟨asking_serving _ _, ?_⟩
  decide +kernel

/-- A slot before, at and after the position; the same reel in both cycles is taken from the one after. -/
theorem test_fetchReel_twoSlots :
    let sc := { playingLane with current := at_ 1 1, slotX := .holds (at_ 1 1) 0 (.delivered 1)
                                 slotY := .holds (at_ 2 1) 0 (.ready 2), repeatTotal := 2 }
    sc.findReel 1 = some .y ∧ { sc with current := at_ 1 0 }.findReel 1 = some .x ∧
      { sc with slotY := .empty }.findReel 1 = some .x ∧ sc.findReel 2 = none := by
  decide

/-- A REEL_BEGIN body. -/
def begin_ (lane reel presence : Byte) (t : Nat) : List Byte := [lane, reel, presence] ++ beBytes 4 t

/-- Begins of section 8.9: out of sequence, of a reel not yet fetched, of the next reel with its refill; on a STOPPING
lane; and an amendment whose stop time has passed (section 9.6). -/
theorem witness_BeginsFollowThePlayback :
    let three := fun s : State =>
      { s with
        keyring :=
          { s.keyring with slots := s.keyring.slots.set 0 (some { liveBundle with reelCount := 3, poolRefs := [0, 1, 5] }) } }
    let second := fun sc : Screening => { sc with slotY := .holds (at_ 1 2) 1000500 (.delivered 8) }
    let amended := fun (E : Nat) (sc : Screening) =>
      { second sc with amendment := some { plannedEnd := some E, repeatTotal := some 1 } }
    let begun := fun s : State => reply .reelBegin (asking .reelBegin (begin_ 1 2 1 1205000) s)
    Serving .reelBegin (req .reelBegin (begin_ 1 2 1 0)) [] lanRoute (asking .reelBegin (begin_ 1 2 1 0) stage) ∧
      SyncOk (asking .reelBegin (begin_ 1 2 1 0) stage) ∧
      (parseBegin (begin_ 32 24 1 0)).isSome = true ∧ parseBegin (begin_ 1 1 2 0) = none ∧
      ([begin_ 1 1 0 0, begin_ 1 3 0 0, begin_ 1 2 0 0, begin_ 2 1 0 0, begin_ 32 1 0 0].map fun body =>
        status .reelBegin (asking .reelBegin body (three stage))) =
        [some 0x1E, some 0x1E, some 0x1D, some 0x1A, some 0x1A] ∧
      begun (three (laneOne second)) = some ([0x9D, 7, 0, 2, 1, 2, 1, 1, 3] ++ beBytes 4 1205000) ∧
      begun (laneOne second) = some ([0x9D, 7, 0, 2, 1, 2] ++ zeros 7) ∧
      begun (laneOne fun sc => { sc with status := .stopping }) = some ([0x9D, 7, 0x0A] ++ beBytes 4 1000000) ∧
      begun (three (laneOne (amended 998799))) = some ([0x9D, 7, 0, 4, 1, 2] ++ zeros 7) ∧
      begun (three (laneOne (amended 998800))) = some ([0x9D, 7, 0, 2, 1, 2, 1, 1, 3] ++ beBytes 4 1205000) := by
  refine ⟨asking_serving _ _, asking_sync _ _, ?_⟩
  decide +kernel

/-- An amendment replacing another (section 9.6), of nothing, and of a lane not RUNNING; and the report of section 9.7,
64 entries and truncated: the fourth page, the fifth, from 60, and from 65. -/
theorem witness_AmendmentsAndReports :
    let amend := fun (presence total : Byte) => [1, presence] ++ beBytes 4 1092500 ++ [total]
    let entry : ReportEntry := { position := at_ 1 1, released := 0, neededBy := 0, lateness := 0 }
    let long := fun cursor : Nat => laneOne fun sc =>
      { sc with
        status := .ended, ending := some (.completed, 5)
        report := { entries := List.replicate 64 entry, truncated := true, cursor } }
    let report := fun (body : List Byte) (cursor : Nat) =>
      (reply .fetchReport (asking .fetchReport body (long cursor))).map fun p => (p[2]?, p.length - 3)
    Serving .amendScreening (req .amendScreening (amend 2 9)) [] lanRoute (asking .amendScreening (amend 2 9) stage) ∧
      reply .amendScreening (asking .amendScreening (amend 2 9)
          (laneOne fun sc => { sc with amendment := some { plannedEnd := some 3, repeatTotal := none } })) =
        some ([0x9E, 7, 0, 2] ++ beBytes 4 0 ++ [8, 1]) ∧
      reply .amendScreening (asking .amendScreening (amend 3 1) (laneOne fun sc => { sc with current := at_ 2 1 })) =
        some ([0x9E, 7, 0, 3] ++ beBytes 4 1092500 ++ [2, 0]) ∧
      ([amend 0 1, amend 4 1].map fun body => status .amendScreening (asking .amendScreening body stage)) =
        [some 1, some 1] ∧
      Serving .fetchReport (req .fetchReport [1, 0, 0]) [] lanRoute (asking .fetchReport [1, 0, 0] stage) ∧
      status .fetchReport (asking .fetchReport [1, 0, 0] stage) = some 0x1B ∧
      report [1, 0, 0] 0 = some (some 0, 271) ∧ report [1, 0, 0] 48 = some (some 0, 272) ∧
      report [1, 0, 0] 64 = some (some 0, 32) ∧ report [1, 1, 60] 64 = some (some 0, 32 + 60) ∧
      report [1, 1, 64] 0 = some (some 0, 32) ∧ report [1, 1, 65] 64 = some (some 1, 0) := by
  refine ⟨asking_serving _ _, ?_, ?_, ?_, asking_serving _ _, ?_⟩ <;> decide +kernel

/-! ### Ticks, completions and power -/

/-- A tick, one whose minute runs out, one whose replenish does, and part time at its end. -/
theorem witness_TicksCountAndSweep :
    let with_ := fun (now minute replenish : Nat) =>
      { stage with clock := { stage.clock with now, minuteCountdown := minute, replenishCountdown := replenish } }
    let tick := fun (c : Instr) (s : State) =>
      let k := (after c s).clock
      (k.now, k.allowance, k.staleness, k.minuteCountdown, k.replenishCountdown)
    stage.powered = true ∧ stage.clock.state = .running ∧ stage.due = .none ∧ LinkOk stage ∧ SyncOk stage ∧
      tick (.tick (.whole .windowFirst)) stage = (1000001, 120, 0, 59, 86399) ∧
      tick (.stalenessMinute .windowFirst) (with_ 1000000 1 2) = (1000001, 120, 1, 60, 1) ∧
      tick (.replenish .stopTimeFirst) (with_ 1000000 2 1) = (1000001, 150, 0, 1, 86400) ∧
      tick (.tick (.whole .stopTimeFirst)) (with_ 4294967295 1 1) = (4294967295, 150, 1, 60, 86400) ∧
      (after (.stalenessMinute .windowFirst) (with_ 1000000 1 2)).margin.last.cause = .staleness ∧
      (after (.tick (.whole .windowFirst)) stage).revocations = [] := by
  refine ⟨rfl, rfl, rfl, stage_link, stage_sync, ?_⟩
  decide +kernel

/-- The clock's part alone leaves the passes due; a countdown named too early is no event. -/
theorem witness_TicksMayBeTakenInParts :
    let t := after (.tick .clockOnly) stage
    stage.powered = true ∧ stage.clock.state = .running ∧ stage.due = .none ∧ LinkOk stage ∧ SyncOk stage ∧
      1 < stage.clock.minuteCountdown ∧ 1 < stage.clock.replenishCountdown ∧
      t.due = { expiry := true, window := true, stopTime := true } ∧ t.revocations = stage.revocations ∧
      (after (.tick .expiryPass) t).revocations = [] ∧
      (after (.tick .windowSweep) { stage with powered := false }).clock = stage.clock := by
  refine ⟨rfl, rfl, rfl, stage_link, stage_sync, ?_⟩
  decide +kernel

/-- The stage's intake job passes, fails, and is discarded. -/
theorem witness_IntakeCompletes :
    let slot1 := fun s : State => (s.keyring.slots[(1 : SlotNo)]).map fun b => (b.state, b.reelsUnwrapped, b.poolRefs)
    let first : State :=
      { stage with
        keyring :=
          { stage.keyring with slots := stage.keyring.slots.set 1 (some { intakeBundle with reelCount := 2, poolRefs := [2, 7] }) } }
    let marked : State :=
      { stage with engine := { stage.engine with inService := stage.engine.inService.map fun j => { j with discard := true } } }
    stage.powered = true ∧ LinkOk stage ∧ SyncOk stage ∧ stage.engine.inService.map (·.job.item) = some (.intake 1 1) ∧
      stage.keyring.intakeQueue.head? = some 1 ∧
      slot1 (after (.intakeUnwrapComplete (some [1])) stage) = some (.live, 1, [2]) ∧
      slot1 (after (.intakeUnwrapComplete none) stage) = some (.failed, 0, []) ∧
      slot1 (after (.intakeUnwrapComplete (some [1])) first) = some (.unwrapping, 1, [2, 7]) ∧
      slot1 (after (.intakeUnwrapComplete (some [1])) marked) = some (.unwrapping, 0, [2]) ∧
      ((after (.intakeUnwrapComplete (some [1])) stage).link.notices[slotSubject 1]) = 3 := by
  refine ⟨rfl, stage_link, stage_sync, rfl, rfl, ?_⟩
  decide +kernel

/-- The SYNC that waits for the stage's intake is answered as it completes, discarded or not, and one that also waits
for a queued job is not; with main power off, or a rewrap's completion instead, nothing occurs. -/
theorem witness_IntakeCompletes_sync :
    let link := fun s : State =>
      let t := after (.intakeUnwrapComplete (some [1])) s
      (t.link.transmit.map OutFrame.payload, t.link.sending, t.link.pendingSync)
    let two : State :=
      { syncing with engine := { syncing.engine with queued := syncing.engine.queued.map fun j => { j with inSnapshot := true } } }
    SyncOk syncing ∧ LinkOk { syncing with link := { syncing.link with armed := false } } ∧
      link syncing = ([[0x94, 9, 0]], some lanRoute, none) ∧ link two = ([], none, some 9) ∧
      (after (.intakeUnwrapComplete none) { stage with powered := false }).engine = stage.engine ∧
      (after (.rewrapComplete none) stage).engine = stage.engine := by
  refine ⟨syncing_sync, ⟨by decide, by decide +kernel, ⟨77, rfl⟩, fun _ h => nomatch h⟩, ?_⟩
  decide +kernel

/-- A state whose engine is at work on `i` and nothing else. -/
def serving (i : JobItem) (discard : Bool) : State :=
  { stage with
    engine :=
      { inService :=
          some { job := { item := i, inSnapshot := false }, jobClass := 1, discard, inputs := readInputs stage i }
        queued := [], ranks := State.reset.engine.ranks } }

/-- A rewrap and a bind that pass, fail, and are discarded. -/
theorem witness_RewrapAndBindComplete :
    let s := fun discard =>
      { serving (.rewrap 0 .y (at_ 1 2) 1000500) discard with
        lanes := stage.lanes.set 0 (some { playingLane with slotY := .holds (at_ 1 2) 1000500 .unwrapping }) }
    let lane := fun t : State => (t.lanes[(0 : LaneNo)]).map fun sc => (sc.status, sc.slotY)
    let screen := fun t : State => (t.screens[(2 : LaneNo)]).binding
    (s false).powered = true ∧ LinkOk (s false) ∧ SyncOk (s false) ∧
      lane (after (.rewrapComplete (some 9)) (s false)) = some (.running, .holds (at_ 1 2) 1000500 (.ready 9)) ∧
      lane (after (.rewrapComplete none) (s false)) = some (.faulted, .empty) ∧
      lane (after (.rewrapComplete none) (s true)) = some (.running, .holds (at_ 1 2) 1000500 .unwrapping) ∧
      ((after (.rewrapComplete none) (s false)).keyring.slots[(0 : SlotNo)]).map Bundle.useCount = some 0 ∧
      LinkOk (serving (.bind 2) false) ∧ SyncOk (serving (.bind 2) false) ∧
      screen (after (.bindComplete (some [5])) (serving (.bind 2) false)) = .bound 13 [5] ∧
      screen (after (.bindComplete none) (serving (.bind 2) false)) = .unbound ∧
      screen (after (.bindComplete none) (serving (.bind 2) true)) = .binding 13 9 := by
  refine ⟨rfl, stage_link, stage_sync, ?_, ?_, ?_, ?_, stage_link, stage_sync, ?_⟩ <;> decide +kernel

/-- The stage with main power off. -/
def dark (status : DomainStatus) (seconds : Nat) : State :=
  { after .mainPowerLoss stage with domain := { status, batterySeconds := seconds } }

/-- A start-up on a domain held for 100,000 s, on a lost one, and cut before and after its update. -/
theorem witness_StartUpFollowsTheDomain :
    let up := fun (checkMatches : Bool) (run : StartUpRun) (s : State) => after (.powerUp checkMatches run) s
    (dark .sound 100000).powered = false ∧
      (up true .complete (dark .sound 100000)).clock.now = 1100000 ∧
      (up true .complete (dark .sound 100000)).margin.last.cause = .powerUp ∧
      (up true .complete (dark .sound 100000)).link.startCause = .power ∧
      ((up true .complete (dark .sound 0)).keyring.slots[(1 : SlotNo)]) = none ∧
      (up false .complete (dark .sound 0)).clock = State.reset.clock ∧
      (up false .complete (dark .sound 0)).store = finalStore ∧
      (up true .complete (dark .cellFailed 0)).link.startCause = .retainedLost ∧
      (up true .cutBeforeUpdate (dark .sound 5)).domain = { status := .sound, batterySeconds := 5 } ∧
      (up false .cutBeforeUpdate (dark .sound 5)).domain.status = .mismatched ∧
      (up true (.cutAfterUpdate .nothing false) (dark .sound 5)).domain = { status := .sound, batterySeconds := 0 } ∧
      (up true (.cutAfterUpdate .swept true) (dark .sound 5)).powered = false := by
  decide +kernel

/-- A start-up cut in its third stage: M 300 is judged anew as 0 (S = 0, no residual), the revocation that ends at
1,000,000 s expires, and a bundle's window that closed in the dark is found closed by the sweep alone. -/
theorem witness_StartUpFollowsTheDomain_stages :
    let s : State :=
      { dark .sound 100001 with
        clock := { stage.clock with residual := 0, staleness := 0 }
        keyring :=
          { stage.keyring with
            slots := State.reset.keyring.slots.set 0 (some { liveBundle with useCount := 0, notAfter := 1050000 })
            intakeQueue := [] } }
    let cut := fun (judged : JudgedSoFar) (expired : Bool) =>
      let t := after (.powerUp true (.cutAfterUpdate judged expired)) s
      (t.margin.last.cause == .powerUp, t.revocations.length, (t.keyring.slots[(0 : SlotNo)]).map Bundle.state)
    s.powered = false ∧ s.domain.status = .sound ∧ s.clock.state = .running ∧
      cut .nothing false = (false, 1, some .live) ∧ cut .nothing true = (false, 0, some .live) ∧
      cut .evaluated false = (true, 1, some .live) ∧ cut .swept true = (true, 0, some .expired) := by
  decide +kernel

/-- With main power off the cell counts, until it fails. -/
theorem witness_PowerLossKeepsTheDomain :
    stage.powered = true ∧ (dark .sound 0).keyring.pool = stage.keyring.pool ∧ (dark .sound 0).store = finalStore ∧
      (after .batterySecond (dark .sound 4)).domain.batterySeconds = 5 ∧
      (after .batterySecond (dark .cellFailed 4)).domain.batterySeconds = 4 ∧
      (after .cellFailed (dark .sound 4)).domain.status = .cellFailed ∧
      (after .cellFailed stage).domain.status = .sound := by
  decide +kernel

/-- Bodies at the edges of their fields. -/
theorem witness_BodiesAreReadAsLaidOut :
    parseClaim (claim 4294967295) = some 4294967295 ∧ parseLane [0] = none ∧ parseLane [32] = some 31 ∧
      parseLane [33] = none ∧ parseFetch [32, 24] = some (31, 24) ∧ parseDismiss [1, 1, 3] = some (1, some 3) ∧
      parseDismiss [1, 1, 4] = none ∧ parseDismiss [0, 97, 255] = some (97, none) ∧
      parseProvision (1 :: beBytes 8 5) = some (.serial, 5) ∧ parseProvision (7 :: zeros 32) = none ∧
      parseReport [32, 1, 255] = some (31, some 255) ∧ parseReport [32, 2, 0] = none ∧
      (parseDelivery (covered 1 1 0 1 65535 0 24 ++ zeros 32)).map (fun d => (d.grace, d.allowance, d.reelCount)) =
        some (14400, 1, 24) ∧
      parseDelivery (covered 1 1 0 1 0 0 25 ++ zeros 32) = none ∧ parseDelivery (covered 1 1 1 1 0 0 1 ++ zeros 32) = none ∧
      (let plan := fun n : Nat =>
        zeros 20 ++ beBytes 4 1 ++ zeros 2 ++ [1, BitVec.ofNat 8 n] ++ List.replicate n (1 : Byte) ++ [1] ++ zeros 72
       (parseDelivery (plan 32)).isSome = true ∧ parseDelivery (plan 33) = none) := by
  decide +kernel

/-! ### Well-formedness, the queue and words -/

/-- Each check of Instr.wf refuses a command that fails it, and admits one at its edge. -/
theorem test_wf :
    (Instr.serialFrame []).wf = false ∧ (Instr.lanFrame [] true).wf = false ∧
      (Instr.timeClaim (some { authority := 0, site := 0, time := 4294967296 }) .windowFirst).wf = false ∧
      (Instr.deliverBundle (some { identity := 0, covered := zeros 1399 })).wf = false ∧
      (Instr.revoke (some { authority := 0, covered := zeros 13 })).wf = false ∧
      (Instr.serialFrame [0]).wf = true ∧ (Instr.lanFrame [0] true).wf = true ∧ (goodClaim 4294967295).wf = true ∧
      (goodDelivery (zeros 1398)).wf = true ∧ (Instr.revoke (some { authority := 0, covered := zeros 14 })).wf = true ∧
      Instr.identify.wf = true := by
  decide +kernel

/-- Commands are taken first in, first out. -/
theorem test_queue :
    let s : State := { stage with pending := [.mainPowerLoss, .batterySecond] }
    (match step s with | .next t => (t.pending, t.powered) | _ => ([], true)) = ([.batterySecond], false) := by
  decide +kernel

/-- No word spells a command, so none is put in front. -/
theorem test_words : decodeTableWord 16 0 = none ∧ State.reset.withFetchWord 16 0 = State.reset := by decide +kernel

end Sys2Proof.Tests
end

/-! ## Serving and completing, for a relation that says nothing of the link and the engine -/

namespace Sys2Proof.Machine

/-- A relation between the states before and after an operation that says nothing of the Message Link and the Unwrap
Engine: both may change freely under it. -/
structure Overlooks (rel : State → State → Prop) : Prop where
  trans : ∀ {a b c : State}, rel a b → rel b c → rel a c
  link_engine : ∀ (s : State) (l : Link) (e : Engine), rel s { s with link := l, engine := e }

namespace Overlooks

variable {rel : State → State → Prop}

theorem refl (h : Overlooks rel) (s : State) : rel s s := h.link_engine s s.link s.engine

theorem link (h : Overlooks rel) (s : State) (l : Link) : rel s { s with link := l } := h.link_engine s l s.engine

theorem answer (h : Overlooks rel) {s t : State} (st : rel s t) (r : Request) (status : Status) (body : List Byte) :
    rel s (answer r status body t) := by
  rw [answer_frame]
  exact h.trans st (h.link t _)

theorem post (h : Overlooks rel) {s t : State} (st : rel s t) (n : Notice) : rel s (post n t) := by
  rw [post_frame]
  exact h.trans st (h.link t _)

theorem dropJobs (h : Overlooks rel) {s t : State} (st : rel s t) (p : JobItem → Bool) : rel s (dropJobs p t) := by
  rw [dropJobs_frame]
  exact h.trans st (h.link_engine t _ _)

theorem presentIntake (h : Overlooks rel) {s t : State} (st : rel s t) : rel s (presentIntake t) := by
  rw [presentIntake_frame]
  exact h.trans st (h.link_engine t t.link _)

end Overlooks

/-- What serving a request of kind `k` can do: nothing; or the oldest request is of that kind, is taken, and is refused
before the store is FINAL or handed to its block. -/
theorem serve_cases {k : RequestKind} {act : Request → State → State} {s t : State} (h : serve k act s = t) :
    t = s ∨
      ∃ r, s.link.receive.head? = some r ∧ r.kind = k.code ∧
        (t = answer r .notProvisioned [] (withoutOldest s) ∨ t = act r (withoutOldest s)) := by
  subst h
  unfold serve
  split
  · split
    · exact .inl rfl
    next r rest hr =>
      split
      · refine .inr ⟨r, by rw [hr]; rfl, ‹_›, ?_⟩
        split
        · exact .inr rfl
        · exact .inl rfl
      · exact .inl rfl
  · exact .inl rfl

/-- What serving a request whose body is read by `parse` can do: nothing; or the oldest request is of that kind, is
taken, and is refused at once or, its body read, handed to its block. -/
theorem serveWith_cases {α : Type} {k : RequestKind} {parse : List Byte → Option α}
    {act : α → Request → State → State} {s t : State} (h : serveWith k parse act s = t) :
    t = s ∨
      ∃ r, s.link.receive.head? = some r ∧ r.kind = k.code ∧
        ((∃ status, t = answer r status [] (withoutOldest s)) ∨
          ∃ fields, parse r.body = some fields ∧ t = act fields r (withoutOldest s)) := by
  obtain e | ⟨r, hr, hk, e | e⟩ := serve_cases h
  · exact .inl e
  · exact .inr ⟨r, hr, hk, .inl ⟨_, e⟩⟩
  · refine .inr ⟨r, hr, hk, ?_⟩
    cases hp : parse r.body with
    | none => exact .inl ⟨.badRequest, e.trans (by rw [hp])⟩
    | some fields => exact .inr ⟨fields, rfl, e.trans (by rw [hp])⟩

namespace Overlooks

variable {rel : State → State → Prop} {k : RequestKind}

theorem withoutOldest (h : Overlooks rel) (s : State) : rel s (withoutOldest s) := h.link s _

/-- A relation that an action keeps is kept by serving a request through it. -/
theorem serve (h : Overlooks rel) {act : Request → State → State} (keeps : ∀ r t, rel t (act r t)) (s : State) :
    rel s (serve k act s) := by
  obtain e | ⟨r, -, -, e | e⟩ := serve_cases (k := k) (act := act) (s := s) rfl <;> rw [e]
  · exact h.refl s
  · exact h.answer (h.withoutOldest s) ..
  · exact h.trans (h.withoutOldest s) (keeps ..)

theorem serveBare (h : Overlooks rel) {act : Request → State → State} (keeps : ∀ r t, rel t (act r t)) (s : State) :
    rel s (serveBare k act s) := by
  refine h.serve (fun r t => ?_) s
  split
  · exact keeps r t
  · exact h.answer (h.refl t) ..

theorem serveWith (h : Overlooks rel) {α : Type} {parse : List Byte → Option α} {act : α → Request → State → State}
    (keeps : ∀ fields r t, parse r.body = some fields → rel t (act fields r t)) (s : State) :
    rel s (serveWith k parse act s) := by
  obtain e | ⟨r, -, -, ⟨status, e⟩ | ⟨fields, hp, e⟩⟩ :=
    serveWith_cases (k := k) (parse := parse) (act := act) (s := s) rfl <;> rw [e]
  · exact h.refl s
  · exact h.answer (h.withoutOldest s) ..
  · exact h.trans (h.withoutOldest s) (keeps _ _ _ hp)

/-- A relation that the owner's taking of a result keeps, and what follows it, is kept by the completion (R92). -/
theorem completeJob (h : Overlooks rel) {ofKind : JobItem → Bool} {deliver : ServiceJob → State → State}
    {present : State → State} (delivers : ∀ j t, rel t (deliver j t)) (presents : ∀ t, rel t (present t))
    (grants : ∀ t, rel t (grant t)) (s : State) : rel s (completeJob ofKind deliver present s) := by
  have finished (j : ServiceJob) : rel s (finishJob deliver j s) := by
    unfold finishJob
    dsimp only
    rw [releaseSync_frame]
    split
    · exact h.link_engine ..
    · exact h.trans (h.trans (h.link_engine ..) (delivers ..)) (h.link ..)
  unfold Machine.completeJob
  split
  · split
    · exact h.trans (h.trans (finished _) (presents _)) (grants _)
    · exact h.refl s
  · exact h.refl s

end Overlooks

end Sys2Proof.Machine

/-! ## What the operations of the requests leave alone -/

namespace Sys2Proof.Machine

theorem acceptFrame_frame (port : Port) (sender : Peer) (payload : List Byte) (s : State) :
    acceptFrame port sender payload s = { s with link := (acceptFrame port sender payload s).link } := by
  unfold acceptFrame
  split
  · dsimp only
    split
    · rw [judgeAttention_frame, bufferRequest_frame]
    · rw [bufferRequest_frame]
  · rfl

theorem takeSerial_frame (found : List (Byte × List Byte) × List Byte) (s : State) :
    takeSerial found s = { s with link := (takeSerial found s).link } := by
  unfold takeSerial
  exact frame_of_foldl _ (fun t u => u = { t with link := u.link }) (fun _ => rfl) (fun a b c h k => by rw [k, h])
    (fun t f => acceptFrame_frame ..) _ { s with link := { s.link with serialHeld := found.2 } }

theorem acceptDelivery_frame (d : Delivery) (slot : SlotNo) (s : State) :
    acceptDelivery d slot s =
      { s with
        keyring := (acceptDelivery d slot s).keyring, engine := (acceptDelivery d slot s).engine
        lanes := (acceptDelivery d slot s).lanes } := by
  unfold acceptDelivery
  dsimp only
  rw [grant_frame, presentIntake_frame]

theorem endIntake_frame (slot : SlotNo) (b : Bundle) (s : State) :
    endIntake slot b s =
      { s with keyring := (endIntake slot b s).keyring, link := (endIntake slot b s).link } := by
  unfold endIntake
  dsimp only
  rw [enterWindow_frame, post_frame, leaveQueue_frame]

theorem passReel_frame (slot : SlotNo) (b : Bundle) (key : KeyMaterial) (s : State) :
    passReel slot b key s =
      { s with keyring := (passReel slot b key s).keyring, link := (passReel slot b key s).link } := by
  unfold passReel
  dsimp only
  split
  · rfl
  · rw [endIntake_frame, setBundle_frame]

theorem failReel_frame (slot : SlotNo) (b : Bundle) (s : State) :
    failReel slot b s = { s with keyring := (failReel slot b s).keyring, link := (failReel slot b s).link } := by
  unfold failReel
  rw [post_frame, leaveQueue_frame, eraseKeys_frame]

theorem deliverIntake_frame (outcome : Option KeyMaterial) (j : ServiceJob) (s : State) :
    deliverIntake outcome j s =
      { s with keyring := (deliverIntake outcome j s).keyring, link := (deliverIntake outcome j s).link } := by
  unfold deliverIntake
  split
  · split
    · rfl
    · split
      · split
        · exact passReel_frame ..
        · exact failReel_frame ..
      · rfl
  · rfl

theorem fillAtOpen_frame (l : LaneNo) (f k n : Nat) (s : State) :
    fillAtOpen l f k n s =
      { s with engine := (fillAtOpen l f k n s).engine, lanes := (fillAtOpen l f k n s).lanes } := by
  unfold fillAtOpen
  dsimp only
  split
  · rw [fillSlot_frame, fillSlot_frame]
  · rw [fillSlot_frame]

theorem openOn_frame (q : OpenRequest) (slot : SlotNo) (b : Bundle) (s : State) :
    openOn q slot b s =
      { s with
        keyring := (openOn q slot b s).keyring, engine := (openOn q slot b s).engine
        lanes := (openOn q slot b s).lanes } := by
  unfold openOn
  rw [grant_frame, fillAtOpen_frame, setLane_frame, takeUse_frame]

theorem deliverRewrap_frame (outcome : Option WrappedReelKey) (j : ServiceJob) (s : State) :
    deliverRewrap outcome j s =
      { s with
        keyring := (deliverRewrap outcome j s).keyring, engine := (deliverRewrap outcome j s).engine
        lanes := (deliverRewrap outcome j s).lanes, link := (deliverRewrap outcome j s).link } := by
  unfold deliverRewrap
  split
  · split
    · rfl
    · split
      · split
        · rw [post_frame, setLane_frame]
        · exact faultLane_frame ..
      · rfl
  · rfl

theorem setScreen_frame (l : LaneNo) (e : Screen) (s : State) :
    setScreen l e s = { s with screens := (setScreen l e s).screens } := rfl

theorem deliverBind_frame (outcome : Option KeyMaterial) (j : ServiceJob) (s : State) :
    deliverBind outcome j s =
      { s with screens := (deliverBind outcome j s).screens, link := (deliverBind outcome j s).link } := by
  unfold deliverBind
  split
  · split
    · rfl
    · rw [post_frame, setScreen_frame]
    · rfl
  · rfl

theorem emptyStale_frame (l : LaneNo) (n : SlotName) (next : Option Position) (s : State) :
    emptyStale l n next s =
      { s with
        engine := (emptyStale l n next s).engine, lanes := (emptyStale l n next s).lanes
        link := (emptyStale l n next s).link } := by
  unfold emptyStale
  split
  · rfl
  · split
    · split
      · exact emptySlot_frame ..
      · rfl
    · rfl

theorem fillEmpty_frame (l : LaneNo) (next : Option Position) (neededBy : Nat) (s : State) :
    (fillEmpty l next neededBy s).1 =
      { s with
        engine := (fillEmpty l next neededBy s).1.engine, lanes := (fillEmpty l next neededBy s).1.lanes } := by
  unfold fillEmpty
  split
  · split
    · rfl
    · split
      · exact fillSlot_frame ..
      · rfl
  · rfl

theorem alignSlots_frame (l : LaneNo) (first : Bool) (next : Option Position) (s : State) :
    alignSlots l first next s =
      { s with
        engine := (alignSlots l first next s).engine, lanes := (alignSlots l first next s).lanes
        link := (alignSlots l first next s).link } := by
  unfold alignSlots
  dsimp only
  split
  · rw [fillEmpty_frame, emptyStale_frame, emptyStale_frame]
  · rw [emptyStale_frame, emptyStale_frame]

theorem refillAfter_frame (l : LaneNo) (first : Bool) (holder : SlotName) (next : Option Position) (neededBy : Nat)
    (s : State) :
    (refillAfter l first holder next neededBy s).1 =
      { s with
        engine := (refillAfter l first holder next neededBy s).1.engine
        lanes := (refillAfter l first holder next neededBy s).1.lanes
        link := (refillAfter l first holder next neededBy s).1.link } := by
  unfold refillAfter
  split
  · rw [fillEmpty_frame]
  · rw [fillEmpty_frame, emptySlot_frame]

theorem acceptBegin_frame (q : BeginRequest) (sc : Screening) (n : Nat) (p : Position) (holder : SlotName)
    (r : Request) (s : State) :
    acceptBegin q sc n p holder r s =
      { s with
        keyring := (acceptBegin q sc n p holder r s).keyring, engine := (acceptBegin q sc n p holder r s).engine
        lanes := (acceptBegin q sc n p holder r s).lanes, link := (acceptBegin q sc n p holder r s).link } := by
  unfold acceptBegin
  dsimp only
  split
  · rw [answer_frame, grant_frame, refillAfter_frame, setLane_frame]
  · split
    · rw [answer_frame, finishLane_frame, setLane_frame]
    · rw [answer_frame, grant_frame, refillAfter_frame, alignSlots_frame, setLane_frame]

theorem strikeUnused_frame (slot : SlotNo) (b : Bundle) (s : State) :
    strikeUnused slot b s = { s with keyring := (strikeUnused slot b s).keyring } := rfl

theorem abandonIntake_frame (slot : SlotNo) (b : Bundle) (s : State) :
    abandonIntake slot b s =
      { s with
        keyring := (abandonIntake slot b s).keyring, engine := (abandonIntake slot b s).engine
        link := (abandonIntake slot b s).link } := by
  unfold abandonIntake
  rw [presentIntake_frame, dropJobs_frame, leaveQueue_frame, strikeUnused_frame]

theorem stopLanes_frame (slot : SlotNo) (s : State) :
    (stopLanes slot s).1 =
      { s with
        engine := (stopLanes slot s).1.engine, lanes := (stopLanes slot s).1.lanes
        link := (stopLanes slot s).1.link } := by
  unfold stopLanes
  exact frame_of_foldl _ (fun t u => u = { t with engine := u.engine, lanes := u.lanes, link := u.link })
    (fun _ => rfl) (fun a b c h k => by rw [k, h]) (fun t l => stopLane_frame ..) _ s

theorem strikeSlot_frame (o : Order) (slot : SlotNo) (s : State) :
    (strikeSlot o slot s).1 =
      { s with
        keyring := (strikeSlot o slot s).1.keyring, engine := (strikeSlot o slot s).1.engine
        lanes := (strikeSlot o slot s).1.lanes, link := (strikeSlot o slot s).1.link } := by
  unfold strikeSlot
  split
  · rfl
  · split
    · rfl
    · split
      · dsimp only
        rw [abandonIntake_frame]
      iterate 3
        split
        · rfl
        · dsimp only
          split
          · dsimp only
            rw [stopLanes_frame, setBundle_frame]
          · rfl
      · split
        · dsimp only
          rw [stopLanes_frame, setBundle_frame]
        · rfl
      · rfl
      · rfl

/-- The state an order leaves is that of its strikes, slot by slot. -/
theorem applyOrder_fst (o : Order) (s : State) :
    (applyOrder o s).1 = (List.finRange 64).foldl (fun t slot => (strikeSlot o slot t).1) s :=
  (List.foldl_hom Prod.fst fun _ _ => rfl).symm

theorem applyOrder_frame (o : Order) (s : State) :
    (applyOrder o s).1 =
      { s with
        keyring := (applyOrder o s).1.keyring, engine := (applyOrder o s).1.engine
        lanes := (applyOrder o s).1.lanes, link := (applyOrder o s).1.link } := by
  rw [applyOrder_fst]
  exact frame_of_foldl _
    (fun t u => u = { t with keyring := u.keyring, engine := u.engine, lanes := u.lanes, link := u.link })
    (fun _ => rfl) (fun a b c h k => by rw [k, h]) (fun t slot => strikeSlot_frame o slot t) _ s

end Sys2Proof.Machine

/-! ## What an event can do to the Part Clock -/

namespace Sys2Proof.Machine

/-- Everything that an event can do to the clock: leave it, count one tick (R3), take an accepted claim (R8, R9), catch
up at a power-up (R17), or fall to its retained-loss values at a power-up that finds the domain invalid (R18). -/
inductive ClockMove (c : Instr) (s : State) : Clock → Prop
  | kept : ClockMove c s s.clock
  | ticked (running : s.clock.state = .running) : ClockMove c s s.clock.tick
  | set (T : Nat) (fits : T ≤ Config.timeMax) : ClockMove c s (s.clock.setBy T)
  | adjusted (T : Nat) (fits : T ≤ Config.timeMax) (running : s.clock.state = .running) :
    ClockMove c s (s.clock.adjustBy T)
  | caughtUp (e : Nat) (running : s.clock.state = .running) : ClockMove c s (s.clock.catchUp e)
  | lost (checkMatches : Bool) (run : StartUpRun) (command : c = .powerUp checkMatches run) (off : s.powered = false)
    (invalid : ¬(s.domain.status = .sound ∧ checkMatches = true)) (updated : run ≠ .cutBeforeUpdate) :
    ClockMove c s .afterLoss

/-- The commands that may move the clock. -/
def movesClock : Instr → Bool
  | .tick _ | .stalenessMinute _ | .replenish _ | .timeClaim _ _ | .powerUp _ _ => true
  | _ => false

/-! ### The requests and completions -/

theorem overlooks_clock : Overlooks fun s t => t.clock = s.clock :=
  ⟨fun h k => k.trans h, fun _ _ _ => rfl⟩

theorem provisionWrite_clock (r : Request) (s : State) : (provisionWrite r s).clock = s.clock := by
  unfold provisionWrite
  split
  · simp
  · split
    · simp
    · split
      · simp
      · split
        · split <;> simp
        · simp

theorem deleteBundle_clock (id : Ident) (r : Request) (s : State) : (deleteBundle id r s).clock = s.clock := by
  unfold deleteBundle
  split
  · simp
  · split
    · simp
    · split
      · simp
      · split <;> simp

theorem openChosen_clock (q : OpenRequest) (r : Request) (s : State) : (openChosen q r s).clock = s.clock := by
  unfold openChosen
  split
  · simp
  · split
    · simp
    · split
      · simp
      · rw [answer_clock, openOn_frame]

theorem endScreening_clock (l : LaneNo) (r : Request) (s : State) : (endScreening l r s).clock = s.clock := by
  unfold endScreening
  split
  · simp
  · split <;> simp

theorem closeLane_clock (l : LaneNo) (r : Request) (s : State) : (closeLane l r s).clock = s.clock := by
  unfold closeLane
  split
  · simp
  · split <;> simp

theorem fetchReel_clock (q : LaneNo × Nat) (r : Request) (s : State) : (fetchReel q r s).clock = s.clock := by
  unfold fetchReel releaseReel
  split
  · simp
  · split
    · simp
    · simp
    · simp
    · split
      · simp
      · split
        · simp
        · split <;> simp

theorem reelBegin_clock (q : BeginRequest) (r : Request) (s : State) : (reelBegin q r s).clock = s.clock := by
  unfold reelBegin beginReel
  split
  · simp
  · split
    · simp
    · simp
    · simp
    · dsimp only
      split
      · simp
      · split
        · simp
        · split
          · simp
          · split
            · simp
            · rw [acceptBegin_frame]

theorem amendScreening_clock (q : LaneNo × Amendment) (r : Request) (s : State) :
    (amendScreening q r s).clock = s.clock := by
  unfold amendScreening
  split
  · simp
  · split <;> simp

theorem fetchReport_clock (q : LaneNo × Option Nat) (r : Request) (s : State) :
    (fetchReport q r s).clock = s.clock := by
  unfold fetchReport
  split
  · simp
  · split
    · simp
    · split <;> simp

theorem whenClosed_clock (l : LaneNo) (r : Request) (s : State) {act : State → State}
    (h : (act s).clock = s.clock) : (whenClosed l r s act).clock = s.clock := by
  unfold whenClosed
  split
  · simp
  · exact h

/-- No command but a tick, a claim and a power-up moves the clock. -/
theorem exec_clock_kept {c : Instr} {s t : State} (h : movesClock c = false) (e : exec c s = .next t) :
    t.clock = s.clock := by
  cases c with
  | tick | stalenessMinute | replenish | timeClaim | powerUp => simp [movesClock] at h
  | serialFrame bytes =>
    obtain rfl := Host.Outcome.next.inj e
    split
    · rw [takeSerial_frame]
    · rfl
  | serialByteTimeout =>
    obtain rfl := Host.Outcome.next.inj e
    split
    · rw [takeSerial_frame]
    · rfl
  | lanFrame bytes checkPasses =>
    obtain rfl := Host.Outcome.next.inj e
    split
    · split
      · rfl
      · rw [acceptFrame_frame]
    · rfl
  | frameSent =>
    obtain rfl := Host.Outcome.next.inj e
    split
    · rfl
    · split <;> rfl
  | unknownKind =>
    obtain rfl := Host.Outcome.next.inj e
    split
    · split
      · rfl
      · split <;> simp
    · rfl
  | restartReset =>
    obtain rfl := Host.Outcome.next.inj e
    split
    · simp
    · rfl
  | mainPowerLoss => obtain rfl := Host.Outcome.next.inj e; split <;> rfl
  | batterySecond => obtain rfl := Host.Outcome.next.inj e; split <;> rfl
  | cellFailed => obtain rfl := Host.Outcome.next.inj e; split <;> rfl
  | identify | clockStatus | marginStatus | listRevocations | engineStatus =>
    obtain rfl := Host.Outcome.next.inj e
    exact overlooks_clock.serveBare (fun r t => answer_clock ..) s
  | provisionWrite =>
    obtain rfl := Host.Outcome.next.inj e
    exact overlooks_clock.serve provisionWrite_clock s
  | provisionFinalize =>
    obtain rfl := Host.Outcome.next.inj e
    refine overlooks_clock.serveBare (fun r t => ?_) s
    split
    · simp
    · split <;> simp
  | collect =>
    obtain rfl := Host.Outcome.next.inj e
    exact overlooks_clock.serveBare (fun r t => by simp) s
  | dismiss =>
    obtain rfl := Host.Outcome.next.inj e
    exact overlooks_clock.serveWith (fun q r t _ => by simp) s
  | noticeHold =>
    obtain rfl := Host.Outcome.next.inj e
    refine overlooks_clock.serveWith (fun q r t _ => ?_) s
    dsimp only
    split <;> simp
  | restart =>
    obtain rfl := Host.Outcome.next.inj e
    exact overlooks_clock.serveBare (fun r t => by simp) s
  | siteParameter =>
    obtain rfl := Host.Outcome.next.inj e
    refine overlooks_clock.serveWith (fun q r t _ => ?_) s
    dsimp only
    split <;> simp
  | setShape | setTerm =>
    obtain rfl := Host.Outcome.next.inj e
    exact overlooks_clock.serveWith (fun q r t _ => by simp) s
  | deliverBundle tagOver =>
    obtain rfl := Host.Outcome.next.inj e
    refine overlooks_clock.serve (fun r t => ?_) s
    split
    · simp
    · split
      · simp
      · split
        · simp
        · rw [answer_clock, acceptDelivery_frame]
        · simp
  | bundleStatus =>
    obtain rfl := Host.Outcome.next.inj e
    refine overlooks_clock.serveWith (fun q r t _ => ?_) s
    split
    · simp
    · split <;> simp
  | listBundles =>
    obtain rfl := Host.Outcome.next.inj e
    exact overlooks_clock.serveWith (fun q r t _ => by simp) s
  | deleteBundle =>
    obtain rfl := Host.Outcome.next.inj e
    exact overlooks_clock.serveWith (fun q r t _ => deleteBundle_clock ..) s
  | revoke tagOver =>
    obtain rfl := Host.Outcome.next.inj e
    refine overlooks_clock.serveWith (fun o r t _ => ?_) s
    split
    · simp
    · split
      · simp
      · split
        · simp
        · rw [answer_clock, applyOrder_frame]
  | sync =>
    obtain rfl := Host.Outcome.next.inj e
    refine overlooks_clock.serveBare (fun r t => ?_) s
    split
    · simp
    · split <;> simp
  | bindScreen | unbindScreen | setBias =>
    obtain rfl := Host.Outcome.next.inj e
    exact overlooks_clock.serveWith (fun q r t _ => whenClosed_clock _ _ _ (by simp)) s
  | openScreening =>
    obtain rfl := Host.Outcome.next.inj e
    refine overlooks_clock.serveWith (fun q r t _ => ?_) s
    split
    · simp
    · split
      · simp
      · split
        · simp
        · split
          · simp
          · exact openChosen_clock ..
  | laneStatus =>
    obtain rfl := Host.Outcome.next.inj e
    exact overlooks_clock.serveWith (fun q r t _ => by simp) s
  | endScreening =>
    obtain rfl := Host.Outcome.next.inj e
    exact overlooks_clock.serveWith (fun q r t _ => endScreening_clock ..) s
  | closeLane =>
    obtain rfl := Host.Outcome.next.inj e
    exact overlooks_clock.serveWith (fun q r t _ => closeLane_clock ..) s
  | fetchReel =>
    obtain rfl := Host.Outcome.next.inj e
    exact overlooks_clock.serveWith (fun q r t _ => fetchReel_clock ..) s
  | reelBegin =>
    obtain rfl := Host.Outcome.next.inj e
    exact overlooks_clock.serveWith (fun q r t _ => reelBegin_clock ..) s
  | amendScreening =>
    obtain rfl := Host.Outcome.next.inj e
    exact overlooks_clock.serveWith (fun q r t _ => amendScreening_clock ..) s
  | fetchReport =>
    obtain rfl := Host.Outcome.next.inj e
    exact overlooks_clock.serveWith (fun q r t _ => fetchReport_clock ..) s
  | intakeUnwrapComplete outcome =>
    obtain rfl := Host.Outcome.next.inj e
    exact overlooks_clock.completeJob (fun j t => by rw [deliverIntake_frame]) presentIntake_clock grant_clock s
  | rewrapComplete outcome =>
    obtain rfl := Host.Outcome.next.inj e
    exact overlooks_clock.completeJob (fun j t => by rw [deliverRewrap_frame]) (fun _ => rfl) grant_clock s
  | bindComplete outcome =>
    obtain rfl := Host.Outcome.next.inj e
    exact overlooks_clock.completeJob (fun j t => by rw [deliverBind_frame]) (fun _ => rfl) grant_clock s

end Sys2Proof.Machine

/-! ## Events that leave empty slots empty, CLOSED lanes closed and ended records ended -/

namespace Sys2Proof.Machine

/-- The states that a record never leaves by itself (R14, R62, R64, R69). -/
def BundleState.Ended (st : BundleState) : Prop := st = .expired ∨ st = .failed ∨ st = .revoked

/-- From `s` to `t` no lane is opened, no bundle is delivered, and no ended record leaves its state: a CLOSED lane, an
empty slot and an empty intake queue stay so. -/
structure Gentle (s t : State) : Prop where
  lanes : ∀ l : LaneNo, s.lanes[l] = none → t.lanes[l] = none
  slots : ∀ i : SlotNo, s.keyring.slots[i] = none → t.keyring.slots[i] = none
  queue : s.keyring.intakeQueue = [] → t.keyring.intakeQueue = []
  ended :
    ∀ (i : SlotNo) (b : Bundle), s.keyring.slots[i] = some b → b.state.Ended →
      ∃ a, t.keyring.slots[i] = some a ∧ a.bundleId = b.bundleId ∧ a.featureId = b.featureId ∧ a.state = b.state

namespace Gentle

theorem of_eq {s t : State} (lanes : t.lanes = s.lanes) (slots : t.keyring.slots = s.keyring.slots)
    (queue : t.keyring.intakeQueue = s.keyring.intakeQueue) : Gentle s t where
  lanes l h := by rwa [lanes]
  slots i h := by rwa [slots]
  queue h := by rwa [queue]
  ended i b h _ := ⟨b, by rwa [slots], rfl, rfl, rfl⟩

theorem refl (s : State) : Gentle s s := of_eq rfl rfl rfl

theorem trans {a b c : State} (h : Gentle a b) (k : Gentle b c) : Gentle a c where
  lanes l e := k.lanes l (h.lanes l e)
  slots i e := k.slots i (h.slots i e)
  queue e := k.queue (h.queue e)
  ended i x hx end_x := by
    obtain ⟨y, hy, yid, yf, ys⟩ := h.ended i x hx end_x
    obtain ⟨z, hz, zid, zf, zs⟩ := k.ended i y hy (ys ▸ end_x)
    exact ⟨z, hz, zid.trans yid, zf.trans yf, zs.trans ys⟩

theorem overlooks : Overlooks Gentle := ⟨trans, fun _ _ _ => of_eq rfl rfl rfl⟩

theorem foldl {α : Type} (f : State → α → State) (one : ∀ t i, Gentle t (f t i)) (l : List α) (s : State) :
    Gentle s (l.foldl f s) :=
  frame_of_foldl f Gentle refl (fun _ _ _ => trans) one l s

/-! ### Lanes -/

/-- A lane that is not CLOSED may change, or close. -/
theorem setLane {l : LaneNo} {s : State} {sc : Screening} (h : s.lanes[l] = some sc) (new : Option Screening) :
    Gentle s (setLane l new s) where
  lanes m e := by
    have other : l ≠ m := by
      rintro rfl
      simp [e] at h
    rw [setLane_lanes, lanes_set_other s other, e]
  slots _ e := e
  queue e := e
  ended _ b e _ := ⟨b, e, rfl, rfl, rfl⟩

theorem modifyLane (l : LaneNo) (f : Screening → Screening) (s : State) : Gentle s (modifyLane l f s) := by
  unfold Machine.modifyLane
  split
  · exact refl s
  · exact setLane ‹_› _

theorem emptySlot (l : LaneNo) (n : SlotName) (s : State) : Gentle s (emptySlot l n s) :=
  overlooks.dropJobs (modifyLane ..) _

theorem emptyWorking (l : LaneNo) (n : SlotName) (s : State) : Gentle s (emptyWorking l n s) := by
  unfold Machine.emptyWorking
  split
  · split
    · exact emptySlot ..
    · exact refl s
  · exact refl s

theorem stopLane (l : LaneNo) (s : State) : Gentle s (stopLane l s) :=
  ((emptyWorking ..).trans (emptyWorking ..)).trans (modifyLane ..)

theorem createJob (i : JobItem) (s : State) : Gentle s (createJob i s) := of_eq rfl rfl rfl

theorem fillSlot (l : LaneNo) (n : SlotName) (p : Position) (neededBy : Nat) (s : State) :
    Gentle s (fillSlot l n p neededBy s) :=
  (modifyLane ..).trans (createJob ..)

theorem grant (s : State) : Gentle s (grant s) := by
  obtain ⟨e, -⟩ | ⟨r, j, -, -, e⟩ := grant_cases s <;> rw [e]
  · exact refl s
  · refine Gentle.trans ?_ (overlooks.link_engine (enterService j.item s) (enterService j.item s).link _)
    unfold enterService
    split
    · exact modifyLane ..
    · exact refl s

theorem emptyStale (l : LaneNo) (n : SlotName) (next : Option Position) (s : State) :
    Gentle s (emptyStale l n next s) := by
  unfold Machine.emptyStale
  split
  · exact refl s
  · split
    · split
      · exact emptySlot ..
      · exact refl s
    · exact refl s

theorem fillEmpty (l : LaneNo) (next : Option Position) (neededBy : Nat) (s : State) :
    Gentle s (fillEmpty l next neededBy s).1 := by
  unfold Machine.fillEmpty
  split
  · split
    · exact refl s
    · split
      · exact fillSlot ..
      · exact refl s
  · exact refl s

theorem alignSlots (l : LaneNo) (first : Bool) (next : Option Position) (s : State) :
    Gentle s (alignSlots l first next s) := by
  have cleared := (emptyStale l .x next s).trans (emptyStale l .y next _)
  unfold Machine.alignSlots
  dsimp only
  split
  · exact cleared.trans (fillEmpty ..)
  · exact cleared

theorem refillAfter (l : LaneNo) (first : Bool) (holder : SlotName) (next : Option Position) (neededBy : Nat)
    (s : State) : Gentle s (refillAfter l first holder next neededBy s).1 := by
  unfold Machine.refillAfter
  split
  · exact fillEmpty ..
  · exact (emptySlot ..).trans (fillEmpty ..)

/-! ### Records -/

/-- A record may be replaced by one of the same ids and state, and by any if it has not ended. -/
theorem record {i : SlotNo} {s t : State} {b a : Bundle} (h : s.keyring.slots[i] = some b)
    (keeps : b.state.Ended → a.bundleId = b.bundleId ∧ a.featureId = b.featureId ∧ a.state = b.state)
    (lanes : t.lanes = s.lanes) (slots : t.keyring.slots = s.keyring.slots.set i (some a))
    (queue : t.keyring.intakeQueue = s.keyring.intakeQueue) : Gentle s t where
  lanes l e := by rwa [lanes]
  slots j e := by
    have other : i ≠ j := by
      rintro rfl
      simp [e] at h
    rw [slots, slots_set_other _ other, e]
  queue e := by rwa [queue]
  ended j c hc end_c := by
    rw [slots]
    by_cases same : i = j
    · subst same
      obtain rfl : b = c := Option.some.inj (h.symm.trans hc)
      exact ⟨a, slots_set_same .., keeps end_c⟩
    · exact ⟨c, by rw [slots_set_other _ same, hc], rfl, rfl, rfl⟩

theorem setBundle_slot (i : SlotNo) (b : Option Bundle) (s : State) :
    (Machine.setBundle i b s).keyring.slots[i] = b := slots_set_same ..

theorem setBundle {i : SlotNo} {s : State} {b a : Bundle} (h : s.keyring.slots[i] = some b)
    (keeps : b.state.Ended → a.bundleId = b.bundleId ∧ a.featureId = b.featureId ∧ a.state = b.state) :
    Gentle s (setBundle i (some a) s) :=
  record h keeps rfl rfl rfl

theorem eraseKeys {i : SlotNo} {s : State} {b : Bundle} (h : s.keyring.slots[i] = some b) (x : Bundle)
    {after : Bundle → Bundle}
    (keeps : b.state.Ended →
      (after { x with poolRefs := [], wrappedKeys := [] }).bundleId = b.bundleId ∧
        (after { x with poolRefs := [], wrappedKeys := [] }).featureId = b.featureId ∧
        (after { x with poolRefs := [], wrappedKeys := [] }).state = b.state) :
    Gentle s (eraseKeys i x after s) :=
  record h keeps rfl rfl rfl

/-- A record that has not ended may enter a window state or expire. -/
theorem enterWindow {i : SlotNo} {s : State} {b : Bundle} (h : s.keyring.slots[i] = some b) (going : ¬b.state.Ended)
    (x : Bundle) (st : BundleState) : Gentle s (enterWindow i x st s) := by
  unfold Machine.enterWindow
  rw [postEntry_frame]
  refine Gentle.trans ?_ (overlooks.link _ _)
  split
  · exact eraseKeys h x fun e => absurd e going
  · exact setBundle h fun e => absurd e going

theorem not_ended_of_inWindow {st : BundleState} (h : st.inWindow = true) : ¬st.Ended := by
  rintro (rfl | rfl | rfl) <;> simp [BundleState.inWindow] at h

theorem judgeSlot (now m : Nat) (i : SlotNo) (s : State) : Gentle s (judgeSlot now m i s) := by
  unfold Machine.judgeSlot
  split
  · exact refl s
  next b h =>
    split
    next moves => exact enterWindow h (not_ended_of_inWindow moves.1) ..
    · exact refl s

theorem windowSweep (s : State) : Gentle s (windowSweep s) := foldl _ (fun t i => judgeSlot _ _ i t) _ s

theorem buryRevoked {i : SlotNo} {s : State} {b : Bundle} (h : s.keyring.slots[i] = some b) (x : Bundle)
    (same : x.bundleId = b.bundleId ∧ x.featureId = b.featureId ∧ x.state = b.state) :
    Gentle s (buryRevoked i x s) :=
  eraseKeys h x fun _ => same

theorem takeUse (i : SlotNo) (s : State) : Gentle s (takeUse i s) := by
  unfold Machine.takeUse
  split
  next b h => exact setBundle h fun _ => ⟨rfl, rfl, rfl⟩
  · exact refl s

theorem returnUse (i : SlotNo) (s : State) : Gentle s (returnUse i s) := by
  unfold Machine.returnUse
  split
  · exact refl s
  next b h =>
    dsimp only
    split
    · exact buryRevoked h _ ⟨rfl, rfl, rfl⟩
    · exact setBundle h fun _ => ⟨rfl, rfl, rfl⟩

theorem endLane (l : LaneNo) (status : LaneStatus) (cause : EndCause) (notice : Notice) (s : State) :
    Gentle s (endLane l status cause notice s) := by
  unfold Machine.endLane
  split
  · exact refl s
  · exact overlooks.post ((((emptySlot ..).trans (emptySlot ..)).trans (modifyLane ..)).trans (returnUse ..)) _

theorem judgeLane (now lead : Nat) (l : LaneNo) (s : State) : Gentle s (judgeLane now lead l s) := by
  unfold Machine.judgeLane
  split
  · exact refl s
  · split
    · exact endLane ..
    · split
      · exact endLane ..
      · split
        · exact overlooks.post (setLane ‹_› _) _
        · exact refl s

theorem stopTimeSweep (s : State) : Gentle s (stopTimeSweep s) := foldl _ (fun t l => judgeLane _ _ l t) _ s

theorem bothSweeps (order : SweepOrder) (s : State) : Gentle s (bothSweeps order s) := by
  cases order
  · exact (windowSweep _).trans (stopTimeSweep _)
  · exact (stopTimeSweep _).trans (windowSweep _)

theorem evaluateMargin (cause : EvalCause) (s : State) : Gentle s (evaluateMargin cause s) :=
  of_eq (by simp) (by simp) (by simp)

theorem evaluateAndSweep (cause : EvalCause) (s : State) : Gentle s (evaluateAndSweep cause s) := by
  unfold Machine.evaluateAndSweep
  dsimp only
  split
  · exact evaluateMargin ..
  · exact (evaluateMargin ..).trans (windowSweep _)

theorem expiryPass (s : State) : Gentle s (expiryPass s) := of_eq rfl rfl rfl

theorem leaveQueue (i : SlotNo) (s : State) : Gentle s (leaveQueue i s) where
  lanes _ e := e
  slots _ e := e
  queue e := by simp [e]
  ended _ b e _ := ⟨b, e, rfl, rfl, rfl⟩

theorem resetSlot (i : SlotNo) (s : State) : Gentle s (resetSlot i s) := by
  unfold Machine.resetSlot
  split
  · exact refl s
  next b h =>
    split
    next unwrapping =>
      refine ⟨fun _ e => e, fun j e => ?_, fun e => e, fun j c hc end_c => ?_⟩
      · by_cases same : i = j
        · subst same
          exact slots_set_same ..
        · rw [setBundle_keyring_slots, slots_set_other _ same, e]
      · have other : i ≠ j := by
          rintro rfl
          obtain rfl : b = c := Option.some.inj (h.symm.trans hc)
          simp [BundleState.Ended, unwrapping] at end_c
        exact ⟨c, by rw [setBundle_keyring_slots, slots_set_other _ other, hc], rfl, rfl, rfl⟩
    · split
      · exact buryRevoked h _ ⟨rfl, rfl, rfl⟩
      · exact setBundle h fun _ => ⟨rfl, rfl, rfl⟩

theorem emptyQueue (s : State) (cursor : SlotNo) :
    Gentle s { s with keyring := { s.keyring with intakeQueue := [], listCursor := cursor } } where
  lanes _ e := e
  slots _ e := e
  queue _ := rfl
  ended _ b e _ := ⟨b, e, rfl, rfl, rfl⟩

theorem resetKeyring (s : State) : Gentle s (resetKeyring s) :=
  (foldl _ (fun t i => resetSlot i t) (List.finRange 64) s).trans (emptyQueue ..)

/-! ### Orders (R76 to R79) -/

theorem strikeUnused {i : SlotNo} {s : State} {b : Bundle} (h : s.keyring.slots[i] = some b)
    (going : ¬b.state.Ended) : Gentle s (strikeUnused i b s) :=
  eraseKeys h b fun e => absurd e going

theorem abandonIntake {i : SlotNo} {s : State} {b : Bundle} (h : s.keyring.slots[i] = some b)
    (going : ¬b.state.Ended) : Gentle s (abandonIntake i b s) :=
  overlooks.presentIntake (overlooks.dropJobs ((strikeUnused h going).trans (leaveQueue ..)) _)

theorem stopLanes (i : SlotNo) (s : State) : Gentle s (stopLanes i s).1 := foldl _ (fun t l => stopLane l t) _ s

theorem strikeSlot (o : Order) (i : SlotNo) (s : State) : Gentle s (strikeSlot o i s).1 := by
  unfold Machine.strikeSlot
  split
  · exact refl s
  next b h =>
    split
    · exact refl s
    · split
      next st => exact abandonIntake h (by simp [st, BundleState.Ended])
      iterate 3
        next st =>
          have going : ¬b.state.Ended := by simp [st, BundleState.Ended]
          split
          · exact strikeUnused h going
          · have held (a : Bundle) : Gentle s (Machine.setBundle i (some a) s) := setBundle h fun e => absurd e going
            dsimp only
            split
            · exact (held _).trans (stopLanes ..)
            · exact held _
      · split
        · dsimp only
          refine Gentle.trans (setBundle h ?_) (stopLanes ..)
          exact fun _ => ⟨rfl, rfl, rfl⟩
        · exact refl s
      · exact refl s
      · exact refl s

theorem applyOrder (o : Order) (s : State) : Gentle s (applyOrder o s).1 := by
  rw [applyOrder_fst]
  exact foldl _ (fun t i => strikeSlot o i t) _ s

/-! ### Completions -/

theorem endIntake {i : SlotNo} {s : State} {b : Bundle} (h : s.keyring.slots[i] = some b) (going : ¬b.state.Ended)
    (x : Bundle) : Gentle s (endIntake i x s) :=
  (overlooks.post (leaveQueue i s) (.bundleReady i)).trans (enterWindow (b := b) (by simpa using h) going ..)

theorem passReel {i : SlotNo} {s : State} {b : Bundle} (h : s.keyring.slots[i] = some b) (going : ¬b.state.Ended)
    (key : KeyMaterial) : Gentle s (passReel i b key s) := by
  unfold Machine.passReel
  dsimp only
  split
  · exact record h (fun e => absurd e going) rfl (setBundle_keyring_slots ..) rfl
  · refine Gentle.trans ?_ (endIntake (setBundle_slot ..) ?_ _)
    · exact record h (fun e => absurd e going) rfl (setBundle_keyring_slots ..) rfl
    · exact going

theorem failReel {i : SlotNo} {s : State} {b : Bundle} (h : s.keyring.slots[i] = some b) (going : ¬b.state.Ended) :
    Gentle s (failReel i b s) :=
  overlooks.post ((eraseKeys h b fun e => absurd e going).trans (leaveQueue ..)) _

theorem deliverIntake (outcome : Option KeyMaterial) (j : ServiceJob) (s : State) :
    Gentle s (deliverIntake outcome j s) := by
  unfold Machine.deliverIntake
  split
  · split
    · exact refl s
    next b h =>
      split
      next cond =>
        have going : ¬b.state.Ended := by simp [cond.1, BundleState.Ended]
        split
        · exact passReel h going _
        · exact failReel h going
      · exact refl s
  · exact refl s

theorem deliverRewrap (outcome : Option WrappedReelKey) (j : ServiceJob) (s : State) :
    Gentle s (deliverRewrap outcome j s) := by
  unfold Machine.deliverRewrap
  split
  · split
    · exact refl s
    · split
      · split
        · exact overlooks.post (setLane ‹_› _) _
        · exact endLane ..
      · exact refl s
  · exact refl s

theorem deliverBind (outcome : Option KeyMaterial) (j : ServiceJob) (s : State) :
    Gentle s (deliverBind outcome j s) := by
  rw [deliverBind_frame]
  exact of_eq rfl rfl rfl

/-! ### Requests on a lane -/

theorem endScreening (l : LaneNo) (r : Request) (s : State) : Gentle s (endScreening l r s) := by
  unfold Machine.endScreening
  split
  · exact overlooks.answer (refl s) ..
  · split
    · exact overlooks.answer (endLane ..) ..
    · exact overlooks.answer (endLane ..) ..
    · exact overlooks.answer (refl s) ..
    · exact overlooks.answer (refl s) ..

theorem closeLane (l : LaneNo) (r : Request) (s : State) : Gentle s (closeLane l r s) := by
  unfold Machine.closeLane
  split
  · exact overlooks.answer (refl s) ..
  · split
    · exact overlooks.answer (setLane ‹_› _) ..
    · exact overlooks.answer (setLane ‹_› _) ..
    · exact overlooks.answer (refl s) ..
    · exact overlooks.answer (refl s) ..

theorem fetchReel (q : LaneNo × Nat) (r : Request) (s : State) : Gentle s (fetchReel q r s) := by
  unfold Machine.fetchReel releaseReel
  split
  · exact overlooks.answer (refl s) ..
  · split
    · exact overlooks.answer (refl s) ..
    · exact overlooks.answer (refl s) ..
    · exact overlooks.answer (refl s) ..
    · split
      · exact overlooks.answer (refl s) ..
      · split
        · exact overlooks.answer (refl s) ..
        · split
          · exact overlooks.answer (setLane ‹_› _) ..
          · exact overlooks.answer (refl s) ..
          · exact overlooks.answer (refl s) ..

theorem acceptBegin {q : BeginRequest} {s : State} {old : Screening} (h : s.lanes[q.lane] = some old) (sc : Screening)
    (n : Nat) (p : Position) (holder : SlotName) (r : Request) : Gentle s (acceptBegin q sc n p holder r s) := by
  unfold Machine.acceptBegin
  dsimp only
  split
  · exact overlooks.answer (((setLane h _).trans (refillAfter ..)).trans (grant _)) ..
  · split
    · exact overlooks.answer ((setLane h _).trans (endLane ..)) ..
    · exact overlooks.answer ((((setLane h _).trans (alignSlots ..)).trans (refillAfter ..)).trans (grant _)) ..

theorem reelBegin (q : BeginRequest) (r : Request) (s : State) : Gentle s (reelBegin q r s) := by
  unfold Machine.reelBegin beginReel
  split
  · exact overlooks.answer (refl s) ..
  · split
    · exact overlooks.answer (refl s) ..
    · exact overlooks.answer (refl s) ..
    · exact overlooks.answer (endLane ..) ..
    · dsimp only
      split
      · exact overlooks.answer (refl s) ..
      · split
        · exact overlooks.answer (refl s) ..
        · split
          · exact overlooks.answer (refl s) ..
          · split
            · exact overlooks.answer (refl s) ..
            · exact acceptBegin ‹_› ..

theorem amendScreening (q : LaneNo × Amendment) (r : Request) (s : State) : Gentle s (amendScreening q r s) := by
  unfold Machine.amendScreening
  split
  · exact overlooks.answer (refl s) ..
  · split
    · exact overlooks.answer (setLane ‹_› _) ..
    · exact overlooks.answer (refl s) ..
    · exact overlooks.answer (refl s) ..
    · exact overlooks.answer (refl s) ..

theorem fetchReport (q : LaneNo × Option Nat) (r : Request) (s : State) : Gentle s (fetchReport q r s) := by
  unfold Machine.fetchReport
  split
  · exact overlooks.answer (refl s) ..
  · split
    · exact overlooks.answer (refl s) ..
    · split
      · exact overlooks.answer (refl s) ..
      · exact overlooks.answer (refl s) ..
      · exact overlooks.answer (setLane ‹_› _) ..
      · exact overlooks.answer (setLane ‹_› _) ..

end Gentle

end Sys2Proof.Machine

/-! ## Ticks, claims and start-ups: the clock and the keyring -/

namespace Sys2Proof.Machine

/-! ### Numbers read from a body -/

theorem beNat_append (l : List Byte) (b : Byte) : beNat (l ++ [b]) = 256 * beNat l + b.toNat := by
  simp [beNat]

/-- A run of bytes spells a number below 256 to the power of its length. -/
theorem beNat_lt (l : List Byte) : beNat l < 256 ^ l.length := by
  induction l using List.reverseRecOn with
  | nil => simp [beNat]
  | append_singleton l b ih =>
    rw [beNat_append, List.length_append, List.length_singleton, pow_succ]
    have := b.isLt
    omega

theorem field_lt (body : List Byte) (offset width : Nat) : field body offset width < 256 ^ width :=
  (beNat_lt _).trans_le (Nat.pow_le_pow_right (by decide) (by simp [fieldBytes]))

theorem parseClaim_le {body : List Byte} {T : Nat} (h : parseClaim body = some T) : T ≤ Config.timeMax := by
  unfold parseClaim at h
  split at h
  · obtain rfl := Option.some.inj h
    exact Nat.le_of_lt_succ (field_lt body 0 4)
  · cases h

/-! ### Ticks -/

@[simp] theorem takeDueExpiry_clock (s : State) : (takeDueExpiry s).clock = s.clock := by
  unfold takeDueExpiry
  split <;> rfl

@[simp] theorem takeDueWindow_clock (s : State) : (takeDueWindow s).clock = s.clock := by
  unfold takeDueWindow
  split <;> simp

@[simp] theorem takeDueStopTime_clock (s : State) : (takeDueStopTime s).clock = s.clock := by
  unfold takeDueStopTime
  split <;> simp

@[simp] theorem settleDue_clock (s : State) : (settleDue s).clock = s.clock := by simp [settleDue]

@[simp] theorem clockTick_clock (s : State) : (clockTick s).clock = s.clock.tick := by
  unfold clockTick
  dsimp only
  split <;> simp

@[simp] theorem tickWhole_clock (order : SweepOrder) (s : State) : (tickWhole order s).clock = s.clock.tick := by
  simp [tickWhole]

@[simp] theorem tickClockOnly_clock (s : State) : (tickClockOnly s).clock = s.clock.tick := by
  simp [tickClockOnly]

/-- A tick acts only with main power on and the clock RUNNING (R3, R4). -/
theorem tickActs_iff (s : State) : tickActs s = true ↔ s.powered = true ∧ s.clock.state = .running := by
  simp [tickActs]

namespace Gentle

/-- Fields that lanes and keyring do not include may be set before a gentle operation. -/
theorem after_eq {s t u : State} (op : Gentle t u) (lanes : t.lanes = s.lanes)
    (slots : t.keyring.slots = s.keyring.slots) (queue : t.keyring.intakeQueue = s.keyring.intakeQueue) : Gentle s u :=
  (of_eq lanes slots queue).trans op

theorem takeDueExpiry (s : State) : Gentle s (takeDueExpiry s) := by
  unfold Machine.takeDueExpiry
  split
  · exact of_eq rfl rfl rfl
  · exact refl s

theorem takeDueWindow (s : State) : Gentle s (takeDueWindow s) := by
  unfold Machine.takeDueWindow
  split
  · exact after_eq (windowSweep _) rfl rfl rfl
  · exact refl s

theorem takeDueStopTime (s : State) : Gentle s (takeDueStopTime s) := by
  unfold Machine.takeDueStopTime
  split
  · exact after_eq (stopTimeSweep _) rfl rfl rfl
  · exact refl s

theorem settleDue (s : State) : Gentle s (settleDue s) :=
  ((takeDueExpiry s).trans (takeDueWindow _)).trans (takeDueStopTime _)

theorem clockTick (s : State) : Gentle s (clockTick s) := by
  unfold Machine.clockTick
  dsimp only
  split
  · exact after_eq (evaluateMargin ..) rfl rfl rfl
  · exact of_eq rfl rfl rfl

theorem tickWhole (order : SweepOrder) (s : State) : Gentle s (tickWhole order s) :=
  (((settleDue s).trans (clockTick _)).trans (expiryPass _)).trans (bothSweeps ..)

theorem tickClockOnly (s : State) : Gentle s (tickClockOnly s) :=
  ((settleDue s).trans (clockTick _)).trans (of_eq rfl rfl rfl)

/-! ### Claims -/

theorem takeClaim (T : Nat) (s : State) : Gentle s (takeClaim T s) := by
  unfold Machine.takeClaim
  split
  · exact of_eq rfl rfl rfl
  · dsimp only
    split
    · exact of_eq rfl rfl rfl
    · exact overlooks.post (s := s) (t := { s with clock := s.clock.adjustBy T }) (of_eq rfl rfl rfl) _

theorem afterClaim (order : SweepOrder) (s : State) : Gentle s (afterClaim order s) :=
  ((expiryPass s).trans (evaluateMargin ..)).trans (bothSweeps ..)

/-! ### Start-ups with the retained domain valid -/

theorem withoutPower (s : State) : Gentle s (withoutPower s) where
  lanes l _ := by simp [Machine.withoutPower, lanesClosed]
  slots _ e := e
  queue _ := rfl
  ended _ b e _ := ⟨b, e, rfl, rfl, rfl⟩

theorem startValid (s : State) : Gentle s (startValid s) := by
  refine Gentle.trans (b := { s with lanes := lanesClosed }) ?_ (after_eq (resetKeyring _) rfl rfl rfl)
  exact ⟨fun l _ => by simp [lanesClosed], fun _ e => e, fun e => e, fun _ b e _ => ⟨b, e, rfl, rfl, rfl⟩⟩

theorem beginOperation (s : State) : Gentle s (beginOperation s) := by
  unfold Machine.beginOperation
  split
  · exact ((evaluateMargin ..).trans (expiryPass _)).trans (bothSweeps ..)
  · exact refl s

theorem beginCut (judged : JudgedSoFar) (expired : Bool) (s : State) : Gentle s (beginCut judged expired s) := by
  have passed : Gentle s (if expired then Machine.expiryPass s else s) := by
    split
    · exact expiryPass s
    · exact refl s
  unfold Machine.beginCut
  split
  · dsimp only
    split
    · exact passed
    · exact passed.trans (evaluateMargin ..)
    · exact (passed.trans (evaluateMargin ..)).trans (windowSweep _)
  · exact refl s

end Gentle

/-! ### What a start-up does -/

@[simp] theorem withoutPower_clock (s : State) : (withoutPower s).clock = s.clock := rfl

@[simp] theorem startValid_clock (s : State) :
    (startValid s).clock = s.clock.caughtUp s.domain.batterySeconds := by
  simp [startValid]

@[simp] theorem beginOperation_clock (s : State) : (beginOperation s).clock = s.clock := by
  unfold beginOperation
  split <;> simp

@[simp] theorem beginCut_clock (judged : JudgedSoFar) (expired : Bool) (s : State) :
    (beginCut judged expired s).clock = s.clock := by
  unfold beginCut
  split
  · dsimp only
    split <;> split <;> simp
  · rfl

/-- The check at power-up finds the domain valid exactly when it is sound and its contents agree (R172). -/
theorem checkedStatus_sound_iff (status : DomainStatus) (checkMatches : Bool) :
    checkedStatus status checkMatches = .sound ↔ status = .sound ∧ checkMatches = true := by
  unfold checkedStatus
  split
  next h => simp [h.2]
  next h => cases checkMatches <;> simp_all

/-- A power-up does nothing with main power on; it leaves all but the domain's status to the next when it is cut before
its update; it follows the retained domain where that is valid, and takes the retained-loss values where it is not. -/
theorem powerUp_cases {checkMatches : Bool} {run : StartUpRun} {s t : State}
    (h : exec (.powerUp checkMatches run) s = .next t) :
    (s.powered = true ∧ t = s) ∨
      (s.powered = false ∧ run = .cutBeforeUpdate ∧
        t = { s with domain := { s.domain with status := checkedStatus s.domain.status checkMatches } }) ∨
      (s.powered = false ∧ s.domain.status = .sound ∧ checkMatches = true ∧
        (t = { beginOperation (startValid s) with powered := true } ∨
          ∃ judged expired, t = withoutPower (beginCut judged expired (startValid s)))) ∨
      (s.powered = false ∧ ¬(s.domain.status = .sound ∧ checkMatches = true) ∧ run ≠ .cutBeforeUpdate ∧
        (t = { startLost s with powered := true } ∨ t = withoutPower (startLost s))) := by
  obtain rfl := Host.Outcome.next.inj h
  by_cases on : s.powered = true
  · exact .inl ⟨on, if_pos on⟩
  have off : s.powered = false := by simpa using on
  rw [if_neg on]
  by_cases valid : checkedStatus s.domain.status checkMatches = .sound
  · have ok := (checkedStatus_sound_iff ..).1 valid
    cases run with
    | cutBeforeUpdate => exact .inr (.inl ⟨off, rfl, rfl⟩)
    | cutAfterUpdate judged expired =>
      exact .inr (.inr (.inl ⟨off, ok.1, ok.2, .inr ⟨judged, expired, by simp [valid]⟩⟩))
    | complete => exact .inr (.inr (.inl ⟨off, ok.1, ok.2, .inl (by simp [valid])⟩))
  · have bad := mt (checkedStatus_sound_iff ..).2 valid
    cases run with
    | cutBeforeUpdate => exact .inr (.inl ⟨off, rfl, rfl⟩)
    | cutAfterUpdate judged expired =>
      exact .inr (.inr (.inr ⟨off, bad, by simp, .inr (by simp [valid])⟩))
    | complete => exact .inr (.inr (.inr ⟨off, bad, by simp, .inl (by simp [valid])⟩))

/-- What a claim does: nothing to the clock and the keyring; or it is accepted with a claimed time in range. -/
theorem timeClaim_cases {tagOver : Option ClaimTag} {order : SweepOrder} {s t : State}
    (h : exec (.timeClaim tagOver order) s = .next t) :
    (Gentle s t ∧ t.clock = s.clock) ∨
      ∃ T r body, T ≤ Config.timeMax ∧
        t = answer r .ok body (afterClaim order (takeClaim T (withoutOldest s))) := by
  obtain rfl | ⟨r, -, -, ⟨status, rfl⟩ | ⟨T, hT, rfl⟩⟩ := serveWith_cases (Host.Outcome.next.inj h)
  · exact .inl ⟨.refl _, rfl⟩
  · exact .inl ⟨Gentle.overlooks.answer (Gentle.overlooks.withoutOldest s) .., by simp⟩
  · dsimp only
    split
    · exact .inr ⟨T, r, _, parseClaim_le hT, rfl⟩
    · exact .inl ⟨Gentle.overlooks.answer (Gentle.overlooks.withoutOldest s) .., by simp⟩

theorem takeClaim_clock (T : Nat) (s : State) :
    (takeClaim T s).clock =
      match s.clock.state with
      | .unset => s.clock.setBy T
      | .running => s.clock.adjustBy T := by
  unfold takeClaim
  cases s.clock.state
  · rfl
  · dsimp only
    split <;> simp

@[simp] theorem afterClaim_clock (order : SweepOrder) (s : State) : (afterClaim order s).clock = s.clock := by
  simp [afterClaim]

/-! ### Every event -/

/-- What any event can do to the clock. -/
theorem exec_clock {c : Instr} {s t : State} (h : exec c s = .next t) : ClockMove c s t.clock := by
  by_cases moves : movesClock c = true
  swap
  · rw [exec_clock_kept (by simpa using moves) h]
    exact .kept
  have ticking {cond : Bool} {order : SweepOrder} (acts : cond = true → tickActs s = true) :
      ClockMove c s (if cond then tickWhole order s else s).clock := by
    split
    next yes =>
      rw [tickWhole_clock]
      exact .ticked ((tickActs_iff s).1 (acts yes)).2
    · exact .kept
  cases c with
  | tick part =>
    obtain rfl := Host.Outcome.next.inj h
    cases part with
    | whole order => exact ticking id
    | clockOnly =>
      dsimp only
      split
      next acts =>
        rw [tickClockOnly_clock]
        exact .ticked ((tickActs_iff s).1 acts).2
      · exact .kept
    | expiryPass | windowSweep | stopTimeSweep =>
      dsimp only
      split
      · simpa using .kept
      · exact .kept
  | stalenessMinute order =>
    obtain rfl := Host.Outcome.next.inj h
    exact ticking fun acts => by simp_all
  | replenish order =>
    obtain rfl := Host.Outcome.next.inj h
    exact ticking fun acts => by simp_all
  | timeClaim tagOver order =>
    obtain ⟨-, e⟩ | ⟨T, r, body, fits, e⟩ := timeClaim_cases h
    · rw [e]
      exact .kept
    · rw [e, answer_clock, afterClaim_clock, takeClaim_clock, withoutOldest_clock]
      cases state : s.clock.state
      · exact .set T fits
      · exact .adjusted T fits state
  | powerUp checkMatches run =>
    have caughtUp : ClockMove (.powerUp checkMatches run) s (s.clock.caughtUp s.domain.batterySeconds) := by
      unfold Clock.caughtUp
      cases state : s.clock.state
      · exact .kept
      · exact .caughtUp _ state
    obtain ⟨-, rfl⟩ | ⟨-, -, rfl⟩ | ⟨-, -, -, rfl | ⟨judged, expired, rfl⟩⟩ | ⟨off, invalid, updated, rfl | rfl⟩ :=
      powerUp_cases h
    · exact .kept
    · exact .kept
    · simpa using caughtUp
    · simpa using caughtUp
    · exact .lost checkMatches run rfl off invalid updated
    · exact .lost checkMatches run rfl off invalid updated
  | _ => simp [movesClock] at moves

end Sys2Proof.Machine

namespace Sys2Proof.Machine

/-- The commands that may open a lane, fill or empty a slot, or lose the retained domain. -/
def mayBreak : Instr → Bool
  | .deliverBundle _ | .deleteBundle | .openScreening | .powerUp _ _ => true
  | _ => false

/-- Every command but a delivery, a deletion, an open and a power-up is gentle. -/
theorem exec_gentle {c : Instr} {s t : State} (h : mayBreak c = false) (e : exec c s = .next t) : Gentle s t := by
  have answered (r : Request) (status : Status) (body : List Byte) (t : State) :
      Gentle t (answer r status body t) := Gentle.overlooks.answer (Gentle.refl t) ..
  have ifThen {cond : Bool} {t : State} (acts : Gentle s t) : Gentle s (if cond then t else s) := by
    split
    · exact acts
    · exact .refl s
  cases c with
  | deliverBundle | deleteBundle | openScreening | powerUp => simp [mayBreak] at h
  | serialFrame bytes | serialByteTimeout =>
    obtain rfl := Host.Outcome.next.inj e
    refine ifThen ?_
    rw [takeSerial_frame]
    exact Gentle.overlooks.link ..
  | lanFrame bytes checkPasses =>
    obtain rfl := Host.Outcome.next.inj e
    refine ifThen ?_
    split
    · exact .refl s
    · rw [acceptFrame_frame]
      exact Gentle.overlooks.link ..
  | frameSent =>
    obtain rfl := Host.Outcome.next.inj e
    split
    · exact .refl s
    · exact ifThen (Gentle.overlooks.link ..)
  | unknownKind =>
    obtain rfl := Host.Outcome.next.inj e
    refine ifThen ?_
    split
    · exact .refl s
    · split
      · exact .refl s
      · exact Gentle.overlooks.answer (Gentle.overlooks.withoutOldest s) ..
  | restartReset =>
    obtain rfl := Host.Outcome.next.inj e
    refine ifThen (.trans (b := { s with lanes := lanesClosed }) ?_ (.after_eq (.resetKeyring _) rfl rfl rfl))
    exact ⟨fun l _ => by simp [lanesClosed], fun _ e => e, fun e => e, fun _ b e _ => ⟨b, e, rfl, rfl, rfl⟩⟩
  | mainPowerLoss =>
    obtain rfl := Host.Outcome.next.inj e
    exact ifThen (.withoutPower s)
  | batterySecond | cellFailed =>
    obtain rfl := Host.Outcome.next.inj e
    split
    · exact .of_eq rfl rfl rfl
    · exact .refl s
  | identify | clockStatus | marginStatus | listRevocations | engineStatus =>
    obtain rfl := Host.Outcome.next.inj e
    exact Gentle.overlooks.serveBare (fun r t => answered ..) s
  | provisionWrite =>
    obtain rfl := Host.Outcome.next.inj e
    refine Gentle.overlooks.serve (fun r t => ?_) s
    unfold provisionWrite
    split
    · exact answered ..
    · split
      · exact answered ..
      · split
        · exact answered ..
        · split
          · split
            · exact .of_eq (by simp) (by simp) (by simp)
            · exact answered ..
          · exact .of_eq (by simp) (by simp) (by simp)
  | provisionFinalize =>
    obtain rfl := Host.Outcome.next.inj e
    refine Gentle.overlooks.serveBare (fun r t => ?_) s
    split
    · exact answered ..
    · split
      · exact .of_eq (by simp) (by simp) (by simp)
      · exact answered ..
  | collect | restart =>
    obtain rfl := Host.Outcome.next.inj e
    exact Gentle.overlooks.serveBare (fun r t => .of_eq (by simp) (by simp) (by simp)) s
  | dismiss =>
    obtain rfl := Host.Outcome.next.inj e
    exact Gentle.overlooks.serveWith (fun q r t _ => .of_eq (by simp) (by simp) (by simp)) s
  | noticeHold =>
    obtain rfl := Host.Outcome.next.inj e
    refine Gentle.overlooks.serveWith (fun hold r t _ => Gentle.overlooks.answer ?_ ..) s
    split
    · exact Gentle.overlooks.link ..
    · exact .of_eq (by simp) (by simp) (by simp)
  | siteParameter =>
    obtain rfl := Host.Outcome.next.inj e
    refine Gentle.overlooks.serveWith (fun q r t _ => Gentle.overlooks.answer ?_ ..) s
    split
    · exact .after_eq (.evaluateAndSweep ..) rfl rfl rfl
    · exact .of_eq rfl rfl rfl
  | setShape | setTerm =>
    obtain rfl := Host.Outcome.next.inj e
    refine Gentle.overlooks.serveWith (fun ⟨i, entry⟩ r t _ => Gentle.overlooks.answer ?_ ..) s
    exact .after_eq (.evaluateAndSweep ..) rfl rfl rfl
  | timeClaim tagOver order =>
    obtain ⟨kept, -⟩ | ⟨T, r, body, -, rfl⟩ := timeClaim_cases e
    · exact kept
    · exact Gentle.overlooks.answer
        (((Gentle.overlooks.withoutOldest s).trans (.takeClaim ..)).trans (.afterClaim ..)) ..
  | bundleStatus =>
    obtain rfl := Host.Outcome.next.inj e
    refine Gentle.overlooks.serveWith (fun q r t _ => ?_) s
    split
    · exact answered ..
    · split <;> exact answered ..
  | listBundles =>
    obtain rfl := Host.Outcome.next.inj e
    exact Gentle.overlooks.serveWith (fun q r t _ => .of_eq (by simp) (by simp) (by simp)) s
  | revoke tagOver =>
    obtain rfl := Host.Outcome.next.inj e
    refine Gentle.overlooks.serveWith (fun o r t _ => ?_) s
    split
    · exact answered ..
    · split
      · exact answered ..
      · split
        · exact answered ..
        next list action _ =>
          split
          next done _ _ struck =>
            have kept := Gentle.applyOrder o { t with revocations := list }
            rw [struck] at kept
            exact Gentle.overlooks.answer (s := t) (.after_eq kept rfl rfl rfl) ..
  | sync =>
    obtain rfl := Host.Outcome.next.inj e
    refine Gentle.overlooks.serveBare (fun r t => ?_) s
    split
    · exact answered ..
    · split
      · exact answered ..
      · exact Gentle.overlooks.link_engine ..
  | bindScreen =>
    obtain rfl := Host.Outcome.next.inj e
    refine Gentle.overlooks.serveWith (fun q r t _ => ?_) s
    unfold whenClosed
    split
    · exact answered ..
    · exact Gentle.overlooks.answer (.after_eq (.grant _) (by simp) (by simp) (by simp)) ..
  | unbindScreen | setBias =>
    obtain rfl := Host.Outcome.next.inj e
    refine Gentle.overlooks.serveWith (fun q r t _ => ?_) s
    dsimp only [whenClosed]
    split
    · exact answered ..
    · exact .of_eq (by simp) (by simp) (by simp)
  | laneStatus =>
    obtain rfl := Host.Outcome.next.inj e
    exact Gentle.overlooks.serveWith (fun q r t _ => answered ..) s
  | endScreening =>
    obtain rfl := Host.Outcome.next.inj e
    exact Gentle.overlooks.serveWith (fun q r t _ => .endScreening ..) s
  | closeLane =>
    obtain rfl := Host.Outcome.next.inj e
    exact Gentle.overlooks.serveWith (fun q r t _ => .closeLane ..) s
  | fetchReel =>
    obtain rfl := Host.Outcome.next.inj e
    exact Gentle.overlooks.serveWith (fun q r t _ => .fetchReel ..) s
  | reelBegin =>
    obtain rfl := Host.Outcome.next.inj e
    exact Gentle.overlooks.serveWith (fun q r t _ => .reelBegin ..) s
  | amendScreening =>
    obtain rfl := Host.Outcome.next.inj e
    exact Gentle.overlooks.serveWith (fun q r t _ => .amendScreening ..) s
  | fetchReport =>
    obtain rfl := Host.Outcome.next.inj e
    exact Gentle.overlooks.serveWith (fun q r t _ => .fetchReport ..) s
  | tick part =>
    obtain rfl := Host.Outcome.next.inj e
    cases part with
    | whole order => exact ifThen (.tickWhole ..)
    | clockOnly => exact ifThen (.tickClockOnly s)
    | expiryPass => exact ifThen (.takeDueExpiry s)
    | windowSweep => exact ifThen (.takeDueWindow s)
    | stopTimeSweep => exact ifThen (.takeDueStopTime s)
  | stalenessMinute order | replenish order =>
    obtain rfl := Host.Outcome.next.inj e
    exact ifThen (.tickWhole ..)
  | intakeUnwrapComplete outcome =>
    obtain rfl := Host.Outcome.next.inj e
    exact Gentle.overlooks.completeJob (.deliverIntake outcome)
      (fun t => Gentle.overlooks.presentIntake (.refl t)) .grant s
  | rewrapComplete outcome =>
    obtain rfl := Host.Outcome.next.inj e
    exact Gentle.overlooks.completeJob (.deliverRewrap outcome) .refl .grant s
  | bindComplete outcome =>
    obtain rfl := Host.Outcome.next.inj e
    exact Gentle.overlooks.completeJob (.deliverBind outcome) .refl .grant s

end Sys2Proof.Machine

namespace Sys2Proof.Machine

/-! ### Finding slots -/

theorem mem_slotsWhere {k : Keyring} {p : Bundle → Bool} {i : SlotNo} :
    i ∈ slotsWhere k p ↔ ∃ b, k.slots[i] = some b ∧ p b = true := by
  simp [slotsWhere, Option.any_eq_true]

theorem slotOfBundle_some {k : Keyring} {id : Ident} {i : SlotNo} (h : slotOfBundle k id = some i) :
    ∃ b, k.slots[i] = some b ∧ b.bundleId = id := by
  obtain ⟨b, hb, hid⟩ := mem_slotsWhere.1 (List.mem_of_head? h)
  exact ⟨b, hb, by simpa using hid⟩

/-- A scan that keeps its best or takes the next finds an element of its list. -/
theorem mem_of_foldl_best {α : Type} {f : Option α → α → Option α}
    (step : ∀ best i, f best i = best ∨ f best i = some i) {l : List α} {x : α}
    (h : l.foldl f none = some x) : x ∈ l := by
  suffices ∀ (m : List α) (best : Option α), m.foldl f best = best ∨ ∃ y ∈ m, m.foldl f best = some y by
    obtain e | ⟨y, hy, e⟩ := this l none
    · rw [e] at h
      cases h
    · obtain rfl := Option.some.inj (e.symm.trans h)
      exact hy
  intro m
  induction m with
  | nil => exact fun best => .inl rfl
  | cons i rest ih =>
    intro best
    rw [List.foldl_cons]
    obtain e | ⟨y, hy, e⟩ := ih (f best i)
    · rw [e]
      obtain e' | e' := step best i
      · exact .inl e'
      · exact .inr ⟨i, List.mem_cons_self .., e'⟩
    · exact .inr ⟨y, List.mem_cons_of_mem _ hy, e⟩

theorem oldestTombstone_some {k : Keyring} {i : SlotNo} (h : oldestTombstone k = some i) :
    ∃ b, k.slots[i] = some b ∧ b.isTombstone = true := by
  refine mem_slotsWhere.1 (mem_of_foldl_best (fun best j => ?_) h)
  split
  · exact .inr rfl
  · split
    · exact .inr rfl
    · exact .inl rfl

/-- A delivery goes into an empty slot or takes that of a tombstone (R46). -/
theorem deliverySlot_some {k : Keyring} {id : Ident} {i : SlotNo} (h : deliverySlot k id = some i) :
    k.slots[i] = none ∨ ∃ b, k.slots[i] = some b ∧ b.isTombstone = true := by
  obtain first | ⟨-, oldest⟩ := (Option.orElse_eq_some ..).1 h
  obtain own | ⟨-, empty⟩ := (Option.orElse_eq_some ..).1 first
  · obtain ⟨b, hb, both⟩ := mem_slotsWhere.1 (List.mem_of_head? own)
    exact .inr ⟨b, hb, by simp_all⟩
  · have := List.mem_of_head? empty
    exact .inl (by simpa using this)
  · exact .inr (oldestTombstone_some oldest)

/-! ### The commands that are not gentle -/

/-- A DELIVER_BUNDLE is refused, or puts a fresh record into a slot that was empty or a tombstone's; it is refused while
the clock is UNSET (R4, R42, R46). -/
theorem deliverBundle_cases {tagOver : Option BundleTag} {s t : State}
    (h : exec (.deliverBundle tagOver) s = .next t) :
    Gentle s t ∨
      ∃ (r : Request) (d : Delivery) (slot : SlotNo) (refs : List PoolNo),
        s.clock.state ≠ .unset ∧ s.link.receive.head? = some r ∧ r.kind = RequestKind.deliverBundle.code ∧
        parseDelivery r.body = some d ∧
        (s.keyring.slots[slot] = none ∨ ∃ b, s.keyring.slots[slot] = some b ∧ b.isTombstone = true) ∧
        t.keyring.slots = s.keyring.slots.set slot (some (newRecord d refs s.clock.now)) := by
  have refused (r : Request) (status : Status) (body : List Byte) :
      Gentle s (answer r status body (withoutOldest s)) :=
    Gentle.overlooks.answer (Gentle.overlooks.withoutOldest s) ..
  obtain rfl | ⟨r, hr, hk, rfl | rfl⟩ := serve_cases (Host.Outcome.next.inj h)
  · exact .inl (.refl _)
  · exact .inl (refused ..)
  · split
    · exact .inl (refused ..)
    next set =>
      split
      · exact .inl (refused ..)
      next d hd =>
        split
        · exact .inl (refused ..)
        next slot _ hslot =>
          refine .inr ⟨r, d, slot, (freeNumbers s.keyring.pool).take d.reelCount, set, hr, hk, hd,
            deliverySlot_some hslot, ?_⟩
          simp only [answer_keyring, acceptDelivery, grant_keyring, presentIntake_keyring]
          rfl
        · exact .inl (refused ..)

/-- A DELETE_BUNDLE is refused, or empties the slot of a record with no use that holds the id (R53). -/
theorem deleteBundle_cases {s t : State} (h : exec .deleteBundle s = .next t) :
    Gentle s t ∨
      ∃ (r : Request) (slot : SlotNo) (b : Bundle),
        s.link.receive.head? = some r ∧ r.kind = RequestKind.deleteBundle.code ∧
        parseBundleId r.body = some b.bundleId ∧ s.keyring.slots[slot] = some b ∧ b.useCount = 0 ∧
        t.keyring.slots = s.keyring.slots.set slot none := by
  have refused (r : Request) (status : Status) (body : List Byte) :
      Gentle s (answer r status body (withoutOldest s)) :=
    Gentle.overlooks.answer (Gentle.overlooks.withoutOldest s) ..
  obtain rfl | ⟨r, hr, hk, ⟨status, rfl⟩ | ⟨id, hid, rfl⟩⟩ := serveWith_cases (Host.Outcome.next.inj h)
  · exact .inl (.refl _)
  · exact .inl (refused ..)
  · unfold deleteBundle
    split
    · exact .inl (refused ..)
    next slot found =>
      split
      · exact .inl (refused ..)
      next b hb =>
        split
        · exact .inl (refused ..)
        · split
          · exact .inl (refused ..)
          next unused =>
            obtain ⟨b', hb', rfl⟩ := slotOfBundle_some found
            obtain rfl : b = b' := Option.some.inj (hb.symm.trans hb')
            exact .inr ⟨r, slot, b, hr, hk, hid, hb, Nat.eq_zero_of_not_pos unused, by simp⟩

theorem takeUse_withoutOldest (slot : SlotNo) (s : State) :
    (takeUse slot (withoutOldest s)).keyring = (takeUse slot s).keyring := by
  simp only [takeUse, withoutOldest_keyring]
  split <;> simp_all [setBundle]

/-- An OPEN_SCREENING is refused, as it is while the clock is UNSET, or keeps the keyring but for a use (R4, R108). -/
theorem openScreening_cases {s t : State} (h : exec .openScreening s = .next t) :
    Gentle s t ∨ (s.clock.state ≠ .unset ∧ ∃ slot, t.keyring = (takeUse slot s).keyring) := by
  have refused (r : Request) (status : Status) (body : List Byte) :
      Gentle s (answer r status body (withoutOldest s)) :=
    Gentle.overlooks.answer (Gentle.overlooks.withoutOldest s) ..
  obtain rfl | ⟨r, -, -, ⟨status, rfl⟩ | ⟨q, -, rfl⟩⟩ := serveWith_cases (Host.Outcome.next.inj h)
  · exact .inl (.refl _)
  · exact .inl (refused ..)
  · split
    · exact .inl (refused ..)
    · split
      · exact .inl (refused ..)
      · split
        · exact .inl (refused ..)
        next set =>
          split
          · exact .inl (refused ..)
          · unfold openChosen
            split
            · exact .inl (refused ..)
            · split
              · exact .inl (refused ..)
              next slot _ =>
                split
                · exact .inl (refused ..)
                · refine .inr ⟨set, slot, ?_⟩
                  unfold openOn
                  rw [answer_keyring, grant_keyring, fillAtOpen_frame, setLane_keyring, takeUse_withoutOldest]

/-! ### One step -/

/-- A step takes the command at the front of the queue, or idles on an empty one. -/
theorem step_cases {s t : State} (h : step s = .next t) :
    (s.pending = [] ∧ t = s) ∨ ∃ c rest, s.pending = c :: rest ∧ exec c { s with pending := rest } = .next t := by
  unfold step at h
  split at h
  · exact .inl ⟨‹_›, (Host.Outcome.next.inj h).symm⟩
  · exact .inr ⟨_, _, ‹_›, h⟩

end Sys2Proof.Machine

namespace Sys2Proof.Machine

/-! ## The clock keeps its ranges (O4), and leaves RUNNING only at a retained loss (O5) -/

/-- The ranges that a clock keeps in either state. -/
structure Clock.InRange (c : Clock) : Prop where
  now : c.now ≤ 4294967295
  allowance : c.allowance ≤ 900
  residual : c.residual.natAbs ≤ 65535
  staleness : c.staleness ≤ 65535
  minute : 1 ≤ c.minuteCountdown ∧ c.minuteCountdown ≤ 60
  replenish : 1 ≤ c.replenishCountdown ∧ c.replenishCountdown ≤ 86400

theorem Clock.Ok.inRange {c : Clock} (h : c.Ok) : c.InRange :=
  let ⟨now, allowance, residual, staleness, minute, replenish, _⟩ := h
  { now, allowance, residual, staleness, minute, replenish }

/-- A clock in RUNNING is sound as soon as its values are in range. -/
theorem Clock.InRange.ok {c : Clock} (h : c.InRange) (running : c.state = .running) : c.Ok :=
  ⟨h.now, h.allowance, h.residual, h.staleness, h.minute, h.replenish, fun unset => by simp [running] at unset⟩

@[simp] theorem Clock.tick_state (c : Clock) : c.tick.state = c.state := by
  unfold Clock.tick Clock.countReplenish Clock.countMinute
  split <;> split <;> rfl

/-- The clock's values after one tick (R3, R5, R6). -/
theorem Clock.tick_eq (c : Clock) :
    c.tick =
      { c with
        now := min (c.now + 1) 4294967295
        staleness := if c.minuteCountdown ≤ 1 then min (c.staleness + 1) 65535 else c.staleness
        minuteCountdown := if c.minuteCountdown ≤ 1 then 60 else c.minuteCountdown - 1
        allowance := if c.replenishCountdown ≤ 1 then min 900 (c.allowance + 30) else c.allowance
        replenishCountdown := if c.replenishCountdown ≤ 1 then 86400 else c.replenishCountdown - 1 } := by
  by_cases minute : c.minuteCountdown ≤ 1 <;> by_cases replenish : c.replenishCountdown ≤ 1 <;>
    simp [Clock.tick, Clock.countReplenish, Clock.countMinute, Clock.countSecond, Clock.minuteDue, Clock.replenishDue,
      Clock.passMinute, Clock.passReplenish, Config.timeMax, Config.stalenessMax, Config.minuteTicks,
      Config.allowanceMax, Config.allowanceStep, Config.replenishTicks, minute, replenish]

theorem Clock.InRange.tick {c : Clock} (h : c.InRange) : c.tick.InRange := by
  obtain ⟨now, allowance, residual, staleness, minute, replenish⟩ := h
  rw [Clock.tick_eq]
  constructor <;> dsimp only
  · omega
  · split_ifs <;> omega
  · exact residual
  · split_ifs <;> omega
  · split_ifs <;> omega
  · split_ifs <;> omega

/-- One tick and then a catch-up over `e` seconds is a catch-up over `e + 1` (R17). -/
theorem Clock.InRange.catchUp_tick {c : Clock} (h : c.InRange) (e : Nat) : c.tick.catchUp e = c.catchUp (e + 1) := by
  obtain ⟨now, allowance, residual, staleness, minute, replenish⟩ := h
  rw [Clock.tick_eq]
  simp only [Clock.catchUp, Clock.mk.injEq, Config.timeMax, Config.stalenessMax, Config.minuteTicks,
    Config.allowanceMax, Config.allowanceStep, Config.replenishTicks, true_and]
  refine ⟨?_, ?_, ?_, ?_, ?_⟩
  · omega
  · clear now residual staleness minute
    split_ifs <;> omega
  · clear now allowance residual replenish
    split_ifs <;> omega
  · clear now allowance residual staleness replenish
    split_ifs <;> omega
  · clear now allowance residual staleness minute
    split_ifs <;> omega

theorem Clock.InRange.catchUp_zero {c : Clock} (h : c.InRange) : c.catchUp 0 = c := by
  have now : min (c.now + 0) Config.timeMax = c.now := min_eq_left h.now
  have minute : 0 < c.minuteCountdown := h.minute.1
  have replenish : 0 < c.replenishCountdown := h.replenish.1
  unfold Clock.catchUp
  rw [if_pos minute, if_pos minute, if_pos replenish, if_pos replenish, now]
  rfl

/-- The battery catch-up is the effect of as many ticks. -/
theorem Clock.InRange.catchUp_eq_iterate {c : Clock} (h : c.InRange) (e : Nat) :
    c.catchUp e = Nat.iterate Clock.tick e c := by
  induction e generalizing c with
  | zero => exact h.catchUp_zero
  | succ e ih => rw [Function.iterate_succ_apply, ← ih h.tick, h.catchUp_tick]

theorem Clock.InRange.catchUp {c : Clock} (h : c.InRange) (e : Nat) : (c.catchUp e).InRange := by
  rw [h.catchUp_eq_iterate]
  induction e generalizing c with
  | zero => exact h
  | succ e ih => exact ih h.tick

theorem Clock.InRange.setBy {c : Clock} (h : c.InRange) {T : Nat} (fits : T ≤ Config.timeMax) :
    (c.setBy T).InRange where
  now := fits
  allowance := by simp [Clock.setBy, Config.allowanceAtSet]
  residual := by simp [Clock.setBy]
  staleness := by simp [Clock.setBy]
  minute := by simp [Clock.setBy, Config.minuteTicks]
  replenish := h.replenish

/-- A claim moves part time to the claimed time or towards it, and spends no more than the allowance (R9). -/
theorem claimChange_bounds (asked : Int) (allowance : Nat) :
    (claimChange asked allowance).natAbs ≤ allowance ∧
      (0 ≤ claimChange asked allowance ∧ claimChange asked allowance ≤ asked ∨
        claimChange asked allowance ≤ 0 ∧ asked ≤ claimChange asked allowance) := by
  unfold claimChange
  split_ifs <;> omega

theorem Clock.InRange.adjustBy {c : Clock} (h : c.InRange) {T : Nat} (fits : T ≤ Config.timeMax) :
    (c.adjustBy T).InRange := by
  obtain ⟨now, allowance, residual, staleness, minute, replenish⟩ := h
  obtain ⟨spent, towards⟩ := claimChange_bounds ((T : Int) - c.now) c.allowance
  have fits : T ≤ 4294967295 := fits
  constructor <;> simp only [Clock.adjustBy]
  · omega
  · omega
  · simp only [clampResidual, Config.residualMax]
    omega
  · omega
  · simp [Config.minuteTicks]
  · exact replenish

theorem ClockMove.ok {c : Instr} {s : State} {k : Clock} (move : ClockMove c s k) (h : s.clock.Ok) : k.Ok := by
  cases move with
  | kept => exact h
  | ticked running => exact h.inRange.tick.ok (by rw [Clock.tick_state, running])
  | set T fits => exact (h.inRange.setBy fits).ok rfl
  | adjusted T fits running => exact (h.inRange.adjustBy fits).ok running
  | caughtUp e running => exact (h.inRange.catchUp e).ok running
  | lost => simp [Clock.Ok, Clock.afterLoss, Config.stalenessMax, Config.minuteTicks, Config.replenishTicks]

/-- A clock that leaves RUNNING has lost its retained domain. -/
theorem ClockMove.lost_of_unset {c : Instr} {s : State} {k : Clock} (move : ClockMove c s k)
    (running : s.clock.state = .running) (unset : k.state = .unset) :
    ∃ checkMatches run, c = .powerUp checkMatches run ∧ s.powered = false ∧
      ¬(s.domain.status = .sound ∧ checkMatches = true) ∧ run ≠ .cutBeforeUpdate := by
  cases move with
  | lost checkMatches run command off invalid updated => exact ⟨checkMatches, run, command, off, invalid, updated⟩
  | kept => simp [running] at unset
  | ticked => simp [running] at unset
  | set => simp [Clock.setBy] at unset
  | adjusted => simp [Clock.adjustBy, running] at unset
  | caughtUp => simp [Clock.catchUp, running] at unset

/-! ## What UNSET leaves empty (O10), and records that stay ended (O18) -/

theorem Gentle.powerOn (s : State) : Gentle s { s with powered := true } := .of_eq rfl rfl rfl

theorem startLost_emptyWhileUnset (s : State) : EmptyWhileUnset (startLost s) := fun _ =>
  ⟨fun i => by simp [startLost, Keyring.empty], rfl, fun l => by simp [startLost, lanesClosed]⟩

/-- A gentle event that does not bring the clock into UNSET keeps what UNSET leaves empty. -/
theorem Gentle.emptyWhileUnset {s t : State} (h : Gentle s t) (clock : t.clock.state = .unset → s.clock.state = .unset)
    (empty : EmptyWhileUnset s) : EmptyWhileUnset t := by
  intro unset
  obtain ⟨slots, queue, lanes⟩ := empty (clock unset)
  exact ⟨fun i => h.slots i (slots i), h.queue queue, fun l => h.lanes l (lanes l)⟩

/-- Every event keeps what UNSET leaves empty (R4). -/
theorem exec_emptyWhileUnset {c : Instr} {s t : State} (e : exec c s = .next t) (empty : EmptyWhileUnset s) :
    EmptyWhileUnset t := by
  cases state : s.clock.state with
  | running =>
    intro unset
    obtain ⟨checkMatches, run, rfl, off, invalid, updated⟩ := (exec_clock e).lost_of_unset state unset
    obtain ⟨on, -⟩ | ⟨-, cut, -⟩ | ⟨-, sound, ok, -⟩ | ⟨-, -, -, rfl | rfl⟩ := powerUp_cases e
    · simp [on] at off
    · exact absurd cut updated
    · exact absurd ⟨sound, ok⟩ invalid
    · exact startLost_emptyWhileUnset s unset
    · exact (Gentle.withoutPower _).emptyWhileUnset id (startLost_emptyWhileUnset s) unset
  | unset =>
    have kept (h : Gentle s t) : EmptyWhileUnset t := h.emptyWhileUnset (fun _ => state) empty
    cases c with
    | deliverBundle tagOver =>
      obtain h | ⟨_, _, _, _, set, _⟩ := deliverBundle_cases e
      · exact kept h
      · exact absurd state set
    | deleteBundle =>
      obtain h | ⟨_, slot, b, -, -, -, hb, -⟩ := deleteBundle_cases e
      · exact kept h
      · simp [(empty state).1 slot] at hb
    | openScreening =>
      obtain h | ⟨set, -⟩ := openScreening_cases e
      · exact kept h
      · exact absurd state set
    | powerUp checkMatches run =>
      obtain ⟨-, rfl⟩ | ⟨-, -, rfl⟩ | ⟨-, -, -, rfl | ⟨judged, expired, rfl⟩⟩ | ⟨-, -, -, rfl | rfl⟩ := powerUp_cases e
      · exact empty
      · exact empty
      · exact kept (((Gentle.startValid s).trans (.beginOperation _)).trans (.powerOn _))
      · exact kept (((Gentle.startValid s).trans (.beginCut ..)).trans (.withoutPower _))
      · exact startLost_emptyWhileUnset s
      · exact (Gentle.withoutPower _).emptyWhileUnset id (startLost_emptyWhileUnset s)
    | _ => exact kept (exec_gentle rfl e)

/-- An ended record with its keys erased has no use left where it is REVOKED. -/
theorem Bundle.unused_of_tombstone {b : Bundle} (h : b.isTombstone = true) (revoked : b.state = .revoked) :
    b.useCount = 0 := by
  simpa [Bundle.isTombstone, Bundle.holdsKeys, revoked] using h

/-- The ways a record that has ended in slot `i` is found after a command `c`: still ended there; gone by its deletion
or by a retained loss; or, a tombstone, replaced by a fresh delivery. -/
inductive EndedFate (c : Instr) (s t : State) (i : SlotNo) (b : Bundle) : Prop
  | stays (a : Bundle) (there : t.keyring.slots[i] = some a) (bundleId : a.bundleId = b.bundleId)
    (featureId : a.featureId = b.featureId) (state : a.state = b.state)
  | deleted (gone : t.keyring.slots[i] = none) (unused : b.useCount = 0) (command : c = .deleteBundle) (r : Request)
    (oldest : s.link.receive.head? = some r) (kind : r.kind = RequestKind.deleteBundle.code)
    (named : parseBundleId r.body = some b.bundleId)
  | lost (gone : t.keyring.slots[i] = none) (off : s.powered = false) (checkMatches : Bool) (run : StartUpRun)
    (command : c = .powerUp checkMatches run) (updated : run ≠ .cutBeforeUpdate)
    (invalid : ¬(s.domain.status = .sound ∧ checkMatches = true))
  | replaced (unused : b.state = .revoked → b.useCount = 0) (tagOver : Option BundleTag) (r : Request) (d : Delivery)
    (refs : List PoolNo) (command : c = .deliverBundle tagOver) (oldest : s.link.receive.head? = some r)
    (kind : r.kind = RequestKind.deliverBundle.code) (read : parseDelivery r.body = some d)
    (fresh : t.keyring.slots[i] = some (newRecord d refs s.clock.now))

theorem Gentle.fate {c : Instr} {s t : State} (h : Gentle s t) {i : SlotNo} {b : Bundle}
    (hb : s.keyring.slots[i] = some b) (ended : b.state.Ended) : EndedFate c s t i b :=
  let ⟨a, there, bundleId, featureId, state⟩ := h.ended i b hb ended
  .stays a there bundleId featureId state

/-- Every event leaves an ended record to one of its fates (R14). -/
theorem exec_endedFate {c : Instr} {s t : State} (e : exec c s = .next t) {i : SlotNo} {b : Bundle}
    (hb : s.keyring.slots[i] = some b) (ended : b.state.Ended) : EndedFate c s t i b := by
  cases c with
  | deliverBundle tagOver =>
    obtain h | ⟨r, d, slot, refs, -, oldest, kind, read, place, slots⟩ := deliverBundle_cases e
    · exact h.fate hb ended
    · by_cases same : slot = i
      · subst same
        refine .replaced ?_ tagOver r d refs rfl oldest kind read (by rw [slots, slots_set_same])
        obtain empty | ⟨x, hx, tombstone⟩ := place
        · simp [empty] at hb
        · obtain rfl : x = b := Option.some.inj (hx.symm.trans hb)
          exact Bundle.unused_of_tombstone tombstone
      · exact .stays b (by rw [slots, slots_set_other _ same, hb]) rfl rfl rfl
  | deleteBundle =>
    obtain h | ⟨r, slot, x, oldest, kind, named, hx, unused, slots⟩ := deleteBundle_cases e
    · exact h.fate hb ended
    · by_cases same : slot = i
      · subst same
        obtain rfl : x = b := Option.some.inj (hx.symm.trans hb)
        exact .deleted (by rw [slots, slots_set_same]) unused rfl r oldest kind named
      · exact .stays b (by rw [slots, slots_set_other _ same, hb]) rfl rfl rfl
  | openScreening =>
    obtain h | ⟨-, slot, keyring⟩ := openScreening_cases e
    · exact h.fate hb ended
    · obtain ⟨a, there, bundleId, featureId, state⟩ := (Gentle.takeUse slot s).ended i b hb ended
      exact .stays a (by rw [keyring, there]) bundleId featureId state
  | powerUp checkMatches run =>
    obtain ⟨-, rfl⟩ | ⟨-, -, rfl⟩ | ⟨-, -, -, rfl | ⟨judged, expired, rfl⟩⟩ | ⟨off, invalid, updated, rfl | rfl⟩ :=
      powerUp_cases e
    · exact (Gentle.refl t).fate hb ended
    · exact .stays b hb rfl rfl rfl
    · exact (((Gentle.startValid s).trans (.beginOperation _)).trans (.powerOn _)).fate hb ended
    · exact (((Gentle.startValid s).trans (.beginCut ..)).trans (.withoutPower _)).fate hb ended
    · exact .lost (by simp [startLost, Keyring.empty]) off checkMatches run rfl updated invalid
    · exact .lost (by simp [startLost, withoutPower, Keyring.empty]) off checkMatches run rfl updated invalid
  | _ => exact (exec_gentle rfl e).fate hb ended

/-! ## The obligations on every step -/

/-- Settles O4: every event moves the clock by one of a few moves, and each keeps the ranges. -/
theorem clockRangesAreKept : Obligations.ClockRangesAreKept := by
  intro s t ok h
  obtain ⟨-, rfl⟩ | ⟨c, rest, -, e⟩ := step_cases h
  · exact ok
  · exact (exec_clock e).ok ok

/-- Settles O5: of the moves an event may make at the clock, only a retained loss leaves RUNNING. -/
theorem clockIsUnsetOnlyByLoss : Obligations.ClockIsUnsetOnlyByLoss := by
  intro s t running h unset
  obtain ⟨-, rfl⟩ | ⟨c, rest, pending, e⟩ := step_cases h
  · simp [running] at unset
  · obtain ⟨checkMatches, run, rfl, off, invalid, updated⟩ := (exec_clock e).lost_of_unset running unset
    exact ⟨checkMatches, run, rest, pending, off, invalid, updated⟩

/-- Settles O10: while UNSET no bundle is delivered and no lane opened, and a retained loss empties both. -/
theorem unsetMeansEmpty : Obligations.UnsetMeansEmpty := by
  intro s t empty h
  obtain ⟨-, rfl⟩ | ⟨c, rest, -, e⟩ := step_cases h
  · exact empty
  · exact exec_emptyWhileUnset e empty

/-- Settles O18, by the fates of an ended record. -/
theorem endedRecordsStayEnded : Obligations.EndedRecordsStayEnded := by
  intro s t i b hb ended h
  obtain ⟨-, rfl⟩ | ⟨c, rest, pending, e⟩ := step_cases h
  · exact .inl ⟨b, hb, rfl, rfl, rfl⟩
  have front : s.pending.head? = some c := by rw [pending]; rfl
  cases exec_endedFate e hb ended with
  | stays a there bundleId featureId state => exact .inl ⟨a, there, bundleId, featureId, state⟩
  | deleted gone unused command r oldest kind named =>
    exact .inr (.inl ⟨gone, unused, command ▸ front, r, oldest, kind, named⟩)
  | lost gone off checkMatches run command updated invalid =>
    exact .inr (.inr (.inl ⟨gone, off, checkMatches, run, command ▸ front, updated, invalid⟩))
  | replaced unused tagOver r d refs command oldest kind read fresh =>
    exact .inr (.inr (.inr ⟨unused, tagOver, r, d, refs, command ▸ front, oldest, kind, read, fresh⟩))

/-- Settles O20, by induction on the number of ticks. -/
theorem catchUpEqualsTicks : Obligations.CatchUpEqualsTicks := fun _ e ok => ok.inRange.catchUp_eq_iterate e

end Sys2Proof.Machine

namespace Sys2Proof.Machine

/-! ## Reset (O2, O3) -/

/-- The RETAINED_LOSS evaluation with its numbers (R36). -/
theorem evaluationAfterLoss_eq :
    evaluationAfterLoss =
      { x1 := 0, x2 := 65535, grades := #v[255, 0, 0, 0, 255, 0, 0, 0], weights := #v[0, 255, 0, 0, 0, 0, 0, 0]
        weightSum := 255, productSum := 76500, usedNoOpinion := false, rawMargin := 300, margin := 300
        cause := .retainedLoss, time := 0 } := by
  decide +kernel

theorem reset_slots (i : SlotNo) : State.reset.keyring.slots[i] = none := by simp [State.reset, Keyring.empty]

theorem reset_lanes (l : LaneNo) : State.reset.lanes[l] = none := by simp [State.reset, lanesClosed]

theorem reset_ranks (r : RequesterNo) : State.reset.engine.ranks[r] = r.val := tabulate_get _ r

/-- Settles O2: the values are those of the model's definitions; the evaluation's are computed once. -/
theorem resetLeavesTheLossValues : Obligations.ResetLeavesTheLossValues := by
  have margin : State.reset.margin = MarginUnit.afterLoss := rfl
  unfold Obligations.ResetLeavesTheLossValues
  dsimp only
  refine ⟨rfl, rfl, ?_, rfl, reset_slots, rfl, rfl, rfl, rfl, rfl, rfl, reset_ranks, fun l => ⟨?_, reset_lanes l⟩, ?_⟩
  · rw [margin, MarginUnit.afterLoss, evaluationAfterLoss_eq]
    rfl
  · simp [State.reset, screensAfterLoss, Screen.afterLoss]
  · exact ⟨rfl, rfl, rfl, rfl, rfl, rfl, rfl, rfl, rfl, rfl, rfl, rfl, rfl, rfl, rfl, rfl, rfl, rfl, rfl, rfl⟩

theorem reset_marginOk : MarginOk State.reset := by
  refine ⟨by unfold SiteParameters.Ok; decide, by decide +kernel, by decide +kernel, rfl, ?_⟩
  have values : ∀ i : TableNo,
      defaultShapes[i].centre ≤ 65535 ∧ defaultShapes[i].leftSpread ≤ 65535 ∧ defaultShapes[i].rightSpread ≤ 65535 ∧
        defaultTerms[i].proposed ≤ 3600 := by decide
  have record : ∀ i : TableNo,
      (#v[255, 0, 0, 0, 255, 0, 0, 0] : Vector Nat 8)[i] ≤ 255 ∧
        (#v[0, 255, 0, 0, 0, 0, 0, 0] : Vector Nat 8)[i] ≤ 255 := by decide
  intro i
  obtain ⟨centre, left, right, proposed⟩ := values i
  have last : State.reset.margin.last = evaluationAfterLoss := rfl
  rw [last, evaluationAfterLoss_eq]
  exact ⟨centre, left, right, proposed, record i⟩

/-- At reset only STARTED is pending, which is of the link's kinds. -/
theorem reset_noticesOk : NoticesOk State.reset := by
  intro i
  have notices : State.reset.link.notices[i] = if i = 0 then 0b00001 else 0 := by
    have zero : ((0 : Fin 98) : Nat) = 0 := rfl
    simp only [State.reset, Link.atPowerUp, noticesStarted, Fin.getElem_fin, Vector.getElem_set,
      Vector.getElem_replicate, Fin.ext_iff, zero, eq_comm (a := 0)]
  rw [notices]
  split
  next h => subst h; decide
  · simp

theorem no_reset_record {i : SlotNo} {b : Bundle} : b ∉ State.reset.keyring.slots[i] := by simp [reset_slots i]

theorem no_reset_lane {l : LaneNo} {sc : Screening} : sc ∉ State.reset.lanes[l] := by simp [reset_lanes l]

theorem reset_recordsOk : RecordsOk State.reset :=
  ⟨fun _ _ _ h => absurd h no_reset_record, fun _ _ h => absurd h no_reset_record,
    fun _ _ h => absurd h no_reset_record⟩

theorem reset_poolOk : PoolOk State.reset := by
  refine ⟨reset_pool_rising, fun _ _ h => absurd h no_reset_record, fun n => ⟨fun h => (by cases h), ?_⟩,
    fun _ _ _ h => absurd h no_reset_record⟩
  rintro ⟨i, b, h, -⟩
  exact absurd h no_reset_record

theorem reset_usesOk : UsesOk State.reset := by
  refine ⟨fun _ i => ?_, fun off => (by cases off), fun _ _ h => absurd h no_reset_lane⟩
  rw [reset_slots]
  exact List.countP_eq_zero.2 fun l _ => by rw [reset_lanes]; simp

theorem reset_ranksOk : RanksOk State.reset := by
  refine ⟨fun r => ?_, fun q r h => ?_⟩
  · rw [reset_ranks]
    omega
  · rw [reset_ranks, reset_ranks] at h
    exact Fin.ext h

theorem reset_intakeOk : IntakeOk State.reset := by
  refine ⟨.nil, by decide, fun _ i => ⟨fun h => (by cases h), ?_⟩, fun _ => rfl⟩
  rintro ⟨b, h, -⟩
  exact absurd h no_reset_record

theorem reset_jobsOk : JobsOk State.reset :=
  ⟨fun _ => rfl, .nil, fun _ h => (by cases h), fun _ h => (by cases h), fun h => absurd rfl h⟩

theorem reset_linkOk : LinkOk State.reset := ⟨by decide, by decide, rfl, rfl, rfl, rfl, rfl⟩

theorem reset_clockOk : State.reset.clock.Ok := by unfold Clock.Ok; decide

/-- Settles O3: with no record, lane, job, frame or latch, each condition holds. -/
theorem resetIsSound : Obligations.ResetIsSound :=
  ⟨reset_clockOk, reset_marginOk, reset_recordsOk, reset_poolOk, ⟨by decide, .nil⟩,
    fun _ _ h => absurd h no_reset_record, fun _ => ⟨reset_slots, rfl, reset_lanes⟩, reset_usesOk,
    fun _ _ h => absurd h no_reset_lane, reset_ranksOk, reset_intakeOk, reset_jobsOk, reset_linkOk,
    fun h => absurd rfl h, reset_noticesOk, fun h => h.1 rfl⟩

end Sys2Proof.Machine

namespace Sys2Proof.Machine

/-! ## A tick in UNSET (O21) -/

theorem judgeSlot_none {now m : Nat} {i : SlotNo} {s : State} (h : s.keyring.slots[i] = none) :
    judgeSlot now m i s = s := by
  unfold judgeSlot
  rw [h]

/-- The window sweep of an empty keyring finds nothing to do. -/
theorem windowSweep_of_empty {s : State} (h : ∀ i : SlotNo, s.keyring.slots[i] = none) : windowSweep s = s :=
  List.foldl_fixed' (fun i => judgeSlot_none (h i)) _

theorem judgeLane_none {now lead : Nat} {l : LaneNo} {s : State} (h : s.lanes[l] = none) :
    judgeLane now lead l s = s := by
  unfold judgeLane
  rw [h]

/-- The stop-time sweep finds nothing to do with every lane CLOSED. -/
theorem stopTimeSweep_of_closed {s : State} (h : ∀ l : LaneNo, s.lanes[l] = none) : stopTimeSweep s = s :=
  List.foldl_fixed' (fun l => judgeLane_none (h l)) _

/-- A delivery is refused while the clock is UNSET (R4, R42). -/
theorem exec_deliverBundle_unset {r : Request} {rest : List Request} {rt : Route} {s : State}
    (h : Serving .deliverBundle r rest rt s) (unset : s.clock.state = .unset) (tagOver : Option BundleTag) :
    exec (.deliverBundle tagOver) s = .next (replied r rest rt .clockUnset [] s) := by
  refine congrArg Host.Outcome.next ((serve_of_serving h _).trans ?_)
  rw [withoutOldest_clock, if_pos unset, answer_withoutOldest h.toTaking]

/-- An open on a CLOSED lane is refused while the clock is UNSET: for its screen if that is not BOUND, and else for the
clock (R4, R107). -/
theorem exec_openScreening_unset {r : Request} {rest : List Request} {rt : Route} {s : State} {q : OpenRequest}
    (h : Serving .openScreening r rest rt s) (read : parseOpen r.body = some q) (closed : s.lanes[q.lane] = none)
    (unset : s.clock.state = .unset) :
    exec .openScreening s =
      .next
        (replied r rest rt (if (s.screens[q.lane]).binding.code = 3 then .clockUnset else .screenUnbound) [] s) := by
  refine congrArg Host.Outcome.next ((serveWith_of_serving h _ _).trans ?_)
  rw [read]
  dsimp only
  rw [withoutOldest_lanes, withoutOldest_screens, withoutOldest_clock, closed, if_neg (by simp)]
  by_cases bound : (s.screens[q.lane]).binding.code = 3
  · rw [if_neg (not_not.2 bound), if_pos unset, if_pos bound, answer_withoutOldest h.toTaking]
  · rw [if_pos bound, if_neg bound, answer_withoutOldest h.toTaking]

/-- Settles O21: a tick does not act in UNSET, and what UNSET leaves empty gives the sweeps nothing to do. -/
theorem tickInUnset : Obligations.TickInUnset := by
  intro s ok empty unset
  have idle : tickActs s = false := by simp [tickActs, unset]
  obtain ⟨slots, -, lanes⟩ := empty unset
  obtain ⟨-, -, -, -, -, -, values⟩ := ok
  obtain ⟨now, -, -, staleness⟩ := values unset
  refine ⟨fun order => ⟨?_, ?_, ?_⟩, ?_, now, staleness, windowSweep_of_empty slots, stopTimeSweep_of_closed lanes,
    slots, lanes, fun r rest rt =>
      ⟨fun tagOver serving => exec_deliverBundle_unset serving unset tagOver, fun q serving read =>
        exec_openScreening_unset serving read (lanes q.lane) unset⟩⟩
  · simp [exec, execTick, idle]
  · simp [exec, execStalenessMinute, idle]
  · simp [exec, execReplenish, idle]
  · simp [exec, execTick, idle]

/-! ## What main power loss keeps (O59) -/

/-- Settles O59: each event is one update of the state, or none. -/
theorem powerLossKeepsTheDomain : Obligations.PowerLossKeepsTheDomain := by
  refine fun s => ⟨fun off => ?_, fun on => ?_, fun off sound => ⟨?_, ?_⟩, fun idle => ?_⟩
  · simp [exec, execMainPowerLoss, off]
  · refine ⟨withoutPower s, by simp [exec, execMainPowerLoss, on], rfl, rfl, fun l => ?_, rfl⟩
    simp [withoutPower, lanesClosed]
  · simp [exec, execBatterySecond, off, sound]
  · simp [exec, execCellFailed, off, sound]
  · have idle : ¬(s.powered = false ∧ s.domain.status = .sound) := by
      rintro ⟨off, sound⟩
      obtain on | other := idle
      · simp [off] at on
      · exact other sound
    exact ⟨congrArg _ (if_neg idle), congrArg _ (if_neg idle)⟩

/-! ## What the status requests answer (O33) -/

section
variable {k : RequestKind} {r : Request} {rest : List Request} {rt : Route} {s : State}

/-- A status request answers its body and changes nothing; one that carries a body is refused (R175). -/
theorem serveBare_status (h : Serving k r rest rt s) {body : State → List Byte} {b : List Byte}
    (same : body (withoutOldest s) = b) :
    serveBare k (fun r s => answer r .ok (body s) s) s =
      if r.body = [] then replied r rest rt .ok b s else replied r rest rt .badRequest [] s := by
  rw [serveBare_of_serving h, same, answer_withoutOldest h.toTaking, answer_withoutOldest h.toTaking]

end

theorem optionalBytes_eq {n : Nat} (width : Nat) (v : Option (BitVec n)) :
    optionalBytes width v = beBytes width (v.getD 0).toNat := by
  cases v <;> simp [optionalBytes]

theorem beBytes_one (n : Nat) : beBytes 1 n = [BitVec.ofNat 8 n] := by simp [beBytes]

theorem flags_or_eq_add (a b c d e f : Bool) :
    ((if a then (0b000001 : Byte) else 0) ||| (if b then 0b000010 else 0) ||| (if c then 0b000100 else 0) |||
        (if d then 0b001000 else 0) ||| (if e then 0b010000 else 0) ||| (if f then 0b100000 else 0)) =
      (if a then (1 : Byte) else 0) + 2 * (if b then (1 : Byte) else 0) + 4 * (if c then (1 : Byte) else 0) +
        8 * (if d then (1 : Byte) else 0) + 16 * (if e then (1 : Byte) else 0) +
        32 * (if f then (1 : Byte) else 0) := by
  revert a b c d e f
  decide

theorem writtenFlags_eq (st : Store) :
    st.writtenFlags =
      (if st.serial.isSome then (1 : Byte) else 0) + 2 * (if st.site.isSome then (1 : Byte) else 0) +
        4 * (if st.lineAddress.isSome then (1 : Byte) else 0) + 8 * (if st.station.isSome then (1 : Byte) else 0) +
        16 * (if st.authority.isSome then (1 : Byte) else 0) +
        32 * (if st.identity.isSome then (1 : Byte) else 0) :=
  flags_or_eq_add ..

/-- The entries of a vector in the order of their numbers. -/
theorem vector_toList_map {α β : Type} {n : Nat} (v : Vector α n) (f : α → β) :
    v.toList.map f = (List.finRange n).map fun i => f v[i] := by
  apply List.ext_getElem <;> simp

theorem termBytes_eq (m : Term) :
    m.bytes =
      [if m.inUse then (1 : Byte) else 0, BitVec.ofNat 8 m.a.shape.val, if m.a.negate then (1 : Byte) else 0] ++
        (match m.b with
          | none => [(0 : Byte), 0, 0, 0]
          | some (b, .and) => [1, BitVec.ofNat 8 b.shape.val, if b.negate then (1 : Byte) else 0, 1]
          | some (b, .or) => [1, BitVec.ofNat 8 b.shape.val, if b.negate then (1 : Byte) else 0, 2]) ++
        beBytes 2 m.proposed := by
  obtain ⟨inUse, a, b, proposed⟩ := m
  obtain _ | ⟨b, _ | _⟩ := b <;> rfl

theorem serviceBytes_eq (service : Option ServiceJob) :
    (if service.isSome then (2 : Byte) else 1) :: serviceBytes service =
      match service with
      | none => [(1 : Byte), 0xFF, 0, 0, 0]
      | some j =>
        [2, BitVec.ofNat 8 j.job.item.requester.val,
          match j.job.item with | .intake _ _ => (1 : Byte) | .rewrap _ _ _ _ => 2 | .bind _ => 3,
          BitVec.ofNat 8 j.jobClass, if j.discard then (1 : Byte) else 0] := by
  obtain _ | ⟨⟨item, _⟩, _⟩ := service
  · rfl
  · cases item <;> rfl

theorem requesterBytes_eq (s : State) (q : RequesterNo) :
    requesterBytes (withoutOldest s) q =
      [BitVec.ofNat 8 s.engine.ranks[q],
        BitVec.ofNat 8 (s.engine.queued.filter fun j => j.item.requester == q).length,
        match presented s q with
        | none => 0
        | some j => match j.item with | .intake _ _ => (1 : Byte) | .rewrap _ _ _ _ => 2 | .bind _ => 3] := by
  have same : presented (withoutOldest s) q = presented s q := rfl
  unfold requesterBytes
  rw [same, withoutOldest_engine, List.countP_eq_length_filter]
  obtain _ | ⟨item, _⟩ := presented s q
  · rfl
  · cases item <;> rfl

/-- The jobs left in the snapshot are those queued and the one in service that belong to it. -/
theorem snapshotLeft_eq (e : Engine) :
    snapshotLeft e =
      (e.queued.filter fun j => j.inSnapshot).length +
        (e.inService.toList.filter fun j => j.job.inSnapshot).length := by
  unfold snapshotLeft
  rw [List.countP_eq_length_filter]
  cases e.inService with
  | none => rfl
  | some j => cases h : j.job.inSnapshot <;> simp [h]

/-- Settles O33: each body is the model's own, field by field. -/
theorem statusReplies : Obligations.StatusReplies := by
  intro r rest rt s
  dsimp only
  refine ⟨fun h => ?_, fun h => ?_, fun h => ?_, fun h => ?_, fun h => ?_⟩ <;>
    refine congrArg Host.Outcome.next (serveBare_status h ?_)
  · simp only [identifyBody, withoutOldest_store, withoutOldest_clock, optionalBytes_eq, beBytes_one,
      BitVec.ofNat_toNat, BitVec.setWidth_eq, writtenFlags_eq]
    rfl
  · simp only [clockBody, withoutOldest_clock, beBytes_one]
    rfl
  · simp only [marginBody, withoutOldest_margin, withoutOldest_params, vector_toList_map, Evaluation.bytes,
      ← List.flatMap_def, termBytes_eq, Shape.bytes, List.append_assoc]
    generalize s.margin.last.cause = cause
    cases cause <;> rfl
  · rw [withoutOldest_revocations, ← List.flatMap_def]
    rfl
  · simp only [engineBody, withoutOldest_engine, withoutOldest_link_pendingSync, ← List.flatMap_def, snapshotLeft_eq]
    refine congrArg₂ (· ++ ·) (congrArg₂ (· ++ ·) ?_ (List.flatMap_congr fun q _ => requesterBytes_eq s q)) ?_
    · exact serviceBytes_eq _
    · cases s.link.pendingSync <;> rfl

end Sys2Proof.Machine

/-! ## What the sweeps do not read

The two sweeps read the clock, the margin, the parameters, the keyring and the lanes; of the link they only add to the
notice set.  A map of states that leaves these blocks alone passes through them. -/

namespace Sys2Proof.Machine

/-- A map of states that the sweeps do not notice: it keeps what they read, and passes through what they do to the
keyring, the lanes, the notices and the jobs. -/
structure Unread (g : State → State) : Prop where
  clock : ∀ s, (g s).clock = s.clock
  margin : ∀ s, (g s).margin = s.margin
  params : ∀ s, (g s).params = s.params
  keyring : ∀ s, (g s).keyring = s.keyring
  lanes : ∀ s, (g s).lanes = s.lanes
  setKeyring : ∀ s k, g { s with keyring := k } = { g s with keyring := k }
  setLanes : ∀ s l, g { s with lanes := l } = { g s with lanes := l }
  post : ∀ n s, g (post n s) = post n (g s)
  dropJobs : ∀ p s, g (dropJobs p s) = dropJobs p (g s)

namespace Unread

variable {g : State → State} (h : Unread g)

include h

theorem setLane (l : LaneNo) (sc : Option Screening) (s : State) : g (setLane l sc s) = setLane l sc (g s) := by
  unfold Machine.setLane
  rw [h.setLanes, h.lanes]

theorem modifyLane (l : LaneNo) (f : Screening → Screening) (s : State) :
    g (modifyLane l f s) = modifyLane l f (g s) := by
  unfold Machine.modifyLane
  rw [h.lanes]
  split
  · rfl
  · exact h.setLane ..

theorem emptySlot (l : LaneNo) (n : SlotName) (s : State) : g (emptySlot l n s) = emptySlot l n (g s) := by
  unfold Machine.emptySlot
  rw [h.dropJobs, h.modifyLane]

theorem setBundle (i : SlotNo) (b : Option Bundle) (s : State) : g (setBundle i b s) = setBundle i b (g s) := by
  unfold Machine.setBundle
  rw [h.setKeyring, h.keyring]

theorem eraseKeys (i : SlotNo) (b : Bundle) (after : Bundle → Bundle) (s : State) :
    g (eraseKeys i b after s) = eraseKeys i b after (g s) := by
  unfold Machine.eraseKeys
  rw [h.setBundle, h.setKeyring, h.keyring]

theorem buryRevoked (i : SlotNo) (b : Bundle) (s : State) : g (buryRevoked i b s) = buryRevoked i b (g s) := by
  unfold Machine.buryRevoked
  rw [h.eraseKeys, h.clock]

theorem returnUse (i : SlotNo) (s : State) : g (returnUse i s) = returnUse i (g s) := by
  unfold Machine.returnUse
  rw [h.keyring]
  split
  · rfl
  · dsimp only
    split
    · exact h.buryRevoked ..
    · exact h.setBundle ..

theorem endLane (l : LaneNo) (status : LaneStatus) (cause : EndCause) (notice : Notice) (s : State) :
    g (endLane l status cause notice s) = endLane l status cause notice (g s) := by
  unfold Machine.endLane
  rw [h.lanes]
  split
  · rfl
  · dsimp only
    rw [h.post, h.returnUse, h.modifyLane, h.emptySlot, h.emptySlot, h.clock]

theorem judgeLane (now lead : Nat) (l : LaneNo) (s : State) :
    g (judgeLane now lead l s) = judgeLane now lead l (g s) := by
  unfold Machine.judgeLane
  rw [h.lanes]
  split
  · rfl
  · split
    · exact h.endLane ..
    · split
      · exact h.endLane ..
      · split
        · rw [h.post, h.setLane]
        · rfl

theorem stopTimeSweep (s : State) : g (stopTimeSweep s) = stopTimeSweep (g s) := by
  unfold Machine.stopTimeSweep
  rw [h.clock, h.params]
  exact (List.foldl_hom g fun t l => (h.judgeLane _ _ l t).symm).symm

theorem postEntry (i : SlotNo) (st : BundleState) (s : State) : g (postEntry i st s) = postEntry i st (g s) := by
  unfold Machine.postEntry
  cases st with
  | live | closing | expired => exact h.post ..
  | unwrapping | waiting | revoked | failed => rfl

theorem enterWindow (i : SlotNo) (b : Bundle) (st : BundleState) (s : State) :
    g (enterWindow i b st s) = enterWindow i b st (g s) := by
  unfold Machine.enterWindow
  rw [h.postEntry, h.clock]
  congr 1
  split
  · exact h.eraseKeys ..
  · exact h.setBundle ..

theorem judgeSlot (now m : Nat) (i : SlotNo) (s : State) : g (judgeSlot now m i s) = judgeSlot now m i (g s) := by
  unfold Machine.judgeSlot
  rw [h.keyring]
  split
  · rfl
  · split
    · exact h.enterWindow ..
    · rfl

theorem windowSweep (s : State) : g (windowSweep s) = windowSweep (g s) := by
  unfold Machine.windowSweep
  rw [h.clock, h.margin]
  exact (List.foldl_hom g fun t i => (h.judgeSlot _ _ i t).symm).symm

theorem bothSweeps (order : SweepOrder) (s : State) : g (bothSweeps order s) = bothSweeps order (g s) := by
  cases order
  · rw [bothSweeps_windowFirst, bothSweeps_windowFirst, h.stopTimeSweep, h.windowSweep]
  · rw [bothSweeps_stopTimeFirst, bothSweeps_stopTimeFirst, h.windowSweep, h.stopTimeSweep]

end Unread

/-! ### The passes that are due -/

theorem handFrame_due_set (role : FrameRole) (payload : List Byte) (d : DuePasses) (s : State) :
    handFrame role payload { s with due := d } = { handFrame role payload s with due := d } := by
  unfold handFrame
  have same : ({ s with due := d } : State).route s.link.peer = s.route s.link.peer := rfl
  rw [same]
  split <;> rfl

theorem judgeAttention_due_set (d : DuePasses) (s : State) :
    judgeAttention { s with due := d } = { judgeAttention s with due := d } := by
  unfold judgeAttention
  have same : attentionHolds { s with due := d } = attentionHolds s := rfl
  rw [same]
  split
  · exact handFrame_due_set .attention attentionPayload d { s with link := { s.link with armed := false } }
  · rfl

theorem releaseSync_due_set (d : DuePasses) (s : State) :
    releaseSync { s with due := d } = { releaseSync s with due := d } := by
  unfold releaseSync
  dsimp only
  split
  · rfl
  · split
    · exact handFrame_due_set _ _ d { s with link := { s.link with pendingSync := none } }
    · rfl

/-- The sweeps do not read which passes are due. -/
theorem unread_due (d : DuePasses) : Unread fun s => { s with due := d } where
  clock _ := rfl
  margin _ := rfl
  params _ := rfl
  keyring _ := rfl
  lanes _ := rfl
  setKeyring _ _ := rfl
  setLanes _ _ := rfl
  post n s := by
    unfold post
    dsimp only
    split
    · exact (judgeAttention_due_set d (addNotice n s)).symm
    · rfl
  dropJobs p s := (releaseSync_due_set d _).symm

/-! ### What the sweeps read -/

/-- A state with nothing but what the sweeps read and change, the other blocks as at reset. -/
def State.bare (s : State) : State :=
  { State.reset with
    clock := s.clock, margin := s.margin, params := s.params, keyring := s.keyring, engine := s.engine
    lanes := s.lanes, link := { State.reset.link with notices := s.link.notices } }

/-- With no port latched a notice is only added (R160). -/
theorem post_of_no_latch {s : State} (h : s.link.latch = none) (n : Notice) : post n s = addNotice n s := by
  have quiet : attentionHolds (addNotice n s) = false := by simp [attentionHolds, h]
  unfold post judgeAttention
  simp [quiet]

/-- With no SYNC pending none is released. -/
theorem releaseSync_of_none {s : State} (h : s.link.pendingSync = none) : releaseSync s = s := by
  unfold releaseSync
  rw [h]

theorem unread_bare : Unread State.bare where
  clock _ := rfl
  margin _ := rfl
  params _ := rfl
  keyring _ := rfl
  lanes _ := rfl
  setKeyring _ _ := rfl
  setLanes _ _ := rfl
  post n s := by
    rw [post_of_no_latch (s := s.bare) rfl]
    simp only [State.bare, post_clock, post_margin, post_params, post_keyring, post_engine, post_lanes,
      post_link_notices]
    rfl
  dropJobs p s := by
    unfold dropJobs
    rw [releaseSync_of_none (s := { s.bare with engine := _ }) rfl]
    simp only [State.bare, releaseSync_clock, releaseSync_margin, releaseSync_params, releaseSync_keyring,
      releaseSync_engine, releaseSync_lanes, releaseSync_link_notices]

end Sys2Proof.Machine

/-! ## The session during an event that posts notices and drops jobs

`Stirred s t` says that `t` is reached from `s` inside one event, by posts and by withdrawn or discarded jobs: the link
shows exactly the SYNC released so far and the ATTENTION brought about so far.  Posting a notice and dropping jobs keep
it, and so does every operation made of them. -/

namespace Sys2Proof.Machine

theorem noticesEmpty_iff (notices : Vector KindSet 98) :
    noticesEmpty notices = true ↔ ∀ i : SubjectNo, notices[i] = 0 := by
  simp [noticesEmpty]

theorem kindBit_ne_zero (n : Notice) : n.kindBit ≠ 0 := by cases n <;> simp [Notice.kindBit]

/-- A posted notice is pending. -/
theorem withNotice_nonempty (n : Notice) (notices : Vector KindSet 98) :
    ∃ i : SubjectNo, (withNotice n notices)[i] ≠ 0 := by
  refine ⟨n.subject, fun h => kindBit_ne_zero n ?_⟩
  have set : (withNotice n notices)[n.subject] = notices[n.subject] ||| n.kindBit := by simp [withNotice]
  rw [set] at h
  exact (BitVec.or_eq_zero_iff.1 h).2

/-- Inside an event that may hand frames, the session has a route for them: wherever a port is latched or a SYNC is
pending. -/
def CanHand (s : State) : Prop :=
  s.link.latch ≠ none ∨ s.link.pendingSync ≠ none → ∃ rt, s.route s.link.peer = some rt

theorem LinkOk.canHand {s : State} (h : LinkOk s) : CanHand s := by
  obtain ⟨-, -, session⟩ := h
  intro busy
  unfold State.route
  cases latch : s.link.latch with
  | none =>
    rw [latch] at session
    obtain ⟨-, -, -, noSync, -⟩ := session
    simp [latch, noSync] at busy
  | some port =>
    rw [latch] at session
    cases port with
    | serial =>
      obtain ⟨⟨a, peer⟩, -⟩ := session
      exact ⟨_, by rw [peer]⟩
    | lan =>
      obtain ⟨⟨a, peer⟩, -⟩ := session
      exact ⟨_, by rw [peer]⟩

theorem Taking.canHand {r : Request} {rest : List Request} {rt : Route} {s : State} (h : Taking r rest rt s) :
    CanHand s := fun _ => ⟨rt, h.routed⟩

/-- `t` is reached from `s` inside one event, by posts and by dropped jobs. -/
structure Stirred (s t : State) : Prop extends Unasked s t where
  station : t.store.station = s.store.station
  grows : (∃ i : SubjectNo, s.link.notices[i] ≠ 0) → ∃ i : SubjectNo, t.link.notices[i] ≠ 0

/-- No ATTENTION comes of an event while the notice set stays as empty or as full as it was. -/
theorem attentionDue_eq_false {s t : State}
    (h : (∃ i : SubjectNo, t.link.notices[i] ≠ 0) → ∃ i : SubjectNo, s.link.notices[i] ≠ 0) :
    attentionDue s t = false := by
  by_cases empty : ∀ i : SubjectNo, s.link.notices[i] = 0
  · have still : ¬∃ i : SubjectNo, t.link.notices[i] ≠ 0 := fun full => by
      obtain ⟨i, hi⟩ := h full
      exact hi (empty i)
    simp only [attentionDue, decide_eq_false still, Bool.and_false]
  · simp only [attentionDue, decide_eq_false empty, Bool.and_false, Bool.false_and]

theorem attentionDue_congr {s t u : State} (h : u.link.notices = t.link.notices) :
    attentionDue s u = attentionDue s t := by
  unfold attentionDue
  rw [h]

theorem released_congr {s t u : State} (h : u.engine = t.engine) : released s u = released s t := by
  unfold released
  rw [h]

namespace Stirred

variable {s t u : State}

theorem refl (sync : SyncOk s) : Stirred s s := by
  have none : snapshotLeft s.engine = 0 → s.link.pendingSync = none := fun empty => by
    by_contra pending
    exact absurd (sync pending) (by omega)
  have quiet : attentionDue s s = false := attentionDue_eq_false id
  have unreleased : released s s = Option.none := by
    unfold released
    split
    · exact none ‹_›
    · rfl
  refine
    { pendingSync := ?_, armed := by simp [quiet], session := ⟨rfl, rfl, rfl, rfl, rfl, rfl, rfl⟩, received := rfl
      sent := ⟨[], by simp, by simp, by simp [unreleased], by simp [quiet]⟩
      sending := ?_, station := rfl, grows := id }
  · split
    · exact none ‹_›
    · rfl
  · split
    next h => exact absurd h.1 h.2.1
    · rfl

/-- What the link and the engine do not show may change freely, and so may the notices where no ATTENTION comes of
it. -/
theorem renotice (h : Stirred s t) (link : u.link = { t.link with notices := u.link.notices })
    (due : attentionDue s u = attentionDue s t)
    (grows : (∃ i : SubjectNo, t.link.notices[i] ≠ 0) → ∃ i : SubjectNo, u.link.notices[i] ≠ 0)
    (engine : u.engine = t.engine) (station : u.store.station = t.store.station) : Stirred s u where
  pendingSync := by rw [link, engine, ← h.pendingSync]
  armed := by rw [due, ← h.armed, link]
  session := by rw [link]; exact h.session
  received := by rw [link, ← h.received]
  sent := by rw [released_congr engine, due, link]; exact h.sent
  sending := by rw [link, ← h.sending]
  station := by rw [station, h.station]
  grows full := grows (h.grows full)

theorem congr (h : Stirred s t) (link : u.link = t.link) (engine : u.engine = t.engine)
    (station : u.store.station = t.store.station) : Stirred s u :=
  h.renotice (by rw [link]) (attentionDue_congr (by rw [link])) (by rw [link]; exact id) engine station

theorem route (h : Stirred s t) : t.route t.link.peer = s.route s.link.peer := by
  obtain ⟨latch, peer, -⟩ := h.session
  rw [peer, route_congr _ latch h.station]

/-- Where the frame being sent goes once one more frame has been handed inside the event. -/
theorem sending_hand (h : Stirred s t) {rt : Route} (routed : s.route s.link.peer = some rt) (f : OutFrame) :
    sendingAfter t.link.transmit t.link.restart t.link.sending rt =
      if s.link.transmit = [] ∧ t.link.transmit ++ [f] ≠ [] ∧ s.link.restart ≠ .due then s.route s.link.peer
      else s.link.sending := by
  obtain ⟨-, -, -, -, -, -, restart⟩ := h.session
  obtain ⟨frames, sent, -⟩ := h.sent
  have sending := h.sending
  rw [restart, routed] at *
  cases waiting : t.link.transmit with
  | cons f later =>
    rw [sendingAfter_waiting, sending]
    simp [waiting]
  | nil =>
    have none : s.link.transmit = [] := by simp_all
    by_cases due : s.link.restart = .due
    · simp [sendingAfter, due, sending]
    · simp [sendingAfter_nil due, none, due]

/-- A notice posted inside the event. -/
theorem post (can : CanHand s) (h : Stirred s t) (n : Notice) : Stirred s (post n t) := by
  obtain ⟨latch, peer, held, hold, cursor, cause, restart⟩ := h.session
  have full : ∃ i : SubjectNo, (withNotice n t.link.notices)[i] ≠ 0 := withNotice_nonempty ..
  obtain ⟨empty, e⟩ | ⟨filled, e⟩ := post_cases n t
  · have emptied : ∀ i : SubjectNo, t.link.notices[i] = 0 := (noticesEmpty_iff _).1 empty
    have unfilled : ∀ i : SubjectNo, s.link.notices[i] = 0 := by
      by_contra some
      obtain ⟨i, hi⟩ := h.grows (not_forall.1 some)
      exact hi (emptied i)
    have before : attentionDue s t = false := attentionDue_eq_false fun ⟨i, hi⟩ => absurd (emptied i) hi
    have armed : t.link.armed = s.link.armed := by rw [h.armed, before]; simp
    have holds : ∀ u : State, u.link.notices = withNotice n t.link.notices →
        attentionDue s u = attentionHolds (addNotice n t) := fun u notices => by
      have fullU : ∃ i : SubjectNo, u.link.notices[i] ≠ 0 := notices ▸ full
      have nonempty : noticesEmpty (addNotice n t).link.notices = false := by
        rw [← Bool.not_eq_true, noticesEmpty_iff]
        exact not_forall.2 full
      simp only [attentionDue, attentionHolds, decide_eq_true unfilled, decide_eq_true fullU, nonempty]
      simp only [addNotice, latch, armed, hold, Bool.and_true, Bool.not_false]
      cases s.link.latch <;> rfl
    rw [e]
    obtain ⟨off, kept⟩ | ⟨on, handed⟩ := judgeAttention_cases (addNotice n t)
    · rw [kept]
      exact h.renotice rfl (by rw [holds _ rfl, off, before]) (fun _ => full) rfl rfl
    · have due : ∀ u : State, u.link.notices = withNotice n t.link.notices → attentionDue s u = true :=
        fun u notices => by rw [holds u notices, on]
      have latched : s.link.latch ≠ none := by
        intro none
        simp [attentionHolds, addNotice, latch, none] at on
      obtain ⟨rt, routed⟩ := can (.inl latched)
      have routedT : t.route t.link.peer = some rt := by rw [h.route, routed]
      rw [handed, handFrame_eq
        (s := { addNotice n t with link := { (addNotice n t).link with armed := false } }) (rt := rt) routedT]
      have sent := h.sent
      rw [before] at sent
      obtain ⟨frames, sent, roles, replies, attentions⟩ := sent
      refine
        { pendingSync := h.pendingSync, armed := by rw [due _ rfl]; simp, session := h.session, received := h.received
          sent :=
            ⟨frames ++ [{ role := .attention, payload := attentionPayload }], ?_, ?_, ?_, ?_⟩
          sending := h.sending_hand routed _, station := h.station, grows := fun _ => full }
      · simp [addNotice, sent]
      · simpa [or_imp, forall_and] using roles
      · rw [List.filter_append, List.map_append, replies]
        exact List.append_nil _
      · rw [List.filter_append, List.map_append, attentions, due _ rfl]
        rfl
  · rw [e]
    refine h.renotice rfl ?_ (fun _ => full) rfl rfl
    have some : ∃ i : SubjectNo, t.link.notices[i] ≠ 0 := by
      by_contra none
      simp_all [noticesEmpty]
    have more : ∃ i : SubjectNo, (addNotice n t).link.notices[i] ≠ 0 := full
    simp only [attentionDue, decide_eq_true some, decide_eq_true more]

theorem snapshotLeft_dropJobs_le (p : JobItem → Bool) (e : Engine) :
    snapshotLeft
        { e with
          inService := e.inService.map fun j => if p j.job.item then { j with discard := true } else j
          queued := e.queued.filter fun j => !p j.item } ≤
      snapshotLeft e := by
  unfold snapshotLeft
  refine Nat.add_le_add (List.Sublist.countP_le List.filter_sublist) ?_
  cases e.inService with
  | none => exact le_refl _
  | some j =>
    dsimp only [Option.map_some]
    split <;> exact le_refl _

/-- Jobs that left their snapshot inside the event release the SYNC that waited for the last of them. -/
theorem releaseSync (can : CanHand s) (h : Stirred s t) {dropped : Engine}
    (fewer : snapshotLeft dropped ≤ snapshotLeft t.engine) :
    Stirred s (releaseSync { t with engine := dropped }) := by
  have pending := h.pendingSync
  obtain ⟨kept, still⟩ | ⟨tag, waiting, last, handed⟩ := releaseSync_cases { t with engine := dropped }
  · rw [kept]
    have same : (snapshotLeft dropped = 0 ↔ snapshotLeft t.engine = 0) ∨ s.link.pendingSync = none := by
      by_cases gone : snapshotLeft t.engine = 0
      · exact .inl (by omega)
      · rw [if_neg gone] at pending
        rcases still with none | some
        · exact .inr (pending ▸ none)
        · exact .inl (by dsimp only at some; omega)
    have toldSame : released s { t with engine := dropped } = released s t := by
      unfold released
      rcases same with same | none
      · simp only [same]
      · simp only [none, ite_self]
    refine
      { pendingSync := pending.trans ?_, armed := h.armed, session := h.session, received := h.received
        sent := by rw [toldSame]; exact h.sent
        sending := h.sending, station := h.station, grows := h.grows }
    rcases same with same | none
    · simp only [same]
    · simp only [none, ite_self]
  · dsimp only at waiting last handed
    rw [handed]
    have left : snapshotLeft t.engine ≠ 0 := fun none => by simp [none, waiting] at pending
    rw [waiting, if_neg left] at pending
    obtain ⟨rt, routed⟩ := can (.inr (by simp [← pending]))
    have routedT : t.route t.link.peer = some rt := by rw [h.route, routed]
    rw [handFrame_eq (s := { t with engine := dropped, link := { t.link with pendingSync := none } }) (rt := rt)
      routedT]
    have sent := h.sent
    have unreleased : released s t = none := by simp [released, left]
    rw [unreleased] at sent
    obtain ⟨frames, sent, roles, replies, attentions⟩ := sent
    refine
      { pendingSync := by simp [last], armed := h.armed, session := h.session, received := h.received
        sent :=
          ⟨frames ++ [{ role := .reply, payload := replyPayload RequestKind.sync.code tag .ok [] }], ?_, ?_, ?_, ?_⟩
        sending := h.sending_hand routed _, station := h.station, grows := h.grows }
    · simp [sent]
    · simpa [or_imp, forall_and] using roles
    · rw [List.filter_append, List.map_append, replies]
      simp [released, last, ← pending, replyPayload, RequestKind.code, Status.code, replyKind]
    · rw [List.filter_append, List.map_append, attentions]
      exact List.append_nil _

/-- Jobs dropped inside the event. -/
theorem dropJobs (can : CanHand s) (h : Stirred s t) (p : JobItem → Bool) : Stirred s (dropJobs p t) :=
  h.releaseSync can (snapshotLeft_dropJobs_le p t.engine)

/-! ### The operations made of them -/

theorem foldl {α : Type} (f : State → α → State) (one : ∀ t i, Stirred s t → Stirred s (f t i)) (l : List α)
    (h : Stirred s t) : Stirred s (l.foldl f t) :=
  List.foldlRecOn l f h fun t ht i _ => one t i ht

section
variable (can : CanHand s)
include can

omit can in
theorem modifyLane (h : Stirred s t) (l : LaneNo) (f : Screening → Screening) : Stirred s (modifyLane l f t) := by
  unfold Machine.modifyLane
  split
  · exact h
  · exact h.congr rfl rfl rfl

theorem emptySlot (h : Stirred s t) (l : LaneNo) (n : SlotName) : Stirred s (emptySlot l n t) :=
  (h.modifyLane l _).dropJobs can _

omit can in
theorem returnUse (h : Stirred s t) (i : SlotNo) : Stirred s (returnUse i t) := by
  unfold Machine.returnUse
  split
  · exact h
  · dsimp only
    split <;> exact h.congr rfl rfl rfl

theorem endLane (h : Stirred s t) (l : LaneNo) (status : LaneStatus) (cause : EndCause) (n : Notice) :
    Stirred s (endLane l status cause n t) := by
  unfold Machine.endLane
  split
  · exact h
  · exact ((((h.emptySlot can l .x).emptySlot can l .y).modifyLane l _).returnUse _).post can n

theorem judgeLane (h : Stirred s t) (now lead : Nat) (l : LaneNo) : Stirred s (judgeLane now lead l t) := by
  unfold Machine.judgeLane
  split
  · exact h
  · split
    · exact h.endLane can ..
    · split
      · exact h.endLane can ..
      · split
        · exact (h.congr (u := setLane l _ t) rfl rfl rfl).post can _
        · exact h

theorem stopTimeSweep (h : Stirred s t) : Stirred s (stopTimeSweep t) :=
  foldl _ (fun _ l hu => hu.judgeLane can _ _ l) _ h

theorem enterWindow (h : Stirred s t) (i : SlotNo) (b : Bundle) (st : BundleState) :
    Stirred s (enterWindow i b st t) := by
  unfold Machine.enterWindow postEntry
  cases st with
  | expired => exact (h.congr (u := eraseKeys i b _ t) rfl rfl rfl).post can _
  | live | closing => exact (h.congr (u := setBundle i _ t) rfl rfl rfl).post can _
  | unwrapping | waiting | revoked | failed => exact h.congr rfl rfl rfl

theorem judgeSlot (h : Stirred s t) (now m : Nat) (i : SlotNo) : Stirred s (judgeSlot now m i t) := by
  unfold Machine.judgeSlot
  split
  · exact h
  · split
    · exact h.enterWindow can ..
    · exact h

theorem windowSweep (h : Stirred s t) : Stirred s (windowSweep t) :=
  foldl _ (fun _ i hu => hu.judgeSlot can _ _ i) _ h

theorem bothSweeps (h : Stirred s t) (order : SweepOrder) : Stirred s (bothSweeps order t) := by
  cases order with
  | windowFirst => exact (h.windowSweep can).stopTimeSweep can
  | stopTimeFirst => exact (h.stopTimeSweep can).windowSweep can

theorem evaluateMargin (h : Stirred s t) (cause : EvalCause) : Stirred s (evaluateMargin cause t) := by
  unfold Machine.evaluateMargin
  dsimp only
  split
  · exact h.congr rfl rfl rfl
  · refine post can (h.congr ?_ ?_ ?_) _ <;> rfl

omit can in
theorem expiryPass (h : Stirred s t) : Stirred s (expiryPass t) := h.congr rfl rfl rfl

theorem takeClaim (h : Stirred s t) (now : Nat) : Stirred s (takeClaim now t) := by
  unfold Machine.takeClaim
  split
  · exact h.congr rfl rfl rfl
  · dsimp only
    split
    · exact h.congr rfl rfl rfl
    · refine post can (h.congr ?_ ?_ ?_) _ <;> rfl

theorem clockTick (h : Stirred s t) : Stirred s (clockTick t) := by
  have ticked : Stirred s { t with clock := t.clock.tick } := h.congr rfl rfl rfl
  unfold Machine.clockTick
  dsimp only
  split
  · exact ticked.evaluateMargin can _
  · exact ticked

end

/-- Frames of one role are told by their payloads. -/
theorem frames_of_role {role : FrameRole} {frames : List OutFrame} {payloads : List (List Byte)}
    (h : (frames.filter fun f => f.role == role).map OutFrame.payload = payloads) :
    (frames.filter fun f => f.role == role) = payloads.map fun payload => { role, payload } := by
  rw [← h, List.map_map, List.map_congr_left (g := id), List.map_id]
  intro f hf
  have same : f.role = role := by simpa using (List.mem_filter.1 hf).2
  simp [← same]

/-- A request answered at the end of its event (R152). -/
theorem answered {r : Request} {rest : List Request} {rt : Route} (h : Taking r rest rt s)
    (st : Stirred (withoutOldest s) t) (status : Status) (body : List Byte) :
    Answered r rest rt status body s (answer r status body t) := by
  obtain ⟨frames, sent, roles, replies, attentions⟩ := st.sent
  have handed : t.link.transmit = frames := by simpa [h.sent] using sent
  have routed : t.route t.link.peer = some rt := by rw [st.route]; exact h.routed
  have idle : t.link.restart = .idle := by
    obtain ⟨-, -, -, -, -, -, restart⟩ := st.session
    exact restart.trans h.noRestart
  have sending : sendingAfter t.link.transmit t.link.restart t.link.sending rt = some rt := by
    have first := st.sending
    rw [show (withoutOldest s).route (withoutOldest s).link.peer = some rt from h.routed] at first
    rw [idle]
    cases waiting : t.link.transmit with
    | nil => exact sendingAfter_nil (by decide) ..
    | cons f later =>
      rw [sendingAfter_waiting, first, if_pos]
      exact ⟨h.sent, by simp [waiting], by simp [h.noRestart]⟩
  have others : (frames.filter fun f => f.role != .attention) = frames.filter fun f => f.role == .reply := by
    refine List.filter_congr fun f hf => ?_
    have ordinary := roles f hf
    cases role : f.role <;> simp_all
  unfold answer handReply
  rw [routed]
  refine
    { pendingSync := st.pendingSync, armed := st.armed, session := st.session
      taken := st.received.trans (by simp [withoutOldest, h.oldest]), sent := ?_, sending }
  dsimp only
  rw [handed, others, frames_of_role replies, frames_of_role attentions, List.map_map, List.append_assoc]
  refine congrArg _ (congrArg (List.cons _) ?_)
  change List.map _ (if attentionDue (withoutOldest s) t then _ else _) =
    if attentionDue (withoutOldest s) t then _ else _
  split <;> rfl

end Stirred

end Sys2Proof.Machine

/-! ## Evaluations and sweeps, and the ticks made of them (O54, O55) -/

namespace Sys2Proof.Machine

/-- The record of an evaluation in `s` (R21). -/
abbrev State.evaluated (s : State) (cause : EvalCause) : Evaluation :=
  evaluation s.margin.shapes s.margin.terms s.params s.clock.residual.natAbs s.clock.staleness cause s.clock.now

theorem evaluateMargin_margin (cause : EvalCause) (s : State) :
    (evaluateMargin cause s).margin =
      { s.margin with margin := (s.evaluated cause).margin, last := s.evaluated cause } := by
  unfold evaluateMargin
  dsimp only
  split
  · rfl
  · exact post_margin ..

/-- A changed M is told (R29). -/
theorem evaluateMargin_notices (cause : EvalCause) (s : State) :
    (evaluateMargin cause s).link.notices =
      if (s.evaluated cause).margin = s.margin.margin then s.link.notices
      else withNotice .marginChanged s.link.notices := by
  unfold evaluateMargin
  dsimp only
  split
  · rfl
  · exact post_link_notices ..

/-- Both sweeps judge alike where they read alike. -/
theorem bothSweeps_alike (order : SweepOrder) {s judged : State} (same : s = { judged with link := s.link })
    (notices : s.link.notices = judged.link.notices) :
    let t := bothSweeps order s
    let swept := bothSweeps order judged
    t = { judged with keyring := swept.keyring, engine := swept.engine, lanes := swept.lanes, link := t.link } ∧
      t.link.notices = swept.link.notices := by
  intro t swept
  have bare : s.bare = judged.bare := by
    unfold State.bare
    rw [notices, same]
  have out : t.bare = swept.bare := by
    rw [unread_bare.bothSweeps, unread_bare.bothSweeps, bare]
  have keyring : t.keyring = swept.keyring := congrArg (fun u => u.keyring) out
  have engine : t.engine = swept.engine := congrArg (fun u => u.engine) out
  have lanes : t.lanes = swept.lanes := congrArg (fun u => u.lanes) out
  refine ⟨?_, congrArg (fun u => u.link.notices) out⟩
  rw [← keyring, ← engine, ← lanes, show t = _ from bothSweeps_frame order s, same]

/-- The clock's own event of a tick changes the clock, and in a staleness minute the margin, which tells. -/
theorem clockTick_eq (s : State) :
    let clock := s.clock.tick
    let e :=
      evaluation s.margin.shapes s.margin.terms s.params clock.residual.natAbs clock.staleness .staleness clock.now
    clockTick s =
        { s with
          clock
          margin := if s.clock.minuteCountdown ≤ 1 then { s.margin with margin := e.margin, last := e } else s.margin
          link := (clockTick s).link } ∧
      (clockTick s).link.notices =
        if 1 < s.clock.minuteCountdown ∨ e.margin = s.margin.margin then s.link.notices
        else withNotice .marginChanged s.link.notices := by
  intro clock e
  by_cases minute : s.clock.minuteCountdown ≤ 1
  · have due : clockTick s = evaluateMargin .staleness { s with clock } := by
      simp [clockTick, Clock.minuteDue, minute, clock]
    rw [due, if_pos minute, evaluateMargin_notices]
    constructor
    · conv_lhs => rw [evaluateMargin_frame, evaluateMargin_margin]
    · simp only [not_lt.2 minute, false_or]
      rfl
  · have counted : clockTick s = { s with clock } := by
      simp [clockTick, Clock.minuteDue, minute, clock]
    rw [counted, if_neg minute, if_pos (.inl (not_le.1 minute))]
    exact ⟨rfl, rfl⟩

theorem settleDue_of_none {s : State} (h : s.due = .none) : settleDue s = s := by
  simp [settleDue, takeDueExpiry, takeDueWindow, takeDueStopTime, h, DuePasses.none]

/-- Settles O54: the clock's own event and the expiry pass, as what the sweeps then judge. -/
theorem ticksCountAndSweep : Obligations.TicksCountAndSweep := by
  intro c order s on running due link sync command minute replenish clock e judged swept
  have acts : tickActs s = true := (tickActs_iff s).2 ⟨on, running⟩
  have whole : exec c s = .next (tickWhole order s) := by
    rcases command with rfl | ⟨rfl, last⟩ | ⟨rfl, last⟩
    · show execTick (.whole order) s = _
      simp only [execTick, acts, if_true]
    · show execStalenessMinute order s = _
      simp [execStalenessMinute, acts, Clock.minuteDue, last]
    · show execReplenish order s = _
      simp [execReplenish, acts, Clock.replenishDue, last]
  have ticked : s.clock.tick = clock := by simp [Clock.tick_eq, clock, minute, replenish]
  have tick : tickWhole order s = bothSweeps order (expiryPass (clockTick s)) := by
    rw [tickWhole, settleDue_of_none due]
  obtain ⟨counted, told⟩ := clockTick_eq s
  rw [ticked] at counted told
  have minute_iff : minute = false ↔ 1 < s.clock.minuteCountdown := by simp [minute]
  have same : expiryPass (clockTick s) = { judged with link := (expiryPass (clockTick s)).link } := by
    conv_lhs => rw [counted]
    simp only [judged, minute, decide_eq_true_iff]
    rfl
  have notices : (expiryPass (clockTick s)).link.notices = judged.link.notices := by
    show (clockTick s).link.notices = _
    simp only [judged, minute_iff]
    exact told
  obtain ⟨left, pending⟩ := bothSweeps_alike order same notices
  rw [whole, tick]
  exact ⟨_, rfl, (((Stirred.refl sync).clockTick link.canHand).expiryPass.bothSweeps link.canHand order).toUnasked,
    left, pending⟩

/-! ### A tick in its parts -/

theorem takeDueExpiry_due (s : State) : (takeDueExpiry s).due = { s.due with expiry := false } := by
  unfold takeDueExpiry
  split
  · rfl
  · next taken =>
    rw [Bool.not_eq_true] at taken
    rw [← taken]

theorem takeDueWindow_due (s : State) : (takeDueWindow s).due = { s.due with window := false } := by
  unfold takeDueWindow
  split
  · exact windowSweep_due ..
  · next taken =>
    rw [Bool.not_eq_true] at taken
    rw [← taken]

theorem takeDueStopTime_due (s : State) : (takeDueStopTime s).due = { s.due with stopTime := false } := by
  unfold takeDueStopTime
  split
  · exact stopTimeSweep_due ..
  · next taken =>
    rw [Bool.not_eq_true] at taken
    rw [← taken]

theorem settleDue_due (s : State) : (settleDue s).due = .none := by
  rw [settleDue, takeDueStopTime_due, takeDueWindow_due, takeDueExpiry_due]
  rfl

@[simp] theorem takeDueExpiry_powered (s : State) : (takeDueExpiry s).powered = s.powered := by
  unfold takeDueExpiry
  split <;> rfl

@[simp] theorem takeDueWindow_powered (s : State) : (takeDueWindow s).powered = s.powered := by
  unfold takeDueWindow
  split
  · exact windowSweep_powered ..
  · rfl

@[simp] theorem takeDueStopTime_powered (s : State) : (takeDueStopTime s).powered = s.powered := by
  unfold takeDueStopTime
  split
  · exact stopTimeSweep_powered ..
  · rfl

@[simp] theorem settleDue_powered (s : State) : (settleDue s).powered = s.powered := by simp [settleDue]

/-- With every pass settled, the tick that follows finds none due. -/
theorem tickActs_settleDue (s : State) : tickActs (settleDue s) = tickActs s := by
  simp [tickActs]

/-- A state with other passes due. -/
abbrev State.owing (s : State) (d : DuePasses) : State := { s with due := d }

theorem windowSweep_owing (s : State) (d : DuePasses) : windowSweep (s.owing d) = (windowSweep s).owing d :=
  ((unread_due d).windowSweep s).symm

theorem stopTimeSweep_owing (s : State) (d : DuePasses) : stopTimeSweep (s.owing d) = (stopTimeSweep s).owing d :=
  ((unread_due d).stopTimeSweep s).symm

theorem Stirred.owing {s t : State} (h : Stirred s t) (d : DuePasses) : Stirred s (t.owing d) :=
  h.congr (u := t.owing d) rfl rfl rfl

theorem State.owing_self {s : State} {d : DuePasses} (h : s.due = d) : s.owing d = s := by rw [← h]

@[simp] theorem clockTick_due (s : State) : (clockTick s).due = s.due := by rw [(clockTick_eq s).1]

@[simp] theorem clockTick_powered (s : State) : (clockTick s).powered = s.powered := by rw [(clockTick_eq s).1]

theorem exec_tick_expiryPass {s : State} (on : s.powered = true) :
    exec (.tick .expiryPass) s = .next (takeDueExpiry s) := by
  show execTick .expiryPass s = _
  simp [execTick, on]

theorem exec_tick_windowSweep {s : State} (on : s.powered = true) :
    exec (.tick .windowSweep) s = .next (takeDueWindow s) := by
  show execTick .windowSweep s = _
  simp [execTick, on]

theorem exec_tick_stopTimeSweep {s : State} (on : s.powered = true) :
    exec (.tick .stopTimeSweep) s = .next (takeDueStopTime s) := by
  show execTick .stopTimeSweep s = _
  simp [execTick, on]

theorem exec_tick_clockOnly {s : State} (acts : tickActs s = true) :
    exec (.tick .clockOnly) s = .next (tickClockOnly s) := by
  show execTick .clockOnly s = _
  simp [execTick, acts]

theorem exec_tick_whole {s : State} (acts : tickActs s = true) (order : SweepOrder) :
    exec (.tick (.whole order)) s = .next (tickWhole order s) := by
  show execTick (.whole order) s = _
  simp [execTick, acts]

/-- The window sweep of a tick, taken by itself. -/
theorem exec_windowSweep_owing {s : State} (on : s.powered = true) (later : Bool) :
    exec (.tick .windowSweep) (s.owing ⟨false, true, later⟩) = .next ((windowSweep s).owing ⟨false, false, later⟩) := by
  rw [← windowSweep_owing]
  exact exec_tick_windowSweep (s := s.owing _) on

/-- The stop-time sweep of a tick, taken by itself. -/
theorem exec_stopTimeSweep_owing {s : State} (on : s.powered = true) (later : Bool) :
    exec (.tick .stopTimeSweep) (s.owing ⟨false, later, true⟩) =
      .next ((stopTimeSweep s).owing ⟨false, later, false⟩) := by
  rw [← stopTimeSweep_owing]
  exact exec_tick_stopTimeSweep (s := s.owing _) on

/-- Settles O55: the sweeps do not read which passes are due, so a pass taken by itself does what it does in the whole
tick. -/
theorem ticksMayBeTakenInParts : Obligations.TicksMayBeTakenInParts := by
  intro order s
  refine ⟨fun off c command => ?_, fun early => ?_, fun early => ?_, fun on => ?_,
    fun on running => ⟨?_, fun due => ?_⟩, fun on running due link sync => ?_⟩
  · have still : tickActs s = false := by simp [tickActs, off]
    rcases command with command | ⟨part, rfl⟩
    · simp only [List.mem_cons, List.not_mem_nil, or_false] at command
      rcases command with rfl | rfl
      · show execStalenessMinute order s = _
        simp [execStalenessMinute, still]
      · show execReplenish order s = _
        simp [execReplenish, still]
    · cases part <;> simp [exec, execTick, still, off]
  · show execStalenessMinute order s = _
    simp [execStalenessMinute, Clock.minuteDue, early]
  · show execReplenish order s = _
    simp [execReplenish, Clock.replenishDue, early]
  · exact ⟨exec_tick_expiryPass on, exec_tick_windowSweep on, exec_tick_stopTimeSweep on⟩
  · have acts : tickActs s = true := (tickActs_iff s).2 ⟨on, running⟩
    have settled : tickActs (settleDue s) = true := by rw [tickActs_settleDue, acts]
    have again : settleDue (settleDue s) = settleDue s := settleDue_of_none (settleDue_due s)
    refine ⟨takeDueExpiry s, takeDueWindow (takeDueExpiry s), settleDue s, exec_tick_expiryPass on,
      exec_tick_windowSweep (by simp [on]), exec_tick_stopTimeSweep (by simp [on]), settleDue_due s, ?_, ?_⟩
    · rw [exec_tick_whole acts, exec_tick_whole settled, tickWhole, tickWhole, again]
    · rw [exec_tick_clockOnly acts, exec_tick_clockOnly settled, tickClockOnly, tickClockOnly, again]
  · have acts : tickActs s = true := (tickActs_iff s).2 ⟨on, running⟩
    have passed : (expiryPass (clockTick s)).due = .none := (clockTick_due s).trans due
    have parts : tickClockOnly s = (clockTick s).owing ⟨true, true, true⟩ := by
      rw [tickClockOnly, settleDue_of_none due]
    have expiry : takeDueExpiry (tickClockOnly s) = (expiryPass (clockTick s)).owing ⟨false, true, true⟩ := by
      rw [parts]
      rfl
    have onP : (expiryPass (clockTick s)).powered = true := (clockTick_powered s).trans on
    refine ⟨tickClockOnly s, _, _, _, _, _, exec_tick_clockOnly acts, ?_, exec_windowSweep_owing onP true,
      exec_stopTimeSweep_owing ((windowSweep_powered _).trans onP) false, ?_, exec_stopTimeSweep_owing onP true,
      exec_windowSweep_owing ((stopTimeSweep_powered _).trans onP) false, ?_⟩
    · rw [← expiry, exec_tick_expiryPass]
      rw [parts]
      exact (clockTick_powered s).trans on
    · rw [exec_tick_whole acts, tickWhole, settleDue_of_none due, bothSweeps_windowFirst, State.owing_self]
      rw [stopTimeSweep_due, windowSweep_due, passed]
      rfl
    · rw [exec_tick_whole acts, tickWhole, settleDue_of_none due, bothSweeps_stopTimeFirst, State.owing_self]
      rw [windowSweep_due, stopTimeSweep_due, passed]
      rfl
  · have acts : tickActs s = true := (tickActs_iff s).2 ⟨on, running⟩
    obtain ⟨counted, told⟩ := clockTick_eq s
    have parts : tickClockOnly s = (clockTick s).owing ⟨true, true, true⟩ := by
      rw [tickClockOnly, settleDue_of_none due]
    have margin : (tickWhole order s).margin = (clockTick s).margin := by
      rw [tickWhole, settleDue_of_none due]
      exact bothSweeps_margin ..
    have stirred : Stirred s (clockTick s) := (Stirred.refl sync).clockTick link.canHand
    refine ⟨tickClockOnly s, tickWhole order s, exec_tick_clockOnly acts, exec_tick_whole acts order, ?_, ?_, ?_⟩
    · rw [tickWhole_clock, margin, parts, State.owing]
      conv_lhs => rw [counted]
      conv_rhs => rw [counted]
    · rw [parts]
      exact (stirred.owing _).toUnasked
    · rw [margin, parts]
      refine told.trans ?_
      rw [counted]
      by_cases minute : s.clock.minuteCountdown ≤ 1
      · simp only [not_lt.2 minute, false_or, if_pos minute]
      · simp only [not_le.1 minute, true_or, if_true, if_neg minute]

end Sys2Proof.Machine

/-! ## Accepted claims (O40) -/

namespace Sys2Proof.Machine

/-- An accepted claim moves the clock, and tells where it did not go far enough (R9, R10). -/
theorem takeClaim_eq (T : Nat) (s : State) :
    takeClaim T s = { s with clock := (takeClaim T s).clock, link := (takeClaim T s).link } ∧
      (takeClaim T s).link.notices =
        if s.clock.state = .running ∧ s.clock.allowance < ((T : Int) - s.clock.now).natAbs then
          withNotice .clockClamped s.link.notices
        else s.link.notices := by
  unfold takeClaim
  cases state : s.clock.state with
  | unset => exact ⟨rfl, rfl⟩
  | running =>
    by_cases covered : ((T : Int) - s.clock.now).natAbs ≤ s.clock.allowance
    · dsimp only
      rw [if_pos covered, if_neg (by omega)]
      exact ⟨rfl, rfl⟩
    · dsimp only
      rw [if_neg covered, if_pos ⟨rfl, not_le.1 covered⟩, post_link_notices, post_clock]
      exact ⟨post_frame .., rfl⟩

theorem claimVerifies_iff (tagOver : Option ClaimTag) (T : Nat) (store : Store) :
    claimVerifies tagOver T store = true ↔
      ∃ authority ∈ store.authority, ∃ site ∈ store.site, tagOver = some { authority, site, time := T } := by
  unfold claimVerifies
  cases tagOver <;> cases store.authority <;> cases store.site <;> simp

/-- A TIME_CLAIM with a malformed body is refused. -/
theorem exec_timeClaim_malformed {r : Request} {rest : List Request} {rt : Route} {s : State}
    (serving : Serving .timeClaim r rest rt s) (malformed : parseClaim r.body = none) (tagOver : Option ClaimTag)
    (order : SweepOrder) :
    exec (.timeClaim tagOver order) s = .next (answer r .badRequest [] (withoutOldest s)) :=
  congrArg Host.Outcome.next ((serveWith_of_serving serving ..).trans (by rw [malformed]))

/-- A TIME_CLAIM of the time `T` is taken where its tag verifies. -/
theorem exec_timeClaim_of_parsed {r : Request} {rest : List Request} {rt : Route} {s : State}
    (serving : Serving .timeClaim r rest rt s) {T : Nat} (parsed : parseClaim r.body = some T)
    (tagOver : Option ClaimTag) (order : SweepOrder) :
    exec (.timeClaim tagOver order) s =
      .next
        (if claimVerifies tagOver T s.store then
          let done := afterClaim order (takeClaim T (withoutOldest s))
          answer r .ok (claimBody (appliedChange s.clock T) done) done
        else answer r .integrity [] (withoutOldest s)) :=
  congrArg Host.Outcome.next ((serveWith_of_serving serving ..).trans (by rw [parsed]; rfl))

/-- An answer changes nothing but the link. -/
theorem answer_over {s t : State} (h : t = { s with link := t.link }) (r : Request) (status : Status)
    (body : List Byte) : answer r status body t = { s with link := (answer r status body t).link } := by
  conv_lhs => rw [answer_frame]
  generalize (answer r status body t).link = link
  rw [h]

/-- Settles O40: the moved clock, the expiry pass and the evaluation give what the sweeps judge, and the sweeps read
nothing else. -/
theorem claimsAreRationed : Obligations.ClaimsAreRationed := by
  intro tagOver order r rest rt s serving
  refine ⟨fun malformed => ?_, fun T parsed => ⟨fun fails => ?_, fun holds sync => ?_⟩⟩
  · rw [exec_timeClaim_malformed serving malformed, answer_withoutOldest serving.toTaking]
  · rw [exec_timeClaim_of_parsed serving parsed, if_neg (mt (claimVerifies_iff ..).1 fails),
      answer_withoutOldest serving.toTaking]
  · rw [exec_timeClaim_of_parsed serving parsed, if_pos ((claimVerifies_iff ..).2 holds)]
    intro d clamped a clock e told judged swept
    obtain ⟨moved, said⟩ := takeClaim_eq T (withoutOldest s)
    have clockEq : (takeClaim T (withoutOldest s)).clock = clock := by
      rw [takeClaim_clock, withoutOldest_clock]
      dsimp only [clock, a]
      cases state : s.clock.state with
      | unset => rfl
      | running =>
        simp only [Clock.adjustBy, state]
        rfl
    have applied : appliedChange s.clock T = a := by
      unfold appliedChange
      dsimp only [a]
      cases s.clock.state <;> rfl
    have stirred : Stirred (withoutOldest s) (afterClaim order (takeClaim T (withoutOldest s))) := by
      have can : CanHand (withoutOldest s) := fun _ => ⟨rt, serving.routed⟩
      have start : Stirred (withoutOldest s) (withoutOldest s) := Stirred.refl sync
      exact ((start.takeClaim can T).expiryPass.evaluateMargin can _).bothSweeps can order
    rw [clockEq] at moved
    generalize takeClaim T (withoutOldest s) = taken at moved said stirred ⊢
    have judgement : (expiryPass taken).evaluated .claim = e := by
      rw [moved]
      rfl
    have told_eq : taken.link.notices = told := by
      rw [said]
      simp only [told, clamped, decide_eq_true_iff]
      rfl
    have margin : taken.margin = s.margin := by rw [moved]; rfl
    have same : evaluateMargin .claim (expiryPass taken) =
        { judged with link := (evaluateMargin .claim (expiryPass taken)).link } := by
      conv_lhs => rw [evaluateMargin_frame, evaluateMargin_margin, judgement]
      generalize (evaluateMargin .claim (expiryPass taken)).link = link
      rw [moved]
      rfl
    have notices : (evaluateMargin .claim (expiryPass taken)).link.notices = judged.link.notices := by
      rw [evaluateMargin_notices, judgement]
      show (if e.margin = taken.margin.margin then taken.link.notices else withNotice _ taken.link.notices) = _
      rw [margin, told_eq]
    obtain ⟨left, pending⟩ := bothSweeps_alike order same notices
    have running : clock.state = .running := by
      dsimp only [clock]
      cases s.clock.state <;> simp
    have body : claimBody (appliedChange s.clock T) (afterClaim order taken) =
        [2] ++ beBytes 4 (BitVec.ofInt 32 a).toNat ++ beBytes 4 (BitVec.ofInt 32 clock.residual).toNat ++
          beBytes 2 clock.allowance ++ beBytes 4 clock.now := by
      have now : (afterClaim order taken).clock = clock := by
        rw [afterClaim_clock, moved]
      rw [claimBody, now, applied, running]
      rfl
    rw [← body]
    have answered :=
      answer_over
        (s := { judged with keyring := swept.keyring, engine := swept.engine, lanes := swept.lanes })
        (t := afterClaim order taken) left
    exact ⟨_, rfl, stirred.answered serving.toTaking .., answered .., (answer_link_notices ..).trans pending⟩

end Sys2Proof.Machine

/-! ## The start-up (O58) -/

namespace Sys2Proof.Machine

/-! ### The keyring's reset steps (R56) -/

/-- What the reset steps make of a slot's record. -/
def restartedRecord (now : Nat) : Option Bundle → Option Bundle
  | none => none
  | some b =>
    if b.state = .unwrapping then none
    else if b.state = .revoked ∧ 0 < b.useCount then
      some { b with useCount := 0, revocationMode := none, entryTime := now, poolRefs := [], wrappedKeys := [] }
    else some { b with useCount := 0 }

/-- The pool entries that the reset steps free for a slot's record. -/
def restartFrees : Option Bundle → List PoolNo
  | none => []
  | some b => if b.state = .unwrapping ∨ b.state = .revoked ∧ 0 < b.useCount then b.poolRefs else []

@[simp] theorem restartFrees_none : restartFrees none = [] := rfl

theorem mem_restartFrees {n : PoolNo} {record : Option Bundle} :
    n ∈ restartFrees record ↔
      ∃ b ∈ record, (b.state = .unwrapping ∨ b.state = .revoked ∧ 0 < b.useCount) ∧ n ∈ b.poolRefs := by
  cases record with
  | none => simp
  | some b =>
    unfold restartFrees
    dsimp only
    split <;> simp_all

theorem freeCells_nil (pool : List PoolCell) : freeCells [] pool = pool := by simp [freeCells]

/-- One slot's reset step. -/
theorem resetSlot_keyring (i : SlotNo) (s : State) :
    (resetSlot i s).keyring =
      { s.keyring with
        slots := s.keyring.slots.set i (restartedRecord s.clock.now s.keyring.slots[i])
        pool := freeCells (restartFrees s.keyring.slots[i]) s.keyring.pool } := by
  unfold resetSlot
  cases h : s.keyring.slots[i] with
  | none =>
    dsimp only [restartedRecord]
    rw [restartFrees_none, freeCells_nil, ← h]
    simp
  | some b =>
    by_cases unwrapping : b.state = .unwrapping
    · simp [restartedRecord, restartFrees, unwrapping, setBundle]
    · by_cases revoked : b.state = .revoked ∧ 0 < b.useCount
      · simp [restartedRecord, restartFrees, revoked, setBundle, buryRevoked, eraseKeys]
      · simp [restartedRecord, restartFrees, unwrapping, revoked, setBundle, freeCells_nil]

/-- The reset steps of the slots in `l`. -/
theorem resetSlots_keyring (l : List SlotNo) (once : l.Nodup) (s : State) :
    (∀ i : SlotNo, (l.foldl (fun t j => resetSlot j t) s).keyring.slots[i] =
        if i ∈ l then restartedRecord s.clock.now s.keyring.slots[i] else s.keyring.slots[i]) ∧
      (l.foldl (fun t j => resetSlot j t) s).keyring.pool =
        s.keyring.pool.filter fun c => decide ¬∃ i ∈ l, c.number ∈ restartFrees s.keyring.slots[i] := by
  induction l generalizing s with
  | nil => simp
  | cons j rest ih =>
    obtain ⟨fresh, once⟩ := List.nodup_cons.1 once
    obtain ⟨slots, pool⟩ := ih once (resetSlot j s)
    have other (i : SlotNo) (h : j ≠ i) : (resetSlot j s).keyring.slots[i] = s.keyring.slots[i] := by
      rw [resetSlot_keyring]
      exact slots_set_other _ h _
    rw [List.foldl_cons]
    constructor
    · intro i
      rw [slots, resetSlot_clock]
      by_cases this : j = i
      · subst this
        rw [if_neg fresh, if_pos (List.mem_cons_self ..), resetSlot_keyring]
        exact slots_set_same ..
      · simp only [other i this, List.mem_cons, Ne.symm this, false_or]
    · have first : (resetSlot j s).keyring.pool = freeCells (restartFrees s.keyring.slots[j]) s.keyring.pool := by
        rw [resetSlot_keyring]
      have later (c : PoolCell) : (∃ i ∈ rest, c.number ∈ restartFrees (resetSlot j s).keyring.slots[i]) ↔
          ∃ i ∈ rest, c.number ∈ restartFrees s.keyring.slots[i] :=
        exists_congr fun i => and_congr_right fun hi => by rw [other i (ne_of_mem_of_not_mem hi fresh).symm]
      rw [pool, first, freeCells, List.filter_filter]
      refine List.filter_congr fun c _ => ?_
      simp only [later, List.mem_cons, exists_eq_or_imp, not_or, Bool.decide_and, decide_not, List.contains_eq_mem]
      exact Bool.and_comm ..

theorem resetKeyring_restarted (s : State) : KeyringRestarted s.clock.now s.keyring (resetKeyring s).keyring := by
  obtain ⟨slots, pool⟩ := resetSlots_keyring (List.finRange 64) (List.nodup_finRange 64) s
  refine { slots := fun i => ?_, pool := ?_, intakeQueue := ?_, listCursor := ?_ }
  · rw [resetKeyring]
    dsimp only
    rw [slots i, if_pos (List.mem_finRange i)]
    generalize s.keyring.slots[i] = record
    cases record <;> rfl
  · rw [resetKeyring]
    dsimp only
    rw [pool]
    simp only [List.mem_finRange, true_and, mem_restartFrees]
  · rw [resetKeyring]
  · rw [resetKeyring]

/-! ### The sweep of a start-up -/

/-- With no port latched a post shows on the link in the notices alone. -/
theorem post_link_quiet {s t : State} (quiet : s.link.latch = none) (same : t.link = s.link) (n : Notice) :
    (post n t).link = { s.link with notices := (post n t).link.notices } := by
  rw [post_of_no_latch (same ▸ quiet), ← same]
  rfl

theorem postEntry_link_quiet {s t : State} (quiet : s.link.latch = none) (same : t.link = s.link) (i : SlotNo)
    (st : BundleState) :
    (postEntry i st t).link = { s.link with notices := (postEntry i st t).link.notices } := by
  unfold postEntry
  cases st with
  | live | closing | expired => exact post_link_quiet quiet same _
  | unwrapping | waiting | revoked | failed => exact same.trans (by rw [same])

/-- With no port latched the window sweep shows on the link in the notices alone. -/
theorem windowSweep_link_quiet {s : State} (h : s.link.latch = none) :
    (windowSweep s).link = { s.link with notices := (windowSweep s).link.notices } := by
  unfold windowSweep
  refine frame_of_foldl _ (fun t u => t.link.latch = none → u.link = { t.link with notices := u.link.notices })
    (fun _ _ => rfl) (fun a b c first second quiet => ?_) (fun t i quiet => ?_) _ s h
  · rw [second (by rw [first quiet, quiet]), first quiet]
  · unfold judgeSlot
    split
    · rfl
    · split
      · refine postEntry_link_quiet quiet ?_ _ _
        split <;> rfl
      · rfl

/-- The window sweep leaves the intake queue and the list cursor alone. -/
theorem windowSweep_queue (s : State) :
    (windowSweep s).keyring.intakeQueue = s.keyring.intakeQueue ∧
      (windowSweep s).keyring.listCursor = s.keyring.listCursor := by
  unfold windowSweep
  refine frame_of_foldl _
    (fun t u => u.keyring.intakeQueue = t.keyring.intakeQueue ∧ u.keyring.listCursor = t.keyring.listCursor)
    (fun _ => ⟨rfl, rfl⟩) (fun a b c first second => ⟨second.1.trans first.1, second.2.trans first.2⟩)
    (fun t i => ?_) _ s
  unfold judgeSlot
  split
  · exact ⟨rfl, rfl⟩
  · split
    · unfold enterWindow postEntry
      generalize windowCase _ _ _ = st
      cases st <;> simp [setBundle, eraseKeys]
    · exact ⟨rfl, rfl⟩

/-- The window sweep judges alike where it reads alike. -/
theorem windowSweep_alike {s t : State} (h : s.bare = t.bare) :
    (windowSweep s).keyring = (windowSweep t).keyring ∧
      (windowSweep s).link.notices = (windowSweep t).link.notices := by
  have out : (windowSweep s).bare = (windowSweep t).bare := by
    rw [unread_bare.windowSweep, unread_bare.windowSweep, h]
  generalize windowSweep s = swept, windowSweep t = sweptToo at out ⊢
  exact ⟨congrArg (fun u => u.keyring) out, congrArg (fun u => u.link.notices) out⟩

/-- The sweeps do not read the revocation list. -/
theorem State.bare_revocations (s : State) (left : List RevocationEntry) :
    ({ s with revocations := left } : State).bare = s.bare := rfl

/-- The sweeps do not read whether main power is on. -/
theorem State.bare_powered (s : State) (on : Bool) : ({ s with powered := on } : State).bare = s.bare := rfl

/-! ### The beginning of operation -/

/-- A state that a start-up judges: no session, no pass due, nothing in service and every lane CLOSED. -/
structure Starting (s : State) : Prop where
  engine : s.engine = .idle
  lanes : s.lanes = lanesClosed
  link : s.link = .atPowerUp .power
  due : s.due = .none
  queue : s.keyring.intakeQueue = []
  cursor : s.keyring.listCursor = 0

/-- What stage 2 of R173 hands to the keyring's reset steps. -/
def State.restored (s : State) : State :=
  { s with
    domain := .written
    clock := s.clock.caughtUp s.domain.batterySeconds
    engine := .idle
    screens := screensAfterStart s.screens
    lanes := lanesClosed
    link := .atPowerUp .power
    due := .none }

theorem startValid_eq_resetKeyring (s : State) : startValid s = resetKeyring s.restored := rfl

theorem startValid_eq (s : State) : startValid s = { s.restored with keyring := (startValid s).keyring } := by
  rw [startValid_eq_resetKeyring]
  exact resetKeyring_frame _

theorem startValid_restarted (s : State) :
    KeyringRestarted (s.clock.caughtUp s.domain.batterySeconds).now s.keyring (startValid s).keyring := by
  rw [startValid_eq_resetKeyring]
  exact resetKeyring_restarted s.restored

theorem startValid_starting (s : State) : Starting (startValid s) := by
  have restarted := startValid_restarted s
  rw [startValid_eq]
  exact ⟨rfl, rfl, rfl, rfl, restarted.intakeQueue, restarted.listCursor⟩

theorem exec_powerUp_complete {s : State} (off : s.powered = false) (checkMatches : Bool) :
    exec (.powerUp checkMatches .complete) s =
      .next
        { (if checkedStatus s.domain.status checkMatches = .sound then beginOperation (startValid s)
            else startLost s) with
          powered := true } :=
  congrArg Host.Outcome.next (if_neg (by simp [off]))

theorem exec_powerUp_cut {s : State} (off : s.powered = false) (checkMatches : Bool) (judged : JudgedSoFar)
    (expired : Bool) :
    exec (.powerUp checkMatches (.cutAfterUpdate judged expired)) s =
      .next
        (withoutPower
          (if checkedStatus s.domain.status checkMatches = .sound then beginCut judged expired (startValid s)
          else startLost s)) :=
  congrArg Host.Outcome.next (if_neg (by simp [off]))

/-- What the evaluation and the expiry pass of a start-up leave, for the sweep to judge (R173). -/
def State.judgedAtStart (s : State) : State :=
  { s with
    margin := { s.margin with margin := (s.evaluated .powerUp).margin, last := s.evaluated .powerUp }
    revocations := s.revocations.filter fun v => decide (s.clock.now ≤ v.expires)
    link :=
      { s.link with
        notices :=
          if (s.evaluated .powerUp).margin = s.margin.margin then s.link.notices
          else withNotice .marginChanged s.link.notices } }

namespace Starting

variable {s : State} (h : Starting s)
include h

theorem latch : s.link.latch = none := by rw [h.link]; rfl

/-- The evaluation of a start-up does not read the list that the expiry pass shortens. -/
theorem evaluated (left : List RevocationEntry) :
    evaluateMargin .powerUp { s with revocations := left } = { s.judgedAtStart with revocations := left } := by
  unfold State.judgedAtStart evaluateMargin
  dsimp only
  split
  · rfl
  · rw [post_of_no_latch (by exact h.latch)]
    rfl

theorem judged : expiryPass (evaluateMargin .powerUp s) = s.judgedAtStart := by
  rw [h.evaluated s.revocations]
  rfl

theorem lanes_closed (l : LaneNo) : s.lanes[l] = none := by simp [h.lanes, lanesClosed]

/-- Operation begins with the window sweep of what the evaluation and the expiry pass leave; the stop-time sweep finds
every lane CLOSED. -/
theorem beginOperation_running (running : s.clock.state = .running) :
    beginOperation s =
      { s.judgedAtStart with
        keyring := (windowSweep s.judgedAtStart).keyring
        link := { s.judgedAtStart.link with notices := (windowSweep s.judgedAtStart).link.notices } } := by
  have begun : beginOperation s = bothSweeps .windowFirst (expiryPass (evaluateMargin .powerUp s)) := by
    unfold beginOperation
    rw [running]
  rw [begun, h.judged, bothSweeps_windowFirst, stopTimeSweep_of_closed]
  · rw [← windowSweep_link_quiet (s := s.judgedAtStart) h.latch, ← windowSweep_frame]
  · intro l
    rw [windowSweep_lanes]
    exact h.lanes_closed l

/-- What a loss of main power keeps of a start-up it cuts. -/
theorem withoutPower_of_kept {t : State}
    (kept :
      t =
        { s with margin := t.margin, revocations := t.revocations, keyring := t.keyring, link := t.link })
    (queue : t.keyring.intakeQueue = []) (cursor : t.keyring.listCursor = 0) :
    withoutPower t =
      { s with powered := false, margin := t.margin, revocations := t.revocations, keyring := t.keyring } := by
  have keyring : { t.keyring with intakeQueue := [], listCursor := 0 } = t.keyring := by rw [← queue, ← cursor]
  unfold withoutPower
  rw [keyring, kept, h.engine, h.lanes, h.link, h.due]

theorem withoutPower_unset (judged : JudgedSoFar) (expired : Bool) (unset : s.clock.state = .unset) :
    withoutPower (beginCut judged expired s) = { s with powered := false } := by
  have nothing : beginCut judged expired s = s := by
    unfold beginCut
    rw [unset]
  rw [nothing, h.withoutPower_of_kept rfl h.queue h.cursor]

/-- What a loss of main power keeps of the beginning of operation it cuts. -/
theorem withoutPower_beginCut (judged : JudgedSoFar) (expired : Bool) (running : s.clock.state = .running) :
    withoutPower (beginCut judged expired s) =
      { s with
        powered := false
        margin := if judged = .nothing then s.margin else s.judgedAtStart.margin
        revocations := if expired then s.judgedAtStart.revocations else s.revocations
        keyring := if judged = .swept then (windowSweep s.judgedAtStart).keyring else s.keyring } := by
  have passed : (if expired then expiryPass s else s) =
      { s with revocations := if expired then s.judgedAtStart.revocations else s.revocations } := by
    cases expired <;> rfl
  unfold beginCut
  rw [running, passed]
  generalize (if expired then s.judgedAtStart.revocations else s.revocations) = left
  cases judged with
  | nothing => exact h.withoutPower_of_kept (t := { s with revocations := left }) rfl h.queue h.cursor
  | evaluated =>
    dsimp only
    rw [h.evaluated]
    exact h.withoutPower_of_kept (t := { s.judgedAtStart with revocations := left }) rfl h.queue h.cursor
  | swept =>
    dsimp only
    rw [h.evaluated]
    have keyring : (windowSweep { s.judgedAtStart with revocations := left }).keyring =
        (windowSweep s.judgedAtStart).keyring := (windowSweep_alike (s.judgedAtStart.bare_revocations left)).1
    obtain ⟨queue, cursor⟩ := windowSweep_queue { s.judgedAtStart with revocations := left }
    have frame := windowSweep_frame { s.judgedAtStart with revocations := left }
    generalize windowSweep { s.judgedAtStart with revocations := left } = swept at keyring queue cursor frame ⊢
    have margin : swept.margin = s.judgedAtStart.margin := by rw [frame]
    have revocations : swept.revocations = left := by rw [frame]
    rw [h.withoutPower_of_kept _ (queue.trans h.queue) (cursor.trans h.cursor), keyring, margin, revocations]
    · rfl
    · rw [margin, revocations]
      exact frame

end Starting

/-- Settles O58: a start-up takes the loss values, or resumes what the domain holds and judges it once. -/
theorem startUpFollowsTheDomain : Obligations.StartUpFollowsTheDomain := by
  intro checkMatches run s
  refine ⟨fun on => congrArg Host.Outcome.next (if_pos on), fun off => ?_⟩
  intro valid lost
  refine ⟨?_, ?_, ?_, ?_⟩
  · rintro rfl
    exact congrArg Host.Outcome.next (if_neg (by simp [off]))
  · rintro invalid rfl
    rw [exec_powerUp_complete off, if_neg (mt (checkedStatus_sound_iff ..).1 invalid)]
    rfl
  · rintro judgedSoFar expired invalid rfl
    rw [exec_powerUp_cut off, if_neg (mt (checkedStatus_sound_iff ..).1 invalid)]
    rfl
  · intro holds goesOn clock
    have sound : checkedStatus s.domain.status checkMatches = .sound := (checkedStatus_sound_iff ..).2 holds
    have caughtUp : s.clock.caughtUp s.domain.batterySeconds = clock := by
      dsimp only [clock, Clock.caughtUp]
      cases s.clock.state <;> rfl
    have starting := startValid_starting s
    have restarted := startValid_restarted s
    rw [caughtUp] at restarted
    have resumed := startValid_eq s
    rw [State.restored, caughtUp] at resumed
    have screens (l : LaneNo) : (screensAfterStart s.screens)[l] = (s.screens[l]).afterStart := tabulate_get _ l
    have complete := exec_powerUp_complete off checkMatches
    have cut := exec_powerUp_cut off checkMatches
    simp only [sound, if_true] at complete cut
    generalize (startValid s).keyring = k at resumed restarted
    generalize startValid s = v at starting resumed complete cut
    have state : v.clock.state = s.clock.state := by
      rw [resumed]
      dsimp only [clock]
      split <;> rfl
    cases run with
    | cutBeforeUpdate => exact absurd rfl goesOn
    | complete =>
      refine ⟨_, k, screensAfterStart s.screens, complete, restarted, screens, ?_⟩
      intro started e judged
      refine ⟨fun _ unset => ?_, fun _ running => ?_, by simp⟩
      · have still : beginOperation v = v := by
          unfold beginOperation
          rw [state, unset]
        rw [still, resumed]
        rfl
      · have judgedEq : judged = { v.judgedAtStart with powered := true } := by
          rw [resumed]
          rfl
        obtain ⟨keyring, notices⟩ := windowSweep_alike (v.judgedAtStart.bare_powered true)
        rw [starting.beginOperation_running (state.trans running), judgedEq, keyring, notices]
    | cutAfterUpdate judgedSoFar expired =>
      refine ⟨_, k, screensAfterStart s.screens, cut .., restarted, screens, ?_⟩
      intro started e judged
      refine ⟨by simp, by simp, ?_⟩
      intro _ _ same
      cases same
      refine ⟨fun unset => ?_, fun running => ?_⟩
      · rw [starting.withoutPower_unset _ _ (state.trans unset), resumed]
        rfl
      · have judgedEq : judged = { v.judgedAtStart with powered := true } := by
          rw [resumed]
          rfl
        obtain ⟨keyring, notices⟩ := windowSweep_alike (v.judgedAtStart.bare_powered true)
        rw [starting.withoutPower_beginCut _ _ (state.trans running), judgedEq, keyring]
        generalize v.judgedAtStart = j
        rw [resumed]
        rfl

end Sys2Proof.Machine

/-! ## How request bodies are read (O60) -/

namespace Sys2Proof.Machine

/-! ### Numbers -/

theorem beNat_cons (b : Byte) (l : List Byte) : beNat (b :: l) = b.toNat * 256 ^ l.length + beNat l := by
  induction l using List.reverseRecOn with
  | nil => simp [beNat]
  | append_singleton l c ih =>
    rw [← List.cons_append, beNat_append, ih, beNat_append, List.length_append, List.length_singleton, pow_succ]
    ring

@[simp] theorem beNat_singleton (b : Byte) : beNat [b] = b.toNat := by simp [beNat]

/-- Written in `width` bytes and read again, a number is what fits in them. -/
theorem beNat_beBytes (width n : Nat) : beNat (beBytes width n) = n % 256 ^ width := by
  induction width with
  | zero => simp [beBytes, beNat, Nat.mod_one]
  | succ width ih =>
    rw [beBytes, beNat_cons, ih, beBytes_length, BitVec.toNat_ofNat, Nat.mod_pow_succ (b := 256), Nat.add_comm,
      Nat.mul_comm]

theorem beNat_two {n : Nat} (h : n < 2 ^ 16) : beNat (beBytes 2 n) = n :=
  (beNat_beBytes 2 n).trans (Nat.mod_eq_of_lt h)

theorem beNat_four {n : Nat} (h : n < 2 ^ 32) : beNat (beBytes 4 n) = n :=
  (beNat_beBytes 4 n).trans (Nat.mod_eq_of_lt h)

/-- An opaque value written in its bytes and read again. -/
theorem ofNat_beBytes (width : Nat) (v : BitVec (8 * width)) :
    BitVec.ofNat _ (beNat (beBytes width v.toNat)) = v := by
  have fits : v.toNat < 256 ^ width := by
    have := v.isLt
    rwa [pow_mul] at this
  rw [beNat_beBytes, Nat.mod_eq_of_lt fits, BitVec.ofNat_toNat, BitVec.setWidth_eq]

@[simp] theorem ofNat_ident (id : Ident) : BitVec.ofNat 64 (beNat (beBytes 8 id.toNat)) = id := ofNat_beBytes 8 id

@[simp] theorem ofNat_linkKey (key : WrappedLinkKey) : BitVec.ofNat 384 (beNat (beBytes 48 key.toNat)) = key :=
  ofNat_beBytes 48 key

@[simp] theorem ofNat_reelKey (key : WrappedReelKey) : BitVec.ofNat 320 (beNat (beBytes 40 key.toNat)) = key :=
  ofNat_beBytes 40 key

/-! ### Fields of a body laid out field by field -/

@[simp] theorem fieldBytes_cons_succ (b : Byte) (l : List Byte) (offset width : Nat) :
    fieldBytes (b :: l) (offset + 1) width = fieldBytes l offset width := rfl

@[simp] theorem fieldBytes_cons_zero (b : Byte) (l : List Byte) : fieldBytes (b :: l) 0 1 = [b] := by
  simp [fieldBytes]

/-- A field behind `first` is read in what follows it. -/
theorem fieldBytes_behind {first : List Byte} {offset : Nat} (h : first.length ≤ offset) (l : List Byte) (width : Nat) :
    fieldBytes (first ++ l) offset width = fieldBytes l (offset - first.length) width := by
  simp [fieldBytes, List.drop_append, List.drop_eq_nil_of_le h]

/-- A field that is `first` itself. -/
theorem fieldBytes_first {first : List Byte} {width : Nat} (h : first.length = width) (l : List Byte) :
    fieldBytes (first ++ l) 0 width = first := by
  simp [fieldBytes, ← h]

theorem fieldBytes_only {first : List Byte} {width : Nat} (h : first.length = width) :
    fieldBytes first 0 width = first := by
  simp [fieldBytes, ← h]

@[simp] theorem fieldBytes_beBytes_only (width n : Nat) : fieldBytes (beBytes width n) 0 width = beBytes width n :=
  fieldBytes_only (beBytes_length ..)

@[simp] theorem fieldBytes_beBytes (width n : Nat) (l : List Byte) :
    fieldBytes (beBytes width n ++ l) 0 width = beBytes width n :=
  fieldBytes_first (beBytes_length ..) l

/-! ### Flags, presence bits and numbers with a table -/

/-- A flag byte is set when it is not 0 (R175). -/
@[simp] theorem toNat_bne_zero (b : Byte) : (b.toNat != 0) = decide (b ≠ 0) := by
  rw [Bool.eq_iff_iff]
  simp [BitVec.toNat_eq]

theorem laneOf_map {α : Type} (n : Nat) (f : LaneNo → α) :
    (laneOf n).map f = if h : 1 ≤ n ∧ n ≤ 32 then some (f ⟨n - 1, by omega⟩) else none := by
  unfold laneOf
  split <;> rfl

theorem clampTo_eq {low high : Nat} (h : low ≤ high) (n : Nat) : clampTo low high n = max low (min high n) := by
  unfold clampTo
  omega

theorem optionalField_getD (body : List Byte) (presence bit offset width default : Nat) :
    (optionalField body presence bit offset width).getD default =
      if presentAt body presence bit then field body offset width else default := by
  unfold optionalField
  split <;> rfl

@[simp] theorem presentAt_cons_zero (b : Byte) (l : List Byte) (bit : Nat) :
    presentAt (b :: l) 0 bit = b.getLsbD bit := by
  rw [presentAt, field, fieldBytes_cons_zero, beNat_singleton]
  rfl

@[simp] theorem presentAt_cons_succ (b : Byte) (l : List Byte) (offset bit : Nat) :
    presentAt (b :: l) (offset + 1) bit = presentAt l offset bit := rfl

theorem presentAt_behind {first : List Byte} {offset : Nat} (h : first.length ≤ offset) (l : List Byte) (bit : Nat) :
    presentAt (first ++ l) offset bit = presentAt l (offset - first.length) bit := by
  rw [presentAt, field, fieldBytes_behind h]
  rfl

/-- Two checks may be made in either order. -/
theorem guards_swap {α : Type} (p q : Prop) [Decidable p] [Decidable q] (value : q → Option α) :
    (if p then if h : q then value h else none else none) = if h : q then if p then value h else none else none := by
  by_cases hp : p
  · simp [hp]
  · simp [hp]

theorem one_le_toNat (b : Byte) : 1 ≤ b.toNat ↔ b ≠ 0 := by
  rw [Nat.one_le_iff_ne_zero, ne_eq, ne_eq, BitVec.toNat_eq]
  rfl

/-- A byte that is 1, 2, or outside a table of these two. -/
theorem byte_code_cases (b : Byte) : b = 1 ∨ b = 2 ∨ (b ≠ 1 ∧ b ≠ 2 ∧ b.toNat ≠ 1 ∧ b.toNat ≠ 2) := by
  have one : b.toNat = 1 ↔ b = 1 := by rw [BitVec.toNat_eq]; rfl
  have two : b.toNat = 2 ↔ b = 2 := by rw [BitVec.toNat_eq]; rfl
  tauto

/-- How a table of the values 1 and 2 reads a byte. -/
theorem twoCodes {α : Type} {read : Nat → Option α} {first second : α} (one : read 1 = some first)
    (two : read 2 = some second) (other : ∀ n, n ≠ 1 → n ≠ 2 → read n = none) (b : Byte) :
    read b.toNat = if b = 1 then some first else if b = 2 then some second else none := by
  obtain rfl | rfl | ⟨not1, not2, n1, n2⟩ := byte_code_cases b
  · exact one
  · exact two
  · rw [other _ n1 n2, if_neg not1, if_neg not2]

theorem inputOf_toNat (b : Byte) :
    inputOf b.toNat = if b = 1 then some .x1 else if b = 2 then some .x2 else none :=
  twoCodes (read := inputOf) rfl rfl (fun n h1 h2 => by unfold inputOf; split <;> simp_all) b

theorem combinatorOf_toNat (b : Byte) :
    combinatorOf b.toNat = if b = 1 then some .and else if b = 2 then some .or else none :=
  twoCodes (read := combinatorOf) rfl rfl (fun n h1 h2 => by unfold combinatorOf; split <;> simp_all) b

theorem targetOf_toNat (b : Byte) :
    targetOf b.toNat = if b = 1 then some .bundle else if b = 2 then some .feature else none :=
  twoCodes (read := targetOf) rfl rfl (fun n h1 h2 => by unfold targetOf; split <;> simp_all) b

theorem modeOf_toNat (b : Byte) :
    modeOf b.toNat = if b = 1 then some .immediate else if b = 2 then some .afterScreening else none :=
  twoCodes (read := modeOf) rfl rfl (fun n h1 h2 => by unfold modeOf; split <;> simp_all) b

/-! ### The bodies -/

theorem parseClaim_eq {T : Nat} {tag : List Byte} (hT : T < 2 ^ 32) (htag : tag.length = 32) :
    parseClaim (beBytes 4 T ++ tag) = some T := by
  simp [parseClaim, lengthIs, htag, field, beNat_four hT]

theorem parseParameters_eq (presence : Byte) {v w x y : Nat} (hv : v < 2 ^ 16) (hw : w < 2 ^ 16) (hx : x < 2 ^ 16)
    (hy : y < 2 ^ 16) :
    parseParameters ([presence] ++ beBytes 2 v ++ beBytes 2 w ++ beBytes 2 x ++ beBytes 2 y) =
      if presence.toNat < 16 then
        some
          { lateAllowance := if presence.getLsbD 0 then some v else none
            marginFloor := if presence.getLsbD 1 then some w else none
            noOpinion := if presence.getLsbD 2 then some x else none
            closingLead := if presence.getLsbD 3 then some y else none }
      else none := by
  simp [parseParameters, lengthIs, presenceWithin, optionalField, field, fieldBytes_behind, beNat_two hv,
    beNat_two hw, beNat_two hx, beNat_two hy]

theorem parseOpen_eq (lane presence reel total : Byte) (feature bundle : Ident) {e : Nat} (he : e < 2 ^ 32) :
    parseOpen
        ([lane] ++ beBytes 8 feature.toNat ++ beBytes 4 e ++ [presence] ++ beBytes 8 bundle.toNat ++ [reel, total]) =
      if presence.toNat < 8 then
        if h : 1 ≤ lane.toNat ∧ lane.toNat ≤ 32 then
          some
            { lane := ⟨lane.toNat - 1, by omega⟩, featureId := feature, plannedEnd := e
              bundleId := if presence.getLsbD 0 then some bundle else none
              firstReel := if presence.getLsbD 1 then reel.toNat else 1
              repeatTotal := if presence.getLsbD 2 then max 1 (min 8 total.toNat) else 1 }
        else none
      else none := by
  have counted (given : Bool) (total : Nat) :
      clampTo 1 8 (if given then total else 1) = if given then max 1 (min 8 total) else 1 := by
    split
    · exact clampTo_eq (by decide) total
    · rfl
  simp [parseOpen, lengthIs, presenceWithin, laneOf_map, optionalField_getD, counted, field, fieldBits,
    fieldBytes_behind, presentAt_behind, beNat_four he]

theorem parseBind_eq (screen bias : Byte) (unitId : Ident) (wrapped : WrappedLinkKey) :
    parseBind ([screen] ++ beBytes 8 unitId.toNat ++ beBytes 48 wrapped.toNat ++ [bias]) =
      if h : 1 ≤ screen.toNat ∧ screen.toNat ≤ 32 then
        some { screen := ⟨screen.toNat - 1, by omega⟩, unitId, wrapped, bias := min 2 bias.toNat }
      else none := by
  simp [parseBind, lengthIs, laneOf_map, field, fieldBits, fieldBytes_behind]

theorem parseLane_eq (lane : Byte) :
    parseLane [lane] =
      if h : 1 ≤ lane.toNat ∧ lane.toNat ≤ 32 then some ⟨lane.toNat - 1, by omega⟩ else none := by
  simp [parseLane, laneOf, lengthIs, field]

theorem parseBias_eq (lane bias : Byte) :
    parseBias [lane, bias] =
      if h : 1 ≤ lane.toNat ∧ lane.toNat ≤ 32 then some (⟨lane.toNat - 1, by omega⟩, min 2 bias.toNat) else none := by
  simp [parseBias, lengthIs, laneOf_map, field]

theorem laneAndReel_eq (lane reel : Byte) (l : List Byte) :
    laneAndReel (lane :: reel :: l) =
      if h : 1 ≤ lane.toNat ∧ lane.toNat ≤ 32 then
        if 1 ≤ reel.toNat ∧ reel.toNat ≤ 24 then some (⟨lane.toNat - 1, by omega⟩, reel.toNat) else none
      else none := by
  rw [← guards_swap]
  simp [laneAndReel, laneOf_map, field]

theorem parseFetch_eq (lane reel : Byte) :
    parseFetch [lane, reel] =
      if h : 1 ≤ lane.toNat ∧ lane.toNat ≤ 32 then
        if 1 ≤ reel.toNat ∧ reel.toNat ≤ 24 then some (⟨lane.toNat - 1, by omega⟩, reel.toNat) else none
      else none := by
  simp [parseFetch, lengthIs, laneAndReel_eq]

theorem parseBegin_eq (lane reel presence : Byte) {t : Nat} (ht : t < 2 ^ 32) :
    parseBegin ([lane, reel, presence] ++ beBytes 4 t) =
      if h : 1 ≤ lane.toNat ∧ lane.toNat ≤ 32 then
        if 1 ≤ reel.toNat ∧ reel.toNat ≤ 24 ∧ presence.toNat < 2 then
          some
            { lane := ⟨lane.toNat - 1, by omega⟩, reel := reel.toNat
              nextNeeded := if presence.getLsbD 0 then some t else none }
        else none
      else none := by
  by_cases lane_ok : 1 ≤ lane.toNat ∧ lane.toNat ≤ 32
  · by_cases reel_ok : 1 ≤ reel.toNat ∧ reel.toNat ≤ 24
    · simp [parseBegin, lengthIs, presenceWithin, optionalField, field, beNat_four ht, laneAndReel_eq, lane_ok, reel_ok]
    · have refused : ¬(1 ≤ reel.toNat ∧ reel.toNat ≤ 24 ∧ presence.toNat < 2) := fun h => reel_ok ⟨h.1, h.2.1⟩
      rw [dif_pos lane_ok, if_neg refused]
      simp [parseBegin, laneAndReel_eq, reel_ok]
  · simp [parseBegin, laneAndReel_eq, lane_ok]

theorem parseAmend_eq (lane presence total : Byte) {e : Nat} (he : e < 2 ^ 32) :
    parseAmend ([lane, presence] ++ beBytes 4 e ++ [total]) =
      if h : 1 ≤ lane.toNat ∧ lane.toNat ≤ 32 then
        if 1 ≤ presence.toNat ∧ presence.toNat < 4 then
          some
            (⟨lane.toNat - 1, by omega⟩,
              { plannedEnd := if presence.getLsbD 0 then some e else none
                repeatTotal := if presence.getLsbD 1 then some (max 1 (min 8 total.toNat)) else none })
        else none
      else none := by
  rw [← guards_swap]
  simp [parseAmend, one_le_toNat, clampTo_eq, lengthIs, laneOf_map, field, presenceWithin, optionalField,
    fieldBytes_behind, beNat_four he, and_comm (b := presence.toNat < 4)]

theorem parseReport_eq (lane presence start : Byte) :
    parseReport [lane, presence, start] =
      if h : 1 ≤ lane.toNat ∧ lane.toNat ≤ 32 then
        if presence.toNat < 2 then
          some (⟨lane.toNat - 1, by omega⟩, if presence.getLsbD 0 then some start.toNat else none)
        else none
      else none := by
  rw [← guards_swap]
  simp [parseReport, lengthIs, laneOf_map, field, presenceWithin, optionalField]

theorem parseBundleName_eq (selector slot : Byte) (id : Ident) :
    parseBundleName ([selector, slot] ++ beBytes 8 id.toNat) =
      if selector = 1 then
        if h : slot.toNat < 64 then some (.bySlot ⟨slot.toNat, h⟩) else none
      else if selector = 2 then some (.byId id)
      else none := by
  obtain rfl | rfl | ⟨not1, not2, n1, n2⟩ := byte_code_cases selector
  · simp [parseBundleName, lengthIs, field, slotOf]
  · simp [parseBundleName, lengthIs, field, fieldBits]
  · have other : field ([selector, slot] ++ beBytes 8 id.toNat) 0 1 = selector.toNat := by simp [field]
    unfold parseBundleName
    rw [other, if_neg not1, if_neg not2]
    split <;> simp_all

theorem parseListStart_eq (slot : Byte) :
    parseListStart [] = some none ∧
      parseListStart [slot] = if h : slot.toNat < 64 then some (some ⟨slot.toNat, h⟩) else none := by
  simp [parseListStart, lengthIs, field, slotOf]

theorem parseBundleId_eq (id : Ident) : parseBundleId (beBytes 8 id.toNat) = some id := by
  simp [parseBundleId, lengthIs, fieldBits, field]

theorem parseHold_eq (hold : Byte) : parseHold [hold] = some (decide (hold ≠ 0)) := by
  simp [parseHold, lengthIs, flagAt, field]

/-- The kinds byte of a subject names no kind but its own (R157). -/
theorem le_subjectKinds (subject : SubjectNo) (n : Nat) :
    n ≤ (subjectKinds subject).toNat ↔ n < if subject.val < 2 then 4 else 32 := by
  unfold subjectKinds
  split
  · exact Nat.lt_succ_iff.symm
  · exact Nat.lt_succ_iff.symm

theorem parseDismiss_eq (presence subject kinds : Byte) :
    parseDismiss [presence, subject, kinds] =
      if h : subject.toNat < 98 then
        if 2 ≤ presence.toNat then none
        else if presence = 0 then some (⟨subject.toNat, h⟩, none)
        else if kinds.toNat < (if subject.toNat < 2 then 4 else 32) then
          some (⟨subject.toNat, h⟩, some (kinds.setWidth 5))
        else none
      else none := by
  have listed : presence = 0 ∨ presence = 1 ∨ 2 ≤ presence.toNat := by
    rw [BitVec.toNat_eq, BitVec.toNat_eq]
    change presence.toNat = 0 ∨ presence.toNat = 1 ∨ _
    omega
  by_cases numbered : subject.toNat < 98
  · obtain rfl | rfl | outside := listed
    · simp [parseDismiss, lengthIs, presenceWithin, field, subjectOf, numbered]
    · simp [parseDismiss, lengthIs, presenceWithin, field, subjectOf, numbered, le_subjectKinds]
    · have within : presenceWithin [presence, subject, kinds] 0 1 = false := by
        simpa [presenceWithin, field] using Nat.lt_of_succ_le outside
      simp [parseDismiss, within, numbered, outside]
  · simp [parseDismiss, lengthIs, presenceWithin, field, subjectOf, numbered]

theorem parseOrder_eq (kind mode : Byte) (id : Ident) {expires : Nat} {tag : List Byte} (hexpires : expires < 2 ^ 32)
    (htag : tag.length = 32) :
    parseOrder ([kind] ++ beBytes 8 id.toNat ++ [mode] ++ beBytes 4 expires ++ tag) =
      if (kind = 1 ∨ kind = 2) ∧ (mode = 1 ∨ mode = 2) then
        some
          { kind := if kind = 1 then .bundle else .feature, target := id
            mode := if mode = 1 then .immediate else .afterScreening, expires
            covered := [kind] ++ beBytes 8 id.toNat ++ [mode] ++ beBytes 4 expires }
      else none := by
  have read (target : TargetKind) (revocationMode : RevocationMode) (hkind : targetOf kind.toNat = some target)
      (hmode : modeOf mode.toNat = some revocationMode) :
      parseOrder ([kind] ++ beBytes 8 id.toNat ++ [mode] ++ beBytes 4 expires ++ tag) =
        some
          { kind := target, target := id, mode := revocationMode, expires
            covered := [kind] ++ beBytes 8 id.toNat ++ [mode] ++ beBytes 4 expires } := by
    simp [parseOrder, lengthIs, htag, field, fieldBits, fieldBytes_behind, beNat_four hexpires, List.take_append,
      List.take_of_length_le, hkind, hmode]
  by_cases known : (kind = 1 ∨ kind = 2) ∧ (mode = 1 ∨ mode = 2)
  · rw [if_pos known]
    obtain ⟨rfl | rfl, rfl | rfl⟩ := known <;> exact read _ _ rfl rfl
  · rw [if_neg known]
    have kind_at : field ([kind] ++ beBytes 8 id.toNat ++ [mode] ++ beBytes 4 expires ++ tag) 0 1 = kind.toNat := by
      simp [field]
    have mode_at : field ([kind] ++ beBytes 8 id.toNat ++ [mode] ++ beBytes 4 expires ++ tag) 9 1 = mode.toNat := by
      simp [field, fieldBytes_behind]
    unfold parseOrder
    rw [kind_at, mode_at]
    rcases not_and_or.1 known with outside | outside <;> obtain ⟨not1, not2⟩ := not_or.1 outside
    · have unnamed : targetOf kind.toNat = none := by rw [targetOf_toNat, if_neg not1, if_neg not2]
      simp only [unnamed, ite_self]
    · have unnamed : modeOf mode.toNat = none := by rw [modeOf_toNat, if_neg not1, if_neg not2]
      cases targetOf kind.toNat <;> simp only [unnamed, ite_self]

theorem parseShape_eq (shape use input left right : Byte) {c l r : Nat} (hc : c < 2 ^ 32) (hl : l < 2 ^ 32)
    (hr : r < 2 ^ 32) :
    parseShape ([shape, use, input] ++ beBytes 4 c ++ beBytes 4 l ++ beBytes 4 r ++ [left, right]) =
      if h : shape.toNat < 8 then
        if input = 1 ∨ input = 2 then
          some
            (⟨shape.toNat, h⟩,
              { inUse := decide (use ≠ 0), input := if input = 1 then .x1 else .x2, centre := min c 65535
                leftSpread := min l 65535, rightSpread := min r 65535
                leftShoulder := decide (left ≠ 0), rightShoulder := decide (right ≠ 0) })
        else none
      else none := by
  by_cases numbered : shape.toNat < 8
  · obtain rfl | rfl | ⟨not1, not2, -, -⟩ := byte_code_cases input
    · simp [parseShape, lengthIs, field, flagAt, fieldBytes_behind, beNat_four hc, beNat_four hl, beNat_four hr,
        inputOf, tableOf, numbered, Config.shapeMax, min_comm]
    · simp [parseShape, lengthIs, field, flagAt, fieldBytes_behind, beNat_four hc, beNat_four hl, beNat_four hr,
        inputOf, tableOf, numbered, Config.shapeMax, min_comm]
    · have unnamed : inputOf input.toNat = none := by rw [inputOf_toNat, if_neg not1, if_neg not2]
      rw [dif_pos numbered, if_neg (not_or.2 ⟨not1, not2⟩)]
      simp [parseShape, field, unnamed]
  · simp [parseShape, field, tableOf, numbered]

theorem parseSecond_eq (term use a negateA present b negateB combinator : Byte) (l : List Byte) :
    parseSecond (term :: use :: a :: negateA :: present :: b :: negateB :: combinator :: l) =
      if present = 0 then some none
      else if h : b.toNat < 8 then
        if combinator = 1 then some (some ({ shape := ⟨b.toNat, h⟩, negate := decide (negateB ≠ 0) }, .and))
        else if combinator = 2 then some (some ({ shape := ⟨b.toNat, h⟩, negate := decide (negateB ≠ 0) }, .or))
        else none
      else none := by
  by_cases absent : present = 0#8
  · simp [parseSecond, flagAt, field, absent]
  · by_cases numbered : b.toNat < 8
    · obtain rfl | rfl | ⟨not1, not2, -, -⟩ := byte_code_cases combinator
      · simp [parseSecond, flagAt, field, tableOf, combinatorOf, absent, numbered]
      · simp [parseSecond, flagAt, field, tableOf, combinatorOf, absent, numbered]
      · have unnamed : combinatorOf combinator.toNat = none := by rw [combinatorOf_toNat, if_neg not1, if_neg not2]
        rw [if_neg (show ¬present = 0 from absent), dif_pos numbered, if_neg not1, if_neg not2]
        simp [parseSecond, flagAt, field, absent, unnamed]
    · simp [parseSecond, flagAt, field, tableOf, absent, numbered]

theorem parseTerm_eq (term use a negateA present b negateB combinator : Byte) {m : Nat} (hm : m < 2 ^ 32) :
    parseTerm ([term, use, a, negateA, present, b, negateB, combinator] ++ beBytes 4 m) =
      if h : term.toNat < 8 then
        if h' : a.toNat < 8 then
          let made := fun second : Option (Antecedent × Combinator) =>
            some
              ((⟨term.toNat, h⟩ : TableNo),
                ({ inUse := decide (use ≠ 0), a := { shape := ⟨a.toNat, h'⟩, negate := decide (negateA ≠ 0) }
                   b := second, proposed := min m 3600 } : Term))
          if present = 0 then made none
          else if h'' : b.toNat < 8 then
            if combinator = 1 then made (some ({ shape := ⟨b.toNat, h''⟩, negate := decide (negateB ≠ 0) }, .and))
            else if combinator = 2 then made (some ({ shape := ⟨b.toNat, h''⟩, negate := decide (negateB ≠ 0) }, .or))
            else none
          else none
        else none
      else none := by
  by_cases numbered : term.toNat < 8
  · by_cases numberedA : a.toNat < 8
    · have read (second : Option (Option (Antecedent × Combinator)))
          (h : parseSecond ([term, use, a, negateA, present, b, negateB, combinator] ++ beBytes 4 m) = second) :
          parseTerm ([term, use, a, negateA, present, b, negateB, combinator] ++ beBytes 4 m) =
            second.map fun b =>
              ((⟨term.toNat, numbered⟩ : TableNo),
                ({ inUse := decide (use ≠ 0), a := { shape := ⟨a.toNat, numberedA⟩, negate := decide (negateA ≠ 0) }
                   b, proposed := min m 3600 } : Term)) := by
        unfold parseTerm
        rw [h]
        cases second <;>
          simp [lengthIs, field, flagAt, beNat_four hm, tableOf, numbered, numberedA, Config.marginMax, min_comm]
      rw [read _ (parseSecond_eq ..), dif_pos numbered, dif_pos numberedA]
      split
      · rfl
      · split
        · split
          · rfl
          · split <;> rfl
        · rfl
    · simp [parseTerm, field, tableOf, numbered, numberedA]
  · simp [parseTerm, field, tableOf, numbered]

theorem parseProvision_eq (slot : StoreSlot) {v : Nat} (hv : v < 256 ^ slot.width) :
    parseProvision (slot.code :: beBytes slot.width v) = some (slot, v) := by
  have coded : StoreSlot.ofCode slot.code.toNat = some slot := by cases slot <;> rfl
  simp [parseProvision, lengthIs, field, coded, beNat_beBytes, Nat.mod_eq_of_lt hv, Nat.add_comm]

theorem parseProvision_unknown {code : Byte} (value : List Byte) (h : code = 0 ∨ 6 < code.toNat) :
    parseProvision (code :: value) = none := by
  have uncoded : StoreSlot.ofCode code.toNat = none := by
    obtain rfl | above := h
    · rfl
    · unfold StoreSlot.ofCode
      split <;> simp_all
  simp [parseProvision, field, uncoded]

theorem parseProvision_length (slot : StoreSlot) {value : List Byte} (h : value.length ≠ slot.width) :
    parseProvision (slot.code :: value) = none := by
  have coded : StoreSlot.ofCode slot.code.toNat = some slot := by cases slot <;> rfl
  simp [parseProvision, lengthIs, field, coded, Nat.add_comm, h]

/-! ### Deliveries (R43) -/

/-- The bytes of wrapped reel keys, one after the other. -/
def reelKeyBytes (keys : List WrappedReelKey) : List Byte := keys.flatMap fun key => beBytes 40 key.toNat

@[simp] theorem reelKeyBytes_length (keys : List WrappedReelKey) : (reelKeyBytes keys).length = 40 * keys.length := by
  simp [reelKeyBytes, List.length_flatMap, Nat.mul_comm]

/-- The wrapped reel keys are read one after the other. -/
theorem fieldBits_reelKeys (keys : List WrappedReelKey) (l : List Byte) :
    ((List.range keys.length).map fun i => fieldBits (reelKeyBytes keys ++ l) (40 * i) 40) = keys := by
  induction keys with
  | nil => rfl
  | cons key rest ih =>
    have next (i : Nat) : fieldBits (reelKeyBytes (key :: rest) ++ l) (40 * (i + 1)) 40 =
        fieldBits (reelKeyBytes rest ++ l) (40 * i) 40 := by
      have split : reelKeyBytes (key :: rest) ++ l = beBytes 40 key.toNat ++ (reelKeyBytes rest ++ l) := by
        simp [reelKeyBytes]
      have later : 40 * (i + 1) - 40 = 40 * i := by omega
      rw [split, fieldBits, field, fieldBytes_behind (by rw [beBytes_length]; omega), beBytes_length,
        later]
      rfl
    rw [List.length_cons, List.range_succ_eq_map, List.map_cons, List.map_map]
    refine congrArg₂ List.cons ?_ ((List.map_congr_left fun i _ => next i).trans ih)
    simp [reelKeyBytes, fieldBits, field]

theorem cleanScreens_eq (numbers : List Byte) :
    cleanScreens numbers =
      if numbers = [] then some .all
      else
        if ((List.finRange 32).filter fun l : LaneNo => decide (BitVec.ofNat 8 (l.val + 1) ∈ numbers)) = [] then none
        else
          some (.only ((List.finRange 32).filter fun l : LaneNo => decide (BitVec.ofNat 8 (l.val + 1) ∈ numbers))) := by
  have named (l : LaneNo) :
      (numbers.any fun b => b.toNat == laneNumber l) = decide (BitVec.ofNat 8 (l.val + 1) ∈ numbers) := by
    have same (b : Byte) : b.toNat = laneNumber l ↔ b = BitVec.ofNat 8 (l.val + 1) := by
      have := l.isLt
      rw [BitVec.toNat_eq, BitVec.toNat_ofNat, laneNumber, Nat.mod_eq_of_lt (by omega)]
    rw [Bool.eq_iff_iff]
    simp [same]
  unfold cleanScreens
  simp only [named]

theorem parseDelivery_eq (bundleId featureId : Ident) {nb na grace : Nat} (allowance : Byte) {screens : List Byte}
    {keys : List WrappedReelKey} {tag : List Byte} (hnb : nb < 2 ^ 32) (hna : na < 2 ^ 32) (hgrace : grace < 2 ^ 16)
    (hscreens : screens.length < 256) (hkeys : keys.length < 256) (htag : tag.length = 32) :
    let covered :=
      beBytes 8 bundleId.toNat ++ beBytes 8 featureId.toNat ++ beBytes 4 nb ++ beBytes 4 na ++ beBytes 2 grace ++
        [allowance, BitVec.ofNat 8 screens.length] ++ screens ++ [BitVec.ofNat 8 keys.length] ++
        keys.flatMap fun key => beBytes 40 key.toNat
    let kept := (List.finRange 32).filter fun l : LaneNo => decide (BitVec.ofNat 8 (l.val + 1) ∈ screens)
    parseDelivery (covered ++ tag) =
      if 32 < screens.length ∨ keys = [] ∨ 24 < keys.length ∨ na ≤ nb ∨ screens ≠ [] ∧ kept = [] then none
      else
        some
          { bundleId, featureId, notBefore := nb, notAfter := na, grace := min grace 14400
            allowance := max 1 (min 32 allowance.toNat)
            screens := if screens = [] then .all else .only kept
            reelCount := keys.length, wrappedKeys := keys, covered } := by
  intro covered kept
  generalize body_eq : covered ++ tag = body
  have laid_out : body =
      beBytes 8 bundleId.toNat ++ (beBytes 8 featureId.toNat ++ (beBytes 4 nb ++ (beBytes 4 na ++ (beBytes 2 grace ++
        allowance :: BitVec.ofNat 8 screens.length :: (screens ++ BitVec.ofNat 8 keys.length ::
          (reelKeyBytes keys ++ tag)))))) := by
    simp [← body_eq, covered, reelKeyBytes]
  have counted : field body 27 1 = screens.length := by
    simp [laid_out, field, fieldBytes_behind, Nat.mod_eq_of_lt hscreens]
  have behind (offset width : Nat) : fieldBytes body (28 + screens.length + offset) width =
      fieldBytes (BitVec.ofNat 8 keys.length :: (reelKeyBytes keys ++ tag)) offset width := by
    have front : body =
        (beBytes 8 bundleId.toNat ++ beBytes 8 featureId.toNat ++ beBytes 4 nb ++ beBytes 4 na ++ beBytes 2 grace ++
          [allowance, BitVec.ofNat 8 screens.length] ++ screens) ++
          (BitVec.ofNat 8 keys.length :: (reelKeyBytes keys ++ tag)) := by
      simp [laid_out]
    have length : (beBytes 8 bundleId.toNat ++ beBytes 8 featureId.toNat ++ beBytes 4 nb ++ beBytes 4 na ++
        beBytes 2 grace ++ [allowance, BitVec.ofNat 8 screens.length] ++ screens).length = 28 + screens.length := by
      simp
      omega
    rw [front, fieldBytes_behind (by omega), length, Nat.add_sub_cancel_left]
  have reels : field body (28 + screens.length) 1 = keys.length := by
    rw [field, ← Nat.add_zero (28 + _), behind]
    simp [Nat.mod_eq_of_lt hkeys]
  have starts : field body 16 4 = nb := by simp [laid_out, field, fieldBytes_behind, beNat_four hnb]
  have ends : field body 20 4 = na := by simp [laid_out, field, fieldBytes_behind, beNat_four hna]
  have graced : field body 24 2 = grace := by simp [laid_out, field, fieldBytes_behind, beNat_two hgrace]
  have allowed : field body 26 1 = allowance.toNat := by simp [laid_out, field, fieldBytes_behind]
  have bundle : fieldBits body 0 8 = bundleId := by simp [laid_out, fieldBits, field]
  have feature : fieldBits body 8 8 = featureId := by simp [laid_out, fieldBits, field, fieldBytes_behind]
  have listed : fieldBytes body 28 screens.length = screens := by
    simp [laid_out, fieldBytes_behind, fieldBytes_first]
  have wrapped : ((List.range keys.length).map fun i => fieldBits body (29 + screens.length + 40 * i) 40) = keys := by
    refine Eq.trans (List.map_congr_left fun i _ => ?_) (fieldBits_reelKeys keys tag)
    have place : 29 + screens.length + 40 * i = 28 + screens.length + (40 * i + 1) := by omega
    rw [place, fieldBits, field, behind, fieldBytes_cons_succ]
    rfl
  have length : body.length = 61 + screens.length + 40 * keys.length := by
    simp [laid_out, htag]
    omega
  have taken : body.take (body.length - 32) = covered := by
    rw [← body_eq, List.length_append, htag, Nat.add_sub_cancel, List.take_left]
  unfold parseDelivery
  simp only [counted, reels, starts, ends, graced, allowed, bundle, feature, listed, wrapped, taken, cleanScreens_eq]
  have graceMax : min Config.graceMax grace = min grace 14400 := min_comm ..
  have clamped : clampTo 1 32 allowance.toNat = max 1 (min 32 allowance.toNat) := clampTo_eq (by decide) _
  rw [graceMax, clamped]
  by_cases refused : 32 < screens.length ∨ keys = [] ∨ 24 < keys.length ∨ na ≤ nb
  · have refused' : ¬(screens.length ≤ 32 ∧ 1 ≤ keys.length ∧ keys.length ≤ 24 ∧ nb < na) := by
      rw [← List.length_eq_zero_iff] at refused
      omega
    rw [if_neg (mt And.right refused'), if_pos (by tauto)]
  · have room : 1 ≤ keys.length := List.length_pos_iff.2 (by tauto)
    rw [if_pos ⟨length, by omega⟩]
    by_cases all : screens = []
    · rw [if_pos all, if_pos all, if_neg (by tauto)]
    · rw [if_neg all, if_neg all]
      by_cases none : kept = []
      · rw [if_pos none, if_pos (by tauto)]
      · rw [if_neg none, if_neg (by tauto)]

/-- A one-byte field, read as 0 behind the body's end. -/
theorem field_one (body : List Byte) (offset : Nat) : field body offset 1 = (body.getD offset 0).toNat := by
  rw [field, fieldBytes, List.getD_eq_getElem?_getD, ← List.head?_drop]
  cases body.drop offset with
  | nil => rfl
  | cons b rest => simp

theorem parseDelivery_length {body : List Byte}
    (h : body.length ≠
      61 + (body.getD 27 0).toNat + 40 * (body.getD (28 + (body.getD 27 0).toNat) 0).toNat) :
    parseDelivery body = none := by
  unfold parseDelivery
  simp only [field_one]
  exact if_neg (mt And.left h)

/-! ### Bodies of another length -/

theorem lengthIs_of_ne {body : List Byte} {n : Nat} (h : body.length ≠ n) : lengthIs body n = false := by
  simp [lengthIs, h]

theorem parseProvision_nil : parseProvision [] = none := rfl

/-- Settles O60, one body after the other. -/
theorem bodiesAreReadAsLaidOut : Obligations.BodiesAreReadAsLaidOut := by
  refine ⟨fun n _ => ?_, fun n _ => ?_, fun width n => ⟨beBytes_length .., beNat_beBytes ..⟩,
    fun T tag => parseClaim_eq, fun body h => ?_, fun kind mode id expires tag hexpires htag => ?_,
    fun bundleId featureId nb na grace allowance screens keys tag => parseDelivery_eq bundleId featureId allowance,
    fun body => parseDelivery_length,
    fun shape use input left right c l r => parseShape_eq shape use input left right,
    fun term use a negateA present b negateB combinator m =>
      parseTerm_eq term use a negateA present b negateB combinator,
    fun presence v w x y => parseParameters_eq presence,
    fun lane presence reel total feature bundle e => parseOpen_eq lane presence reel total feature bundle,
    parseBind_eq, parseLane_eq, parseBias_eq, parseFetch_eq,
    fun lane reel presence t => parseBegin_eq lane reel presence,
    fun lane presence total e => parseAmend_eq lane presence total, parseReport_eq, parseBundleName_eq,
    parseListStart_eq,
    parseBundleId_eq, parseDismiss_eq, parseHold_eq, fun slot v => parseProvision_eq slot,
    fun code value => parseProvision_unknown value, fun slot value => parseProvision_length slot,
    fun body => ?_⟩
  · simp [beBytes]
  · simp [beBytes]
  · simp [parseClaim, lengthIs_of_ne h]
  · have read := parseOrder_eq kind mode id hexpires htag
    exact ⟨fun ok => read.trans (if_pos ok), fun bad => read.trans (if_neg bad)⟩
  · refine ⟨fun h => ?_, fun h => ?_, fun h => ?_, fun h => ?_, fun h => ?_, fun h => ?_, fun h => ⟨?_, ?_⟩,
      fun h => ⟨?_, ?_⟩, fun h => ⟨?_, ?_⟩, fun h => ⟨?_, ?_⟩, fun h => ?_, fun h => ?_, fun h => ?_, fun h => ?_⟩
    · simp [parseOrder, lengthIs_of_ne h]
    · simp [parseShape, lengthIs_of_ne h]
    · simp [parseTerm, lengthIs_of_ne h]
    · simp [parseParameters, lengthIs_of_ne h]
    · simp [parseOpen, lengthIs_of_ne h]
    · simp [parseBind, lengthIs_of_ne h]
    · simp [parseLane, lengthIs_of_ne h]
    · simp [parseHold, lengthIs_of_ne h]
    · simp [parseBias, lengthIs_of_ne h]
    · simp [parseFetch, lengthIs_of_ne h]
    · simp [parseBegin, lengthIs_of_ne h]
    · simp [parseAmend, lengthIs_of_ne h]
    · simp [parseReport, lengthIs_of_ne h]
    · simp [parseDismiss, lengthIs_of_ne h]
    · simp [parseBundleName, lengthIs_of_ne h]
    · have filled : body ≠ [] := List.length_pos_iff.1 (by omega)
      simp [parseListStart, filled, lengthIs_of_ne (Nat.ne_of_gt h)]
    · simp [parseBundleId, lengthIs_of_ne h]
    · exact h ▸ parseProvision_nil

end Sys2Proof.Machine

/-! ## Grades, weights and the margin of an evaluation (O22, O23, O24) -/

namespace Sys2Proof.Machine

/-! ### Grades (R24) -/

/-- The grade of a shape at the distance `d` from its centre, on the side with this spread and shoulder (R24). -/
def sideGrade (shoulder : Bool) (spread d : Nat) : Nat :=
  if shoulder then 255 else if spread = 0 ∨ spread ≤ d then 0 else 255 * (spread - d) / spread

theorem gradeAt_centre {s : Shape} {x : Nat} (h : x = s.centre) : s.gradeAt x = 255 := if_pos h

theorem gradeAt_left {s : Shape} {x : Nat} (h : x < s.centre) :
    s.gradeAt x = sideGrade s.leftShoulder s.leftSpread (s.centre - x) := by
  unfold Shape.gradeAt
  rw [if_neg (Nat.ne_of_lt h), if_pos h]
  rfl

theorem gradeAt_right {s : Shape} {x : Nat} (h : s.centre < x) :
    s.gradeAt x = sideGrade s.rightShoulder s.rightSpread (x - s.centre) := by
  unfold Shape.gradeAt
  rw [if_neg (Nat.ne_of_gt h), if_neg (Nat.not_lt_of_gt h)]
  rfl

/-- Off the centre a slope is below 255. -/
theorem sideGrade_slope_lt {spread d : Nat} (h : 0 < d) : sideGrade false spread d < 255 := by
  unfold sideGrade
  rw [if_neg Bool.false_ne_true]
  split
  · decide
  · rw [Nat.div_lt_iff_lt_mul (by omega)]
    omega

theorem sideGrade_le (shoulder : Bool) {spread d : Nat} (h : 0 < d) : sideGrade shoulder spread d ≤ 255 := by
  cases shoulder
  · exact (sideGrade_slope_lt h).le
  · exact le_refl _

/-- One step off, a slope is 255 × (spread − 1) / spread. -/
theorem sideGrade_slope_one {spread : Nat} (h : 0 < spread) :
    sideGrade false spread 1 = 255 * (spread - 1) / spread := by
  unfold sideGrade
  rw [if_neg Bool.false_ne_true]
  split
  · rw [show spread = 1 by omega]
  · rfl

/-- One step off, a slope is 254 exactly on a spread of at least 255. -/
theorem sideGrade_slope_one_eq_iff {spread : Nat} (h : 0 < spread) :
    255 ≤ spread ↔ sideGrade false spread 1 = 254 := by
  have below := sideGrade_slope_lt (spread := spread) (d := 1) (by decide)
  have reaches : 254 ≤ 255 * (spread - 1) / spread ↔ 254 * spread ≤ 255 * (spread - 1) := Nat.le_div_iff_mul_le h
  rw [sideGrade_slope_one h] at below ⊢
  omega

/-- A slope is 0 where 255 × the remaining distance is less than the spread. -/
theorem sideGrade_slope_eq_zero {spread d : Nat} (h : 255 * (spread - d) < spread) : sideGrade false spread d = 0 := by
  unfold sideGrade
  rw [if_neg Bool.false_ne_true]
  split
  · rfl
  · exact Nat.div_eq_of_lt h

/-- A slope is 0 at exactly a spread's length from the centre. -/
theorem sideGrade_slope_at_spread (spread : Nat) : sideGrade false spread spread = 0 := by simp [sideGrade]

theorem gradeAt_le (s : Shape) (x : Nat) : s.gradeAt x ≤ 255 := by
  obtain left | centre | right := lt_trichotomy x s.centre
  · rw [gradeAt_left left]
    exact sideGrade_le _ (by omega)
  · rw [gradeAt_centre centre]
  · rw [gradeAt_right right]
    exact sideGrade_le _ (by omega)

theorem grade_of_unused {s : Shape} (h : s.inUse = false) (x1 x2 : Nat) : s.grade x1 x2 = 0 := by simp [Shape.grade, h]

theorem grade_of_used {s : Shape} (h : s.inUse = true) (x1 x2 : Nat) :
    s.grade x1 x2 = s.gradeAt (match s.input with | .x1 => x1 | .x2 => x2) :=
  (if_pos h).trans (by cases s.input <;> rfl)

theorem grade_le (s : Shape) (x1 x2 : Nat) : s.grade x1 x2 ≤ 255 := by
  cases used : s.inUse
  · rw [grade_of_unused used]
    exact Nat.zero_le _
  · rw [grade_of_used used]
    exact gradeAt_le ..

section
variable {shapes : Vector Shape 8} {terms : Vector Term 8} {p : SiteParameters} {x1 x2 : Nat} {cause : EvalCause}
  {now : Nat} {e : Evaluation} (h : e = evaluation shapes terms p x1 x2 cause now)

include h

theorem weightSum_of_evaluation : e.weightSum = sumTable fun i => e.weights[i] := by rw [h]; rfl

theorem productSum_of_evaluation : e.productSum = sumTable fun i => e.weights[i] * terms[i].proposed := by rw [h]; rfl

theorem usedNoOpinion_of_evaluation : e.usedNoOpinion = decide (e.weightSum = 0) := by rw [h]; rfl

theorem rawMargin_of_evaluation :
    e.rawMargin = if e.weightSum = 0 then p.noOpinion else e.productSum / e.weightSum := by rw [h]; rfl

theorem margin_of_evaluation : e.margin = clampMargin p.marginFloor e.rawMargin := by rw [h]; rfl

end

section
variable (shapes : Vector Shape 8) (terms : Vector Term 8) (p : SiteParameters) (x1 x2 : Nat) (cause : EvalCause)
  (now : Nat) (i : TableNo)

theorem evaluation_grades : (evaluation shapes terms p x1 x2 cause now).grades[i] = shapes[i].grade x1 x2 :=
  tabulate_get _ i

/-- Every term of an evaluation sees the grades of that evaluation (R28). -/
theorem evaluation_weights :
    (evaluation shapes terms p x1 x2 cause now).weights[i] =
      terms[i].weight shapes (evaluation shapes terms p x1 x2 cause now).grades :=
  tabulate_get _ i

theorem evaluation_grades_le : (evaluation shapes terms p x1 x2 cause now).grades[i] ≤ 255 := by
  rw [evaluation_grades]
  exact grade_le ..

end

/-- Settles O22: the three cases of where `x` lies, a side's grade said once for both sides. -/
theorem gradeOfAShape : Obligations.GradeOfAShape := by
  refine ⟨fun shapes terms p x1 x2 cause now => ⟨rfl, rfl, rfl, rfl, fun i => ?_⟩, fun s x _ hl hr _ => ?_⟩
  · rw [evaluation_grades]
    exact ⟨fun unused => grade_of_unused unused .., fun used input => by rw [grade_of_used used, input],
      fun used input => by rw [grade_of_used used, input]⟩
  refine ⟨gradeAt_le s x, ?_, by omega, by omega, fun left slope => ?_, fun right slope => ?_,
    fun next slope wide => ?_, fun next slope wide => ?_, fun left slope far => ?_, fun right slope far => ?_,
    fun left slope far => ?_, fun right slope far => ?_⟩
  · obtain left | rfl | right := lt_trichotomy x s.centre
    · rw [gradeAt_left left]
      simp only [sideGrade, left, left.ne, true_and, if_true, if_false, ge_iff_le]
    · rw [gradeAt_centre rfl, if_pos rfl]
    · rw [gradeAt_right right]
      simp only [sideGrade, right.not_gt, right.ne', false_and, if_false, ge_iff_le]
  · rw [gradeAt_left left, slope]
    exact (sideGrade_slope_lt (by omega)).ne
  · rw [gradeAt_right right, slope]
    exact (sideGrade_slope_lt (by omega)).ne
  · rw [gradeAt_left (by omega), slope, show s.centre - x = 1 by omega]
    exact ⟨sideGrade_slope_one wide, sideGrade_slope_one_eq_iff wide⟩
  · rw [gradeAt_right (by omega), slope, show x - s.centre = 1 by omega]
    exact ⟨sideGrade_slope_one wide, sideGrade_slope_one_eq_iff wide⟩
  · rw [gradeAt_left left, slope, sideGrade_slope_eq_zero far]
  · rw [gradeAt_right right, slope, sideGrade_slope_eq_zero far]
  · rw [gradeAt_left left, slope, far, sideGrade_slope_at_spread]
  · rw [gradeAt_right right, slope, far, sideGrade_slope_at_spread]

/-! ### Weights (R26) -/

theorem antecedent_value_le (a : Antecedent) {grades : Vector Nat 8} (h : ∀ i : TableNo, grades[i] ≤ 255) :
    a.value grades ≤ 255 := by
  unfold Antecedent.value
  split
  · exact Nat.sub_le ..
  · exact h _

/-- The same shape negated against itself: the two values make 255. -/
theorem antecedent_value_add {a b : Antecedent} (shape : b.shape = a.shape) (negate : b.negate = !a.negate)
    {grades : Vector Nat 8} (h : ∀ i : TableNo, grades[i] ≤ 255) : a.value grades + b.value grades = 255 := by
  obtain ⟨_, _⟩ := b
  subst shape negate
  have grade := h a.shape
  unfold Antecedent.value
  cases a.negate
  · exact Nat.add_sub_cancel' grade
  · exact Nat.sub_add_cancel grade

section
variable {t : Term} {shapes : Vector Shape 8} {grades : Vector Nat 8}

theorem weight_of_unused (h : t.inUse = false) : t.weight shapes grades = 0 := by simp [Term.weight, h]

theorem weight_of_unused_shape
    (h : shapes[t.a.shape].inUse = false ∨ ∃ b c, t.b = some (b, c) ∧ shapes[b.shape].inUse = false) :
    t.weight shapes grades = 0 := by
  obtain a | ⟨b, c, present, unused⟩ := h
  · simp only [Term.weight, a, if_true, ite_self]
  · simp only [Term.weight, present, unused, if_true, ite_self]

theorem weight_of_single (used : t.inUse = true) (a : shapes[t.a.shape].inUse = true) (b : t.b = none) :
    t.weight shapes grades = t.a.value grades := by
  simp only [Term.weight, used, a, b, Bool.true_eq_false, if_false]

theorem weight_of_pair (used : t.inUse = true) (a : shapes[t.a.shape].inUse = true) {b : Antecedent} {c : Combinator}
    (second : t.b = some (b, c)) (inUse : shapes[b.shape].inUse = true) :
    t.weight shapes grades =
      match c with
      | .and => min (t.a.value grades) (b.value grades)
      | .or => max (t.a.value grades) (b.value grades) := by
  unfold Term.weight
  rw [used, a, second]
  dsimp only
  rw [inUse]
  cases c <;> rfl

theorem weight_le (h : ∀ i : TableNo, grades[i] ≤ 255) : t.weight shapes grades ≤ 255 := by
  have value (a : Antecedent) := antecedent_value_le a h
  unfold Term.weight
  split
  · exact Nat.zero_le _
  · split
    · exact Nat.zero_le _
    · split
      · exact value _
      · split
        · exact Nat.zero_le _
        · split
          · exact (min_le_left ..).trans (value _)
          · exact max_le (value _) (value _)

end

/-- Settles O23, one case of R26 after the other. -/
theorem weightOfATerm : Obligations.WeightOfATerm := by
  refine ⟨fun t shapes grades used bounded => ?_, evaluation_weights⟩
  refine ⟨weight_le bounded, weight_of_unused_shape, fun a b => weight_of_single used a b,
    fun b a inUse second => ?_, fun b a inUse second => ?_⟩
  · have smaller := weight_of_pair (grades := grades) used a second inUse
    refine ⟨smaller, fun shape negate => ?_⟩
    have sum := antecedent_value_add shape negate bounded
    rw [smaller]
    dsimp only
    omega
  · have larger := weight_of_pair (grades := grades) used a second inUse
    refine ⟨larger, fun shape negate => ?_⟩
    have sum := antecedent_value_add shape negate bounded
    rw [larger]
    dsimp only
    omega

/-! ### The raw margin and M (R27) -/

theorem sumTable_eq_sum (f : TableNo → Nat) : sumTable f = ∑ i, f i := (Fin.sum_univ_def f).symm

theorem sumTable_le {f : TableNo → Nat} {c : Nat} (h : ∀ i, f i ≤ c) : sumTable f ≤ 8 * c := by
  rw [sumTable_eq_sum]
  simpa using Finset.sum_le_card_nsmul Finset.univ f c fun i _ => h i

/-- The entries that `p` leaves out may be left out of a sum to which they add nothing. -/
theorem sumTable_eq_filter {f : TableNo → Nat} (p : TableNo → Bool) (h : ∀ i, p i = false → f i = 0) :
    sumTable f = (((List.finRange 8).filter p).map f).sum := by
  have parts := List.sum_map_filter_add_sum_map_filter_not (fun i => p i = true) f (List.finRange 8)
  have rest : (((List.finRange 8).filter fun i => decide ¬p i = true).map f).sum = 0 := by
    refine List.sum_eq_zero fun x hx => ?_
    obtain ⟨i, hi, rfl⟩ := List.mem_map.1 hx
    exact h i (by simpa using hi)
  rw [rest] at parts
  simpa [sumTable] using parts.symm

/-- A weighted average is at least some entry of non-zero weight. -/
theorem exists_le_average {w m : TableNo → Nat} (h : 0 < sumTable w) :
    ∃ i, 0 < w i ∧ m i ≤ sumTable (fun i => w i * m i) / sumTable w := by
  by_contra none
  push Not at none
  have above : (sumTable (fun i => w i * m i) / sumTable w + 1) * sumTable w ≤ sumTable fun i => w i * m i := by
    simp only [sumTable_eq_sum, Finset.mul_sum]
    refine Finset.sum_le_sum fun i _ => ?_
    obtain zero | weighs := Nat.eq_zero_or_pos (w i)
    · simp [zero]
    · rw [Nat.mul_comm]
      refine Nat.mul_le_mul_left _ ?_
      simpa only [sumTable_eq_sum] using Nat.succ_le_of_lt (none i weighs)
  have := (Nat.le_div_iff_mul_le h).2 above
  omega

/-- A weighted average is at most some entry of non-zero weight. -/
theorem exists_average_le {w m : TableNo → Nat} (h : 0 < sumTable w) :
    ∃ i, 0 < w i ∧ sumTable (fun i => w i * m i) / sumTable w ≤ m i := by
  by_contra none
  push Not at none
  have below : sumTable (fun i => w i * m i) + sumTable w ≤
      sumTable (fun i => w i * m i) / sumTable w * sumTable w := by
    simp only [sumTable_eq_sum, Finset.mul_sum, ← Finset.sum_add_distrib]
    refine Finset.sum_le_sum fun i _ => ?_
    obtain zero | weighs := Nat.eq_zero_or_pos (w i)
    · simp [zero]
    · rw [Nat.mul_comm _ (w i), ← Nat.mul_succ]
      refine Nat.mul_le_mul_left _ ?_
      simpa only [sumTable_eq_sum] using Nat.succ_le_of_lt (none i weighs)
  have := Nat.div_mul_le_self (sumTable fun i => w i * m i) (sumTable w)
  omega

/-- The ranges of the two tables (R23, R25). -/
structure MarginUnit.TablesOk (u : MarginUnit) : Prop where
  shapes : ∀ i : TableNo, u.shapes[i].centre ≤ 65535 ∧ u.shapes[i].leftSpread ≤ 65535 ∧ u.shapes[i].rightSpread ≤ 65535
  proposed : ∀ i : TableNo, u.terms[i].proposed ≤ 3600

section
variable {u : MarginUnit} {p : SiteParameters} (tables : u.TablesOk) (ok : p.Ok) (x1 x2 : Nat) (cause : EvalCause)
  (now : Nat)

theorem evaluation_weights_le (i : TableNo) : (evaluation u.shapes u.terms p x1 x2 cause now).weights[i] ≤ 255 := by
  rw [evaluation_weights]
  exact weight_le fun j => evaluation_grades_le ..

include tables ok in
/-- No raw margin exceeds 3,600. -/
theorem evaluation_rawMargin_le : (evaluation u.shapes u.terms p x1 x2 cause now).rawMargin ≤ 3600 := by
  obtain ⟨-, -, noOpinion, -⟩ := ok
  generalize h : evaluation u.shapes u.terms p x1 x2 cause now = e
  rw [rawMargin_of_evaluation h.symm]
  split
  · exact noOpinion
  next weighs =>
    rw [weightSum_of_evaluation h.symm] at weighs
    rw [weightSum_of_evaluation h.symm, productSum_of_evaluation h.symm]
    obtain ⟨i, -, le⟩ := exists_average_le (m := fun i => u.terms[i].proposed) (Nat.pos_of_ne_zero weighs)
    exact le.trans (tables.proposed i)

include tables ok in
theorem evaluation_margin :
    let e := evaluation u.shapes u.terms p x1 x2 cause now
    e.margin = if e.rawMargin < p.marginFloor then p.marginFloor else e.rawMargin := by
  intro e
  have raw : e.rawMargin ≤ 3600 := evaluation_rawMargin_le tables ok ..
  obtain ⟨-, floor, -⟩ := ok
  rw [margin_of_evaluation (e := e) rfl, clampMargin, Config.marginMax]
  split <;> omega

end

theorem marginOk_iff (s : State) :
    MarginOk s ↔
      s.params.Ok ∧ s.margin.TablesOk ∧ s.params.marginFloor ≤ s.margin.margin ∧ s.margin.margin ≤ 3600 ∧
        s.margin.last.margin = s.margin.margin ∧
        ∀ i : TableNo, s.margin.last.grades[i] ≤ 255 ∧ s.margin.last.weights[i] ≤ 255 := by
  constructor
  · rintro ⟨params, floor, top, last, entries⟩
    refine ⟨params, ⟨fun i => ?_, fun i => ?_⟩, floor, top, last, fun i => ?_⟩
    all_goals obtain ⟨centre, left, right, proposed, grade, weight⟩ := entries i
    · exact ⟨centre, left, right⟩
    · exact proposed
    · exact ⟨grade, weight⟩
  · rintro ⟨params, tables, floor, top, last, record⟩
    refine ⟨params, floor, top, last, fun i => ?_⟩
    obtain ⟨centre, left, right⟩ := tables.shapes i
    exact ⟨centre, left, right, tables.proposed i, record i⟩

theorem SiteParameters.store_eq (p : SiteParameters) (q : ParameterRequest) :
    p.store q =
      { lateAllowance := match q.lateAllowance with | some v => min v 7200 | none => p.lateAllowance
        marginFloor := match q.marginFloor with | some v => min v 3600 | none => p.marginFloor
        noOpinion := match q.noOpinion with | some v => min v 3600 | none => p.noOpinion
        closingLead := match q.closingLead with | some v => max 60 (min v 3600) | none => p.closingLead } := by
  obtain ⟨late, floor, noOpinion, lead⟩ := q
  have clamped (v : Nat) : clampTo 60 3600 v = max 60 (min v 3600) := by rw [clampTo_eq (by decide), min_comm v]
  unfold SiteParameters.store
  congr 1
  · cases late <;> simp [min_comm]
  · cases floor <;> simp [Config.marginMax, min_comm]
  · cases noOpinion <;> simp [Config.marginMax, min_comm]
  · cases lead <;> simp [clamped]

/-- Settles O24: the sums over the terms in use are the sums over the table, and an average lies among its entries of
non-zero weight. -/
theorem rawMarginAndClamp : Obligations.RawMarginAndClamp := by
  refine ⟨fun s ok x1 x2 cause now => ?_, fun p q v => ⟨fun h => ?_, fun h => ?_⟩, rfl, rfl⟩
  · obtain ⟨params, tables, -⟩ := (marginOk_iff s).1 ok
    intro e inUse
    have unused (i : TableNo) (h : s.margin.terms[i].inUse = false) : e.weights[i] = 0 :=
      (evaluation_weights ..).trans (weight_of_unused h)
    have weight (i : TableNo) : e.weights[i] ≤ 255 := evaluation_weights_le ..
    have sum : e.weightSum = sumTable fun i => e.weights[i] := weightSum_of_evaluation rfl
    have products : e.productSum = sumTable fun i => e.weights[i] * s.margin.terms[i].proposed :=
      productSum_of_evaluation rfl
    have raw : e.rawMargin = if e.weightSum = 0 then s.params.noOpinion else e.productSum / e.weightSum :=
      rawMargin_of_evaluation rfl
    have noted : e.usedNoOpinion = decide (e.weightSum = 0) := usedNoOpinion_of_evaluation rfl
    have top : e.rawMargin ≤ 3600 := evaluation_rawMargin_le tables params ..
    have clamped : e.margin = if e.rawMargin < s.params.marginFloor then s.params.marginFloor else e.rawMargin :=
      evaluation_margin tables params ..
    clear_value e
    refine ⟨sum.trans (sumTable_eq_filter _ unused),
      products.trans (sumTable_eq_filter _ fun i h => by rw [unused i h, Nat.zero_mul]), sum ▸ sumTable_le weight, ?_,
      fun weighs => ?_, fun none => ?_, top, clamped⟩
    · rw [products]
      exact sumTable_le (c := 918000) fun i => Nat.mul_le_mul (weight i) (tables.proposed i)
    · rw [if_neg weighs.ne'] at raw
      refine ⟨noted.trans (decide_eq_false weighs.ne'), raw, ?_⟩
      rw [raw, products, sum]
      rw [sum] at weighs
      exact ⟨exists_le_average weighs, exists_average_le weighs⟩
    · exact ⟨noted.trans (decide_eq_true none), raw.trans (if_pos none)⟩
  · simp only [SiteParameters.store_eq, h]
    split <;> omega
  · simp only [SiteParameters.store_eq, h]
    split <;> omega

end Sys2Proof.Machine

/-! ## Tables and parameters set, and judged at once (O39, O41) -/

namespace Sys2Proof.Machine

/-- A state as an evaluation leaves it, a changed M told on the link (R28, R30). -/
def State.judged (s : State) (cause : EvalCause) : State :=
  { s with
    margin := { s.margin with margin := (s.evaluated cause).margin, last := s.evaluated cause }
    link :=
      { s.link with
        notices :=
          if (s.evaluated cause).margin = s.margin.margin then s.link.notices
          else withNotice .marginChanged s.link.notices } }

/-- An evaluated state with the window sweep of a changed M (R29). -/
def State.judgedAndSwept (s : State) (cause : EvalCause) : State :=
  if (s.evaluated cause).margin = s.margin.margin then s.judged cause else windowSweep (s.judged cause)

/-- An evaluation, but for the frames it hands. -/
theorem evaluateMargin_judged (cause : EvalCause) (s : State) :
    evaluateMargin cause s = { s.judged cause with link := (evaluateMargin cause s).link } ∧
      (evaluateMargin cause s).link.notices = (s.judged cause).link.notices := by
  refine ⟨?_, evaluateMargin_notices cause s⟩
  conv_lhs => rw [evaluateMargin_frame, evaluateMargin_margin]
  rfl

/-- An evaluation with the sweep of a changed M reads nothing of the link but its notices. -/
theorem evaluateAndSweep_alike (cause : EvalCause) {s u : State} (same : s = { u with link := s.link })
    (notices : s.link.notices = u.link.notices) :
    let t := evaluateAndSweep cause s
    t = { u.judged cause with keyring := (u.judgedAndSwept cause).keyring, link := t.link } ∧
      t.link.notices = (u.judgedAndSwept cause).link.notices := by
  intro t
  have record : s.evaluated cause = u.evaluated cause := by rw [same]
  have before : s.margin = u.margin := by rw [same]
  obtain ⟨evaluated, told⟩ := evaluateMargin_judged cause s
  have toldAlike : (s.judged cause).link.notices = (u.judged cause).link.notices := by
    unfold State.judged
    rw [record, before, notices]
  have judged : evaluateMargin cause s = { u.judged cause with link := (evaluateMargin cause s).link } := by
    conv_lhs => rw [evaluated]
    generalize (evaluateMargin cause s).link = link
    rw [same]
    rfl
  have margin : (evaluateMargin cause s).margin.margin = (u.evaluated cause).margin := by rw [judged]; rfl
  have t_eq : t = if (u.evaluated cause).margin = u.margin.margin then evaluateMargin cause s
      else windowSweep (evaluateMargin cause s) := by
    rw [← margin, ← before]
    rfl
  rw [toldAlike] at told
  generalize evaluateMargin cause s = e at judged told t_eq
  rw [State.judgedAndSwept]
  split at t_eq
  next kept =>
    rw [if_pos kept, t_eq]
    exact ⟨judged, told⟩
  next changed =>
    have bare : e.bare = (u.judged cause).bare := by
      unfold State.bare
      rw [told, judged]
    obtain ⟨keyring, swept⟩ := windowSweep_alike bare
    rw [if_neg changed, t_eq]
    refine ⟨?_, swept⟩
    rw [← keyring]
    conv_lhs => rw [windowSweep_frame]
    generalize windowSweep e = w
    rw [judged]

theorem Stirred.evaluateAndSweep {s t : State} (can : CanHand s) (h : Stirred s t) (cause : EvalCause) :
    Stirred s (evaluateAndSweep cause t) := by
  have evaluated := h.evaluateMargin can cause
  unfold Machine.evaluateAndSweep
  dsimp only
  split
  · exact evaluated
  · exact evaluated.windowSweep can

/-- A request that sets tables or parameters, answered after the evaluation with its sweep. -/
theorem answer_evaluateAndSweep {r : Request} {rest : List Request} {rt : Route} {s : State}
    (taking : Taking r rest rt s) (sync : SyncOk s) (margin : MarginUnit) (params : SiteParameters) (cause : EvalCause)
    (body : List Byte) :
    let set : State := { s with margin, params }
    let done := answer r .ok body (evaluateAndSweep cause { withoutOldest s with margin, params })
    Answered r rest rt .ok body s done ∧
      done = { set.judged cause with keyring := (set.judgedAndSwept cause).keyring, link := done.link } ∧
      done.link.notices = (set.judgedAndSwept cause).link.notices := by
  intro set done
  have can : CanHand (withoutOldest s) := fun _ => ⟨rt, taking.routed⟩
  have start : Stirred (withoutOldest s) (withoutOldest s) := Stirred.refl sync
  have stirred : Stirred (withoutOldest s) { withoutOldest s with margin, params } := start.congr rfl rfl rfl
  obtain ⟨left, told⟩ :=
    evaluateAndSweep_alike cause (s := { withoutOldest s with margin, params }) (u := set) rfl rfl
  exact ⟨(stirred.evaluateAndSweep can cause).answered taking ..,
    answer_over (s := { set.judged cause with keyring := (set.judgedAndSwept cause).keyring }) left ..,
    (answer_link_notices ..).trans told⟩

theorem evaluateAndSweep_margin_margin (cause : EvalCause) (s : State) :
    (evaluateAndSweep cause s).margin.margin = (s.evaluated cause).margin := by
  rw [(evaluateAndSweep_alike cause (s := s) (u := s) rfl rfl).1]
  rfl

/-- A request with a malformed body is refused, and nothing else is done (R175). -/
theorem serveWith_malformed {α : Type} {k : RequestKind} {parse : List Byte → Option α} {r : Request}
    {rest : List Request} {rt : Route} {s : State} (serving : Serving k r rest rt s) (malformed : parse r.body = none)
    (act : α → Request → State → State) : serveWith k parse act s = replied r rest rt .badRequest [] s := by
  rw [serveWith_of_serving serving, malformed]
  exact answer_withoutOldest serving.toTaking ..

/-! ### SITE_PARAMETER (R33, R162) -/

/-- What SITE_PARAMETER does with a body that can be read. -/
theorem exec_siteParameter_of_parsed {r : Request} {rest : List Request} {rt : Route} {s : State}
    (serving : Serving .siteParameter r rest rt s) {q : ParameterRequest} (parsed : parseParameters r.body = some q) :
    exec .siteParameter s =
      .next
        (let stored := { withoutOldest s with params := s.params.store q }
        let done :=
          if q.marginFloor.isSome || q.noOpinion.isSome then evaluateAndSweep .parameter stored else stored
        answer r .ok (parameterBody done) done) :=
  congrArg Host.Outcome.next ((serveWith_of_serving serving ..).trans (by rw [parsed]; rfl))

/-- Settles O39: the stored parameters are what the evaluation and the sweep judge, where either margin is present. -/
theorem parametersAreClampedAndJudged : Obligations.ParametersAreClampedAndJudged := by
  intro r rest rt s serving
  refine ⟨fun malformed => ?_, fun q parsed => ?_⟩
  · exact congrArg Host.Outcome.next (serveWith_malformed serving malformed _)
  · intro p e evaluates body
    rw [exec_siteParameter_of_parsed serving parsed]
    have stored : s.params.store q = p := SiteParameters.store_eq s.params q
    have present : (q.marginFloor.isSome || q.noOpinion.isSome) = true ↔ evaluates := by
      simp [evaluates, Option.isSome_iff_ne_none]
    rw [stored]
    refine ⟨fun absent => congrArg Host.Outcome.next ?_, fun either sync => ?_⟩
    · dsimp only
      rw [if_neg (mt present.1 absent), answer_eq serving.toTaking, withoutOldest_eq serving.toTaking]
      · rfl
      · rfl
      · rfl
      · rfl
      · exact serving.sent
      · exact serving.noRestart
    · dsimp only
      rw [if_pos (present.2 either)]
      have read : parameterBody (evaluateAndSweep .parameter { withoutOldest s with params := p }) = body e.margin := by
        unfold parameterBody
        rw [evaluateAndSweep_margin_margin, evaluateAndSweep_params]
        rfl
      rw [read]
      exact ⟨_, rfl, answer_evaluateAndSweep serving.toTaking sync s.margin p .parameter (body e.margin)⟩

/-! ### SET_SHAPE and SET_TERM (R31, R32) -/

theorem exec_setShape_of_parsed {r : Request} {rest : List Request} {rt : Route} {s : State}
    (serving : Serving .setShape r rest rt s) {i : TableNo} {shape : Shape}
    (parsed : parseShape r.body = some (i, shape)) :
    exec .setShape s =
      .next
        (let done :=
          evaluateAndSweep .shape
            { withoutOldest s with margin := { s.margin with shapes := s.margin.shapes.set i shape } }
        answer r .ok (byteOf i.val :: shape.bytes ++ beBytes 2 done.margin.margin) done) :=
  congrArg Host.Outcome.next ((serveWith_of_serving serving ..).trans (by rw [parsed]; rfl))

theorem exec_setTerm_of_parsed {r : Request} {rest : List Request} {rt : Route} {s : State}
    (serving : Serving .setTerm r rest rt s) {i : TableNo} {term : Term}
    (parsed : parseTerm r.body = some (i, term)) :
    exec .setTerm s =
      .next
        (let done :=
          evaluateAndSweep .term
            { withoutOldest s with margin := { s.margin with terms := s.margin.terms.set i term } }
        answer r .ok (byteOf i.val :: term.bytes ++ beBytes 2 done.margin.margin) done) :=
  congrArg Host.Outcome.next ((serveWith_of_serving serving ..).trans (by rw [parsed]; rfl))

/-- Settles O41: the table with its entry replaced is what the evaluation and the sweep judge. -/
theorem tablesAreSetAndJudged : Obligations.TablesAreSetAndJudged := by
  intro r rest rt s flag one judged done
  refine ⟨fun serving => ⟨fun malformed => ?_, fun i shape parsed sync => ?_⟩,
    fun serving => ⟨fun malformed => ?_, fun i term parsed sync => ?_⟩⟩
  · exact congrArg Host.Outcome.next (serveWith_malformed serving malformed _)
  · rw [exec_setShape_of_parsed serving parsed]
    dsimp only
    rw [evaluateAndSweep_margin_margin]
    have written : byteOf i.val :: shape.bytes =
        [one i.val, flag shape.inUse, match shape.input with | .x1 => (1 : Byte) | .x2 => 2] ++
          beBytes 2 shape.centre ++ beBytes 2 shape.leftSpread ++ beBytes 2 shape.rightSpread ++
          [flag shape.leftShoulder, flag shape.rightShoulder] := by
      unfold Shape.bytes
      cases shape.input <;> rfl
    rw [written]
    exact ⟨_, rfl,
      answer_evaluateAndSweep serving.toTaking sync { s.margin with shapes := s.margin.shapes.set i shape } s.params
        .shape _⟩
  · exact congrArg Host.Outcome.next (serveWith_malformed serving malformed _)
  · rw [exec_setTerm_of_parsed serving parsed]
    dsimp only
    rw [evaluateAndSweep_margin_margin]
    have written : byteOf i.val :: term.bytes =
        [one i.val, flag term.inUse, one term.a.shape.val, flag term.a.negate] ++
          (match term.b with
            | none => [(0 : Byte), 0, 0, 0]
            | some (b, .and) => [1, one b.shape.val, flag b.negate, 1]
            | some (b, .or) => [1, one b.shape.val, flag b.negate, 2]) ++
          beBytes 2 term.proposed := by
      unfold Term.bytes
      obtain none | ⟨b, combinator⟩ := term.b
      · rfl
      · cases combinator <;> rfl
    rw [written]
    exact ⟨_, rfl,
      answer_evaluateAndSweep serving.toTaking sync { s.margin with terms := s.margin.terms.set i term } s.params
        .term _⟩

end Sys2Proof.Machine

/-! ## What the requests of the keyring, the lanes and the store leave alone -/

namespace Sys2Proof.Machine

theorem provisionWrite_frame (r : Request) (s : State) :
    provisionWrite r s = { s with store := (provisionWrite r s).store, link := (provisionWrite r s).link } := by
  unfold provisionWrite
  split
  · rw [answer_frame]
  · split
    · rw [answer_frame]
    · split
      · rw [answer_frame]
      · split
        · split
          · rw [handReply_frame]
          · rw [answer_frame]
        · dsimp only
          rw [handReply_frame]

theorem deleteBundle_frame (id : Ident) (r : Request) (s : State) :
    deleteBundle id r s = { s with keyring := (deleteBundle id r s).keyring, link := (deleteBundle id r s).link } := by
  unfold deleteBundle
  split
  · rw [answer_frame]
  · split
    · rw [answer_frame]
    · split
      · rw [answer_frame]
      · split
        · rw [answer_frame]
        · rw [answer_frame, setBundle_frame]

theorem openChosen_frame (q : OpenRequest) (r : Request) (s : State) :
    openChosen q r s =
      { s with
        keyring := (openChosen q r s).keyring, engine := (openChosen q r s).engine, lanes := (openChosen q r s).lanes
        link := (openChosen q r s).link } := by
  unfold openChosen
  split
  · rw [answer_frame]
  · split
    · rw [answer_frame]
    · split
      · rw [answer_frame]
      · rw [answer_frame, openOn_frame]

theorem endScreening_frame (l : LaneNo) (r : Request) (s : State) :
    endScreening l r s =
      { s with
        keyring := (endScreening l r s).keyring, engine := (endScreening l r s).engine
        lanes := (endScreening l r s).lanes, link := (endScreening l r s).link } := by
  unfold endScreening
  split
  · rw [answer_frame]
  · split
    · rw [answer_frame, finishLane_frame]
    · rw [answer_frame, finishLane_frame]
    · rw [answer_frame]
    · rw [answer_frame]

theorem closeLane_frame (l : LaneNo) (r : Request) (s : State) :
    closeLane l r s = { s with lanes := (closeLane l r s).lanes, link := (closeLane l r s).link } := by
  unfold closeLane
  split
  · rw [answer_frame]
  · split
    · rw [answer_frame, setLane_frame]
    · rw [answer_frame, setLane_frame]
    · rw [answer_frame]
    · rw [answer_frame]

theorem releaseReel_frame (l : LaneNo) (reel : Nat) (sc : Screening) (r : Request) (s : State) :
    releaseReel l reel sc r s =
      { s with lanes := (releaseReel l reel sc r s).lanes, link := (releaseReel l reel sc r s).link } := by
  unfold releaseReel
  split
  · rw [answer_frame]
  · split
    · dsimp only
      rw [answer_frame, setLane_frame]
    · rw [answer_frame]
    · rw [answer_frame]

theorem fetchReel_frame (q : LaneNo × Nat) (r : Request) (s : State) :
    fetchReel q r s = { s with lanes := (fetchReel q r s).lanes, link := (fetchReel q r s).link } := by
  unfold fetchReel
  split
  · rw [answer_frame]
  · split
    · rw [answer_frame]
    · rw [answer_frame]
    · rw [answer_frame]
    · split
      · rw [answer_frame]
      · exact releaseReel_frame ..

theorem beginReel_frame (q : BeginRequest) (sc : Screening) (r : Request) (s : State) :
    beginReel q sc r s =
      { s with
        keyring := (beginReel q sc r s).keyring, engine := (beginReel q sc r s).engine
        lanes := (beginReel q sc r s).lanes, link := (beginReel q sc r s).link } := by
  unfold beginReel
  dsimp only
  split
  · rw [answer_frame]
  · split
    · rw [answer_frame]
    · split
      · rw [answer_frame]
      · split
        · rw [answer_frame]
        · exact acceptBegin_frame ..

theorem reelBegin_frame (q : BeginRequest) (r : Request) (s : State) :
    reelBegin q r s =
      { s with
        keyring := (reelBegin q r s).keyring, engine := (reelBegin q r s).engine, lanes := (reelBegin q r s).lanes
        link := (reelBegin q r s).link } := by
  unfold reelBegin
  split
  · rw [answer_frame]
  · split
    · rw [answer_frame]
    · rw [answer_frame]
    · rw [answer_frame, finishLane_frame]
    · exact beginReel_frame ..

theorem amendScreening_frame (q : LaneNo × Amendment) (r : Request) (s : State) :
    amendScreening q r s = { s with lanes := (amendScreening q r s).lanes, link := (amendScreening q r s).link } := by
  unfold amendScreening
  split
  · rw [answer_frame]
  · split
    · dsimp only
      rw [answer_frame, setLane_frame]
    · rw [answer_frame]
    · rw [answer_frame]
    · rw [answer_frame]

theorem fetchReport_frame (q : LaneNo × Option Nat) (r : Request) (s : State) :
    fetchReport q r s = { s with lanes := (fetchReport q r s).lanes, link := (fetchReport q r s).link } := by
  unfold fetchReport
  split
  · rw [answer_frame]
  · split
    · rw [answer_frame]
    · split
      · rw [answer_frame]
      · rw [answer_frame]
      · rw [answer_frame, setLane_frame]
      · rw [answer_frame, setLane_frame]

end Sys2Proof.Machine

/-! ## M stays in its range and that of the last evaluation (O6) -/

namespace Sys2Proof.Machine

/-- An evaluation puts M into its range (R20, R27). -/
theorem marginOk_evaluateMargin {s : State} (params : s.params.Ok) (tables : s.margin.TablesOk) (cause : EvalCause) :
    MarginOk (evaluateMargin cause s) := by
  have ⟨_, floor, _⟩ := params
  have raw : (s.evaluated cause).rawMargin ≤ 3600 := evaluation_rawMargin_le tables params ..
  have clamped : (s.evaluated cause).margin =
      if (s.evaluated cause).rawMargin < s.params.marginFloor then s.params.marginFloor
      else (s.evaluated cause).rawMargin := evaluation_margin tables params ..
  rw [marginOk_iff, evaluateMargin_params, evaluateMargin_margin]
  refine ⟨params, ⟨tables.shapes, tables.proposed⟩, ?_, ?_, rfl, fun i => ⟨?_, ?_⟩⟩
  · dsimp only
    rw [clamped]
    split <;> omega
  · dsimp only
    rw [clamped]
    split <;> omega
  · exact evaluation_grades_le ..
  · exact evaluation_weights_le ..

theorem marginOk_congr {s t : State} (margin : t.margin = s.margin) (params : t.params = s.params) (h : MarginOk s) :
    MarginOk t := by
  rw [marginOk_iff, margin, params, ← marginOk_iff]
  exact h

/-- A window sweep judges by the margin and does not change it. -/
theorem marginOk_evaluateAndSweep {s : State} (params : s.params.Ok) (tables : s.margin.TablesOk)
    (cause : EvalCause) : MarginOk (evaluateAndSweep cause s) := by
  have evaluated := marginOk_evaluateMargin params tables cause
  unfold evaluateAndSweep
  dsimp only
  split
  · exact evaluated
  · exact marginOk_congr (windowSweep_margin _) (windowSweep_params _) evaluated

/-! ### What the requests may set (R23, R25, R162) -/

/-- Stored parameters are in their ranges (R162). -/
theorem SiteParameters.store_ok {p : SiteParameters} (ok : p.Ok) (q : ParameterRequest) : (p.store q).Ok := by
  obtain ⟨late, floor, noOpinion, low, high⟩ := ok
  rw [SiteParameters.store_eq]
  refine ⟨?_, ?_, ?_, ?_, ?_⟩
  · cases q.lateAllowance
    · exact late
    · exact min_le_right ..
  · cases q.marginFloor
    · exact floor
    · exact min_le_right ..
  · cases q.noOpinion
    · exact noOpinion
    · exact min_le_right ..
  · cases q.closingLead
    · exact low
    · exact le_max_left ..
  · cases q.closingLead
    · exact high
    · exact max_le (by decide) (min_le_right ..)

theorem parseShape_ranges {body : List Byte} {i : TableNo} {shape : Shape} (h : parseShape body = some (i, shape)) :
    shape.centre ≤ 65535 ∧ shape.leftSpread ≤ 65535 ∧ shape.rightSpread ≤ 65535 := by
  unfold parseShape at h
  split at h
  · split at h
    · cases h
      exact ⟨min_le_left .., min_le_left .., min_le_left ..⟩
    · cases h
  · cases h

theorem parseTerm_proposed_le {body : List Byte} {i : TableNo} {term : Term} (h : parseTerm body = some (i, term)) :
    term.proposed ≤ 3600 := by
  unfold parseTerm at h
  split at h
  · split at h
    · cases h
      exact min_le_left ..
    · cases h
  · cases h

theorem MarginUnit.TablesOk.setShape {u : MarginUnit} (h : u.TablesOk) (i : TableNo) {shape : Shape}
    (ranges : shape.centre ≤ 65535 ∧ shape.leftSpread ≤ 65535 ∧ shape.rightSpread ≤ 65535) :
    ({ u with shapes := u.shapes.set i shape } : MarginUnit).TablesOk where
  shapes j := by
    have entry : (u.shapes.set i shape)[j] = if i.val = j.val then shape else u.shapes[j] := Vector.getElem_set ..
    dsimp only
    rw [entry]
    split
    · exact ranges
    · exact h.shapes j
  proposed := h.proposed

theorem MarginUnit.TablesOk.setTerm {u : MarginUnit} (h : u.TablesOk) (i : TableNo) {term : Term}
    (range : term.proposed ≤ 3600) : ({ u with terms := u.terms.set i term } : MarginUnit).TablesOk where
  shapes := h.shapes
  proposed j := by
    have entry : (u.terms.set i term)[j] = if i.val = j.val then term else u.terms[j] := Vector.getElem_set ..
    dsimp only
    rw [entry]
    split
    · exact range
    · exact h.proposed j

/-! ### One event -/

/-- An operation from `s` to `t` keeps M, its record, the tables and the parameters in their ranges. -/
structure KeepsMargin (s t : State) : Prop where
  ok : MarginOk s → MarginOk t

namespace KeepsMargin

theorem overlooks : Overlooks KeepsMargin := ⟨fun h k => ⟨fun ok => k.ok (h.ok ok)⟩, fun _ _ _ => ⟨id⟩⟩

theorem refl (s : State) : KeepsMargin s s := ⟨id⟩

theorem trans {s t u : State} (h : KeepsMargin s t) (k : KeepsMargin t u) : KeepsMargin s u := overlooks.trans h k

theorem of_eq {s t : State} (margin : t.margin = s.margin := by simp) (params : t.params = s.params := by simp) :
    KeepsMargin s t := ⟨marginOk_congr margin params⟩

/-- An operation that changes neither the margin nor the parameters. -/
theorem of_frame {s t : State} {keyring : Keyring} {engine : Engine} {screens : Vector Screen 32}
    {lanes : Vector (Option Screening) 32} {store : Store} {link : Link}
    (h : t = { s with keyring, engine, screens, lanes, store, link }) : KeepsMargin s t :=
  of_eq (by rw [h]) (by rw [h])

theorem answer {s t : State} (h : KeepsMargin s t) (r : Request) (status : Status) (body : List Byte) :
    KeepsMargin s (answer r status body t) := overlooks.answer h ..

theorem ite {cond : Bool} {s t : State} (h : KeepsMargin s t) : KeepsMargin s (if cond then t else s) := by
  split
  · exact h
  · exact refl s

theorem evaluateMargin (cause : EvalCause) (s : State) : KeepsMargin s (evaluateMargin cause s) := by
  refine ⟨fun ok => ?_⟩
  obtain ⟨params, tables, -⟩ := (marginOk_iff s).1 ok
  exact marginOk_evaluateMargin params tables cause

theorem expiryPass (s : State) : KeepsMargin s (expiryPass s) := of_eq rfl rfl

/-! #### Ticks and claims -/

theorem settleDue (s : State) : KeepsMargin s (settleDue s) := by
  have expiry : KeepsMargin s (takeDueExpiry s) := .ite .of_eq
  have window (t : State) : KeepsMargin t (takeDueWindow t) := .ite .of_eq
  have stopTime (t : State) : KeepsMargin t (takeDueStopTime t) := .ite .of_eq
  exact (expiry.trans (window _)).trans (stopTime _)

theorem clockTick (s : State) : KeepsMargin s (clockTick s) := by
  have ticked : KeepsMargin s { s with clock := s.clock.tick } := .of_eq
  unfold Machine.clockTick
  dsimp only
  split
  · exact ticked.trans (evaluateMargin ..)
  · exact ticked

theorem tickWhole (order : SweepOrder) (s : State) : KeepsMargin s (tickWhole order s) :=
  ((settleDue s).trans (clockTick _)).trans (.of_eq (bothSweeps_margin ..) (bothSweeps_params ..))

theorem tickClockOnly (s : State) : KeepsMargin s (tickClockOnly s) :=
  ((settleDue s).trans (clockTick _)).trans (.of_eq rfl rfl)

theorem takeClaim (T : Nat) (s : State) : KeepsMargin s (takeClaim T s) := by
  have moved := (takeClaim_eq T s).1
  exact .of_eq (by rw [moved]) (by rw [moved])

theorem afterClaim (order : SweepOrder) (s : State) : KeepsMargin s (afterClaim order s) :=
  ((expiryPass s).trans (evaluateMargin .claim _)).trans (.of_eq (bothSweeps_margin ..) (bothSweeps_params ..))

/-! #### Site parameters and tables -/

theorem siteParameter (q : ParameterRequest) (s : State) :
    KeepsMargin s
      (if q.marginFloor.isSome || q.noOpinion.isSome then
        evaluateAndSweep .parameter { s with params := s.params.store q }
      else { s with params := s.params.store q }) := by
  refine ⟨fun ok => ?_⟩
  obtain ⟨params, tables, floor, rest⟩ := (marginOk_iff s).1 ok
  have stored := SiteParameters.store_ok params q
  split
  · exact marginOk_evaluateAndSweep (s := { s with params := _ }) stored tables _
  next absent =>
    have unset : q.marginFloor = none := by
      cases present : q.marginFloor
      · rfl
      · simp [present] at absent
    have same : (s.params.store q).marginFloor = s.params.marginFloor := by simp [SiteParameters.store_eq, unset]
    exact (marginOk_iff _).2 ⟨stored, tables, same.trans_le floor, rest⟩

theorem setShape {body : List Byte} {i : TableNo} {shape : Shape} (parsed : parseShape body = some (i, shape))
    (s : State) :
    KeepsMargin s
      (evaluateAndSweep .shape { s with margin := { s.margin with shapes := s.margin.shapes.set i shape } }) := by
  refine ⟨fun ok => ?_⟩
  obtain ⟨params, tables, -⟩ := (marginOk_iff s).1 ok
  refine marginOk_evaluateAndSweep ?_ ?_ _
  · exact params
  · exact tables.setShape i (parseShape_ranges parsed)

theorem setTerm {body : List Byte} {i : TableNo} {term : Term} (parsed : parseTerm body = some (i, term))
    (s : State) :
    KeepsMargin s
      (evaluateAndSweep .term { s with margin := { s.margin with terms := s.margin.terms.set i term } }) := by
  refine ⟨fun ok => ?_⟩
  obtain ⟨params, tables, -⟩ := (marginOk_iff s).1 ok
  refine marginOk_evaluateAndSweep ?_ ?_ _
  · exact params
  · exact tables.setTerm i (parseTerm_proposed_le parsed)

/-! #### Start-ups -/

theorem withoutPower (s : State) : KeepsMargin s (withoutPower s) := .of_eq rfl rfl

theorem powerOn (s : State) : KeepsMargin s { s with powered := true } := .of_eq rfl rfl

theorem startValid (s : State) : KeepsMargin s (startValid s) :=
  .of_eq (resetKeyring_margin ..) (resetKeyring_params ..)

theorem beginOperation (s : State) : KeepsMargin s (beginOperation s) := by
  unfold Machine.beginOperation
  split
  · exact ((evaluateMargin ..).trans (expiryPass _)).trans (.of_eq (bothSweeps_margin ..) (bothSweeps_params ..))
  · exact refl s

theorem beginCut (judged : JudgedSoFar) (expired : Bool) (s : State) : KeepsMargin s (beginCut judged expired s) := by
  have passed : KeepsMargin s (if expired then Machine.expiryPass s else s) := (expiryPass s).ite
  unfold Machine.beginCut
  split
  · dsimp only
    split
    · exact passed
    · exact passed.trans (evaluateMargin ..)
    · exact (passed.trans (evaluateMargin ..)).trans (.of_eq (windowSweep_margin ..) (windowSweep_params ..))
  · exact refl s

/-- A start-up that finds the retained domain invalid leaves the margin as at reset (R36). -/
theorem marginOk_startLost (s : State) : MarginOk (startLost s) := marginOk_congr rfl rfl reset_marginOk

theorem powerUp {checkMatches : Bool} {run : StartUpRun} {s t : State}
    (h : exec (.powerUp checkMatches run) s = .next t) : KeepsMargin s t := by
  obtain ⟨-, rfl⟩ | ⟨-, -, rfl⟩ | ⟨-, -, -, rfl | ⟨judged, expired, rfl⟩⟩ | ⟨-, -, -, rfl | rfl⟩ := powerUp_cases h
  · exact refl _
  · exact .of_eq rfl rfl
  · exact ((startValid s).trans (beginOperation _)).trans (powerOn _)
  · exact ((startValid s).trans (beginCut ..)).trans (withoutPower _)
  · exact ⟨fun _ => (powerOn _).ok (marginOk_startLost s)⟩
  · exact ⟨fun _ => (withoutPower _).ok (marginOk_startLost s)⟩

end KeepsMargin

theorem whenClosed_keepsMargin (l : LaneNo) (r : Request) (s : State) {act : State → State}
    (h : KeepsMargin s (act s)) : KeepsMargin s (whenClosed l r s act) := by
  unfold whenClosed
  split
  · exact (KeepsMargin.refl s).answer ..
  · exact h

/-- Every command keeps the margin's ranges. -/
theorem exec_keepsMargin {c : Instr} {s t : State} (e : exec c s = .next t) : KeepsMargin s t := by
  have refused (r : Request) (status : Status) (body : List Byte) (t : State) :
      KeepsMargin t (answer r status body t) := (KeepsMargin.refl t).answer ..
  cases c with
  | serialFrame bytes | serialByteTimeout =>
    obtain rfl := Host.Outcome.next.inj e
    exact .ite (.of_frame (takeSerial_frame ..))
  | lanFrame bytes checkPasses =>
    obtain rfl := Host.Outcome.next.inj e
    refine .ite ?_
    split
    · exact .refl s
    · exact .of_frame (acceptFrame_frame ..)
  | frameSent =>
    obtain rfl := Host.Outcome.next.inj e
    split
    · exact .refl s
    · exact .ite (.of_eq rfl rfl)
  | unknownKind =>
    obtain rfl := Host.Outcome.next.inj e
    refine .ite ?_
    split
    · exact .refl s
    · split
      · exact .refl s
      · exact .of_eq
  | restartReset =>
    obtain rfl := Host.Outcome.next.inj e
    exact .ite .of_eq
  | mainPowerLoss =>
    obtain rfl := Host.Outcome.next.inj e
    exact .ite (.withoutPower s)
  | batterySecond | cellFailed =>
    obtain rfl := Host.Outcome.next.inj e
    split
    · exact .of_eq rfl rfl
    · exact .refl s
  | powerUp checkMatches run => exact .powerUp e
  | tick part =>
    obtain rfl := Host.Outcome.next.inj e
    cases part with
    | whole order => exact .ite (.tickWhole ..)
    | clockOnly => exact .ite (.tickClockOnly s)
    | expiryPass | windowSweep | stopTimeSweep => exact .ite (.ite .of_eq)
  | stalenessMinute order | replenish order =>
    obtain rfl := Host.Outcome.next.inj e
    exact .ite (.tickWhole ..)
  | timeClaim tagOver order =>
    obtain rfl := Host.Outcome.next.inj e
    refine KeepsMargin.overlooks.serveWith (fun T r t _ => ?_) s
    dsimp only
    split
    · exact ((KeepsMargin.takeClaim T t).trans (.afterClaim order _)).answer ..
    · exact refused ..
  | siteParameter =>
    obtain rfl := Host.Outcome.next.inj e
    exact KeepsMargin.overlooks.serveWith (fun q r t _ => (KeepsMargin.siteParameter q t).answer ..) s
  | setShape =>
    obtain rfl := Host.Outcome.next.inj e
    exact KeepsMargin.overlooks.serveWith (fun _ r t parsed => (KeepsMargin.setShape parsed t).answer ..) s
  | setTerm =>
    obtain rfl := Host.Outcome.next.inj e
    exact KeepsMargin.overlooks.serveWith (fun _ r t parsed => (KeepsMargin.setTerm parsed t).answer ..) s
  | identify | clockStatus | marginStatus | listRevocations | engineStatus =>
    obtain rfl := Host.Outcome.next.inj e
    exact KeepsMargin.overlooks.serveBare (fun r t => refused ..) s
  | provisionWrite =>
    obtain rfl := Host.Outcome.next.inj e
    exact KeepsMargin.overlooks.serve (fun r t => .of_frame (provisionWrite_frame ..)) s
  | provisionFinalize =>
    obtain rfl := Host.Outcome.next.inj e
    refine KeepsMargin.overlooks.serveBare (fun r t => ?_) s
    split
    · exact refused ..
    · split
      · exact .of_eq
      · exact refused ..
  | collect | restart =>
    obtain rfl := Host.Outcome.next.inj e
    exact KeepsMargin.overlooks.serveBare (fun r t => .of_eq) s
  | dismiss | listBundles | laneStatus =>
    obtain rfl := Host.Outcome.next.inj e
    exact KeepsMargin.overlooks.serveWith (fun q r t _ => .of_eq) s
  | noticeHold =>
    obtain rfl := Host.Outcome.next.inj e
    refine KeepsMargin.overlooks.serveWith (fun hold r t _ => .answer ?_ ..) s
    split
    · exact .of_eq
    · exact .of_eq
  | deliverBundle tagOver =>
    obtain rfl := Host.Outcome.next.inj e
    refine KeepsMargin.overlooks.serve (fun r t => ?_) s
    split
    · exact refused ..
    · split
      · exact refused ..
      · split
        · exact refused ..
        · exact .answer (.of_frame (acceptDelivery_frame ..)) ..
        · exact refused ..
  | bundleStatus =>
    obtain rfl := Host.Outcome.next.inj e
    refine KeepsMargin.overlooks.serveWith (fun q r t _ => ?_) s
    split
    · exact refused ..
    · split
      · exact refused ..
      · exact refused ..
  | deleteBundle =>
    obtain rfl := Host.Outcome.next.inj e
    exact KeepsMargin.overlooks.serveWith (fun q r t _ => .of_frame (deleteBundle_frame ..)) s
  | revoke tagOver =>
    obtain rfl := Host.Outcome.next.inj e
    refine KeepsMargin.overlooks.serveWith (fun o r t _ => ?_) s
    split
    · exact refused ..
    · split
      · exact refused ..
      · split
        · exact refused ..
        · exact .of_eq (by rw [answer_margin, applyOrder_frame]) (by rw [answer_params, applyOrder_frame])
  | sync =>
    obtain rfl := Host.Outcome.next.inj e
    refine KeepsMargin.overlooks.serveBare (fun r t => ?_) s
    split
    · exact refused ..
    · split
      · exact refused ..
      · exact .of_eq rfl rfl
  | bindScreen | unbindScreen | setBias =>
    obtain rfl := Host.Outcome.next.inj e
    exact KeepsMargin.overlooks.serveWith (fun q r t _ => whenClosed_keepsMargin _ _ _ .of_eq) s
  | openScreening =>
    obtain rfl := Host.Outcome.next.inj e
    refine KeepsMargin.overlooks.serveWith (fun q r t _ => ?_) s
    split
    · exact refused ..
    · split
      · exact refused ..
      · split
        · exact refused ..
        · split
          · exact refused ..
          · exact .of_frame (openChosen_frame ..)
  | endScreening =>
    obtain rfl := Host.Outcome.next.inj e
    exact KeepsMargin.overlooks.serveWith (fun q r t _ => .of_frame (endScreening_frame ..)) s
  | closeLane =>
    obtain rfl := Host.Outcome.next.inj e
    exact KeepsMargin.overlooks.serveWith (fun q r t _ => .of_frame (closeLane_frame ..)) s
  | fetchReel =>
    obtain rfl := Host.Outcome.next.inj e
    exact KeepsMargin.overlooks.serveWith (fun q r t _ => .of_frame (fetchReel_frame ..)) s
  | reelBegin =>
    obtain rfl := Host.Outcome.next.inj e
    exact KeepsMargin.overlooks.serveWith (fun q r t _ => .of_frame (reelBegin_frame ..)) s
  | amendScreening =>
    obtain rfl := Host.Outcome.next.inj e
    exact KeepsMargin.overlooks.serveWith (fun q r t _ => .of_frame (amendScreening_frame ..)) s
  | fetchReport =>
    obtain rfl := Host.Outcome.next.inj e
    exact KeepsMargin.overlooks.serveWith (fun q r t _ => .of_frame (fetchReport_frame ..)) s
  | intakeUnwrapComplete outcome =>
    obtain rfl := Host.Outcome.next.inj e
    exact KeepsMargin.overlooks.completeJob (fun j t => .of_frame (deliverIntake_frame ..)) (fun t => .of_eq)
      (fun t => .of_eq) s
  | rewrapComplete outcome =>
    obtain rfl := Host.Outcome.next.inj e
    exact KeepsMargin.overlooks.completeJob (fun j t => .of_frame (deliverRewrap_frame ..)) .refl (fun t => .of_eq) s
  | bindComplete outcome =>
    obtain rfl := Host.Outcome.next.inj e
    exact KeepsMargin.overlooks.completeJob (fun j t => .of_frame (deliverBind_frame ..)) .refl (fun t => .of_eq) s

/-- Settles O6: no operation but an evaluation changes M, and each evaluation clamps it. -/
theorem marginStaysInRange : Obligations.MarginStaysInRange := by
  intro s t ok h
  obtain ⟨-, rfl⟩ | ⟨c, rest, -, e⟩ := step_cases h
  · exact ok
  · exact (exec_keepsMargin e).ok (marginOk_congr (s := s) rfl rfl ok)

end Sys2Proof.Machine

/-! ## A relation that every command keeps

The commands change records, jobs, screens and lanes by few operations.  A relation between the states before and after
an operation that these operations keep, and that does not read the rest of the state, is kept by every command. -/

namespace Sys2Proof.Machine

/-- `t` holds the records, jobs, screens and lanes of `s`, and main power as `s` has it. -/
structure SameWork (s t : State) : Prop where
  powered : t.powered = s.powered := by simp
  keyring : t.keyring = s.keyring := by simp
  engine : t.engine = s.engine := by simp
  screens : t.screens = s.screens := by simp
  lanes : t.lanes = s.lanes := by simp

/-- A screening with the same status and the same reel slots QUEUED or UNWRAPPING. -/
structure Screening.SameJobs (sc new : Screening) : Prop where
  status : new.status = sc.status
  slots : ∀ n, (sc.slot n).hasJob = true ∨ (new.slot n).hasJob = true → new.slot n = sc.slot n

/-- What an accepted delivery finds (R42, R46): its slot is empty or a tombstone's, and that of a tombstone with its own
bundle id where one is held; no other record holds the id; its feature, the pool and the intake queue have room; and its
values are in their ranges. -/
structure DeliveryFits (k : Keyring) (d : Delivery) (slot : SlotNo) : Prop where
  place : k.slots[slot] = none ∨ ∃ b, k.slots[slot] = some b ∧ b.isTombstone = true
  buried : ∀ (i : SlotNo) (b : Bundle), k.slots[i] = some b → b.bundleId = d.bundleId → b.isTombstone = true
  own :
    ∀ (i : SlotNo) (b : Bundle), k.slots[i] = some b → b.bundleId = d.bundleId →
      ∃ a, k.slots[slot] = some a ∧ a.bundleId = d.bundleId
  feature : countWhere k (fun b => b.featureId == d.featureId && !b.isTombstone) < 4
  pool : d.reelCount ≤ freeEntries k
  queue : k.intakeQueue.length < 4
  ranges :
    d.notBefore < d.notAfter ∧ d.grace ≤ 14400 ∧ 1 ≤ d.allowance ∧ d.allowance ≤ 32 ∧ 1 ≤ d.reelCount ∧
      d.reelCount ≤ 24

/-- A relation that is kept by what the commands do to records, jobs, screens and lanes. -/
structure Regular (rel : State → State → Prop) : Prop where
  trans : ∀ {a b c : State}, rel a b → rel b c → rel a c
  aside : ∀ {s t : State}, SameWork s t → rel s t
  windowSweep : ∀ s, rel s (windowSweep s)
  stopTimeSweep : ∀ s, rel s (stopTimeSweep s)
  listed : ∀ (s : State) (cursor : SlotNo), rel s { s with keyring := { s.keyring with listCursor := cursor } }
  delivered : ∀ {s : State} {d : Delivery} {slot : SlotNo}, s.powered = true → DeliveryFits s.keyring d slot →
    rel s (acceptDelivery d slot s)
  deleted : ∀ {s : State} {slot : SlotNo} {b : Bundle}, s.keyring.slots[slot] = some b → b.state ≠ .unwrapping →
    rel s (setBundle slot none { s with keyring := { s.keyring with pool := freeCells b.poolRefs s.keyring.pool } })
  ordered : ∀ (o : Order) {s : State}, s.powered = true → rel s (applyOrder o s).1
  snapshot : ∀ s : State, rel s { s with engine := s.engine.withSnapshot }
  bound : ∀ {s : State} {l : LaneNo} (unitId : Ident) (wrapped : WrappedLinkKey) (bias : Nat), s.lanes[l] = none →
    rel s
      (grant
        (createJob (.bind l)
          (setScreen l { binding := .binding unitId wrapped, bias } (dropJobs (JobItem.isBindOf l) s))))
  unbound : ∀ (s : State) (l : LaneNo),
    rel s (setScreen l { s.screens[l] with binding := .unbound } (dropJobs (JobItem.isBindOf l) s))
  biased : ∀ (s : State) (l : LaneNo) (bias : Nat), rel s (setScreen l { s.screens[l] with bias } s)
  opened : ∀ {s : State} {q : OpenRequest} {slot : SlotNo} {b : Bundle}, s.lanes[q.lane] = none →
    (s.screens[q.lane]).binding.isBinding = false → s.keyring.slots[slot] = some b → b.state.inWindow = true →
      rel s (openOn q slot b s)
  finished : ∀ (l : LaneNo) (cause : EndCause) (s : State), rel s (finishLane l cause s)
  closed : ∀ {s : State} {l : LaneNo} {sc : Screening}, s.lanes[l] = some sc → sc.status ≠ .running →
    rel s (setLane l none s)
  recorded : ∀ {s : State} {l : LaneNo} {sc new : Screening}, s.lanes[l] = some sc → sc.SameJobs new →
    rel s (setLane l (some new) s)
  begun : ∀ {s : State} {q : BeginRequest} {sc : Screening} (n : Nat) (p : Position) (holder : SlotName) (r : Request),
    s.lanes[q.lane] = some sc → sc.status = .running → rel s (acceptBegin q sc n p holder r s)
  unwrapped : ∀ (outcome : Option KeyMaterial) (s : State),
    rel s (completeJob JobItem.isIntake (deliverIntake outcome) presentIntake s)
  rewrapped : ∀ (outcome : Option WrappedReelKey) (s : State),
    rel s (completeJob JobItem.isRewrap (deliverRewrap outcome) id s)
  screenBound : ∀ (outcome : Option KeyMaterial) (s : State),
    rel s (completeJob JobItem.isBind (deliverBind outcome) id s)
  restarted : ∀ s : State,
    rel s
      (resetKeyring
        { s with
          link := s.link.restarted, engine := s.engine.restarted, lanes := lanesClosed
          screens := screensAfterStart s.screens })
  unpowered : ∀ s, rel s (withoutPower s)
  started : ∀ s, rel s { beginOperation (startValid s) with powered := true }
  startCut : ∀ (judged : JudgedSoFar) (expired : Bool) (s : State),
    rel s (withoutPower (beginCut judged expired (startValid s)))
  lost : ∀ s, rel s { startLost s with powered := true }
  lostCut : ∀ s, rel s (withoutPower (startLost s))

namespace Regular

variable {rel : State → State → Prop} (h : Regular rel)
include h

theorem refl (s : State) : rel s s := h.aside {}

theorem answer {s t : State} (st : rel s t) (r : Request) (status : Status) (body : List Byte) :
    rel s (answer r status body t) := h.trans st (h.aside {})

theorem ite {cond : Bool} {s t : State} (st : cond = true → rel s t) : rel s (if cond then t else s) := by
  split
  · exact st ‹_›
  · exact h.refl s

/-! ### Evaluations, ticks and claims -/

theorem bothSweeps (order : SweepOrder) (s : State) : rel s (bothSweeps order s) := by
  cases order
  · exact h.trans (h.windowSweep s) (h.stopTimeSweep _)
  · exact h.trans (h.stopTimeSweep s) (h.windowSweep _)

theorem evaluateAndSweep {s t : State} (st : SameWork s t) (cause : EvalCause) :
    rel s (evaluateAndSweep cause t) := by
  have evaluated : rel s (evaluateMargin cause t) := h.trans (h.aside st) (h.aside {})
  unfold Machine.evaluateAndSweep
  dsimp only
  split
  · exact evaluated
  · exact h.trans evaluated (h.windowSweep _)

theorem takeDueExpiry (s : State) : rel s (takeDueExpiry s) := h.ite fun _ => h.aside {}

theorem takeDueWindow (s : State) : rel s (takeDueWindow s) :=
  h.ite fun _ => h.trans (h.aside {}) (h.windowSweep _)

theorem takeDueStopTime (s : State) : rel s (takeDueStopTime s) :=
  h.ite fun _ => h.trans (h.aside {}) (h.stopTimeSweep _)

theorem clockTick_settleDue (s : State) : rel s (clockTick (settleDue s)) := by
  have settled : rel s (settleDue s) := h.trans (h.trans (h.takeDueExpiry s) (h.takeDueWindow _)) (h.takeDueStopTime _)
  refine h.trans settled ?_
  generalize settleDue s = t
  unfold clockTick
  dsimp only
  split
  · exact h.aside {}
  · exact h.aside {}

theorem tickWhole (order : SweepOrder) (s : State) : rel s (tickWhole order s) :=
  h.trans (h.trans (h.clockTick_settleDue s) (h.aside {})) (h.bothSweeps ..)

theorem tickClockOnly (s : State) : rel s (tickClockOnly s) :=
  h.trans (h.clockTick_settleDue s)
    (h.aside { powered := rfl, keyring := rfl, engine := rfl, screens := rfl, lanes := rfl })

theorem claimed (T : Nat) (order : SweepOrder) (s : State) : rel s (afterClaim order (takeClaim T s)) := by
  refine h.trans (h.aside ?_) (h.bothSweeps order (evaluateMargin .claim (expiryPass (takeClaim T s))))
  have moved := (takeClaim_eq T s).1
  generalize takeClaim T s = taken at moved ⊢
  constructor
  all_goals rw [moved]; simp

/-! ### Requests -/

/-- What serving a request keeps, an event that occurs with main power on. -/
theorem serve {k : RequestKind} {act : Request → State → State}
    (keeps : ∀ r t, t.powered = true → rel t (act r t)) (s : State) : rel s (serve k act s) := by
  unfold Machine.serve
  refine h.ite fun serves => ?_
  have on : s.powered = true := by
    unfold canServe at serves
    simp_all
  have taken : rel s (withoutOldest s) := h.aside {}
  split
  · exact h.refl s
  · split
    · split
      · exact h.trans taken (keeps _ _ on)
      · exact h.answer taken ..
    · exact h.refl s

theorem serveBare {k : RequestKind} {act : Request → State → State} (keeps : ∀ r t, rel t (act r t)) (s : State) :
    rel s (serveBare k act s) := by
  refine h.serve (fun r t _ => ?_) s
  split
  · exact keeps r t
  · exact h.answer (h.refl t) ..

theorem serveWith {k : RequestKind} {α : Type} {parse : List Byte → Option α} {act : α → Request → State → State}
    (keeps : ∀ fields r t, t.powered = true → rel t (act fields r t)) (s : State) :
    rel s (serveWith k parse act s) := by
  refine h.serve (fun r t on => ?_) s
  split
  · exact h.answer (h.refl t) ..
  · exact keeps _ _ _ on

theorem whenClosed {l : LaneNo} {r : Request} {s : State} {act : State → State}
    (keeps : s.lanes[l] = none → rel s (act s)) : rel s (whenClosed l r s act) := by
  unfold Machine.whenClosed
  split
  · exact h.answer (h.refl s) ..
  next closed => exact keeps (by simpa using closed)

end Regular

/-! ### Deliveries and opens -/

/-- The values of a delivery that can be read lie in their ranges (R43). -/
theorem parseDelivery_ranges {body : List Byte} {d : Delivery} (h : parseDelivery body = some d) :
    d.notBefore < d.notAfter ∧ d.grace ≤ 14400 ∧ 1 ≤ d.allowance ∧ d.allowance ≤ 32 ∧ 1 ≤ d.reelCount ∧
      d.reelCount ≤ 24 := by
  unfold parseDelivery at h
  dsimp only at h
  split at h
  next checks =>
    obtain ⟨-, -, one, most, window⟩ := checks
    split at h
    · cases h
    · obtain rfl := Option.some.inj h
      have allowance := clampTo_eq (low := 1) (high := 32) (by decide) (field body 26 1)
      refine ⟨window, min_le_left .., ?_, ?_, one, most⟩ <;> dsimp only <;> omega
  · cases h

theorem mem_slotsWhere_of {k : Keyring} {p : Bundle → Bool} {i : SlotNo} {b : Bundle} (hb : k.slots[i] = some b)
    (hp : p b = true) : i ∈ slotsWhere k p := mem_slotsWhere.2 ⟨b, hb, hp⟩

/-- No slot is counted exactly when no record satisfies the condition. -/
theorem countWhere_eq_zero {k : Keyring} {p : Bundle → Bool} :
    countWhere k p = 0 ↔ ∀ (i : SlotNo) (b : Bundle), k.slots[i] = some b → p b = false := by
  rw [countWhere, List.length_eq_zero_iff, List.eq_nil_iff_forall_not_mem]
  simp only [mem_slotsWhere, not_exists, not_and, Bool.not_eq_true]

/-- A delivery that no check refuses fits the slot it takes. -/
theorem deliveryFits {tagOver : Option BundleTag} {body : List Byte} {d : Delivery} {slot : SlotNo} {s : State}
    (read : parseDelivery body = some d) (passed : deliveryRefusal tagOver d s = none)
    (place : deliverySlot s.keyring d.bundleId = some slot) : DeliveryFits s.keyring d slot := by
  unfold deliveryRefusal at passed
  split_ifs at passed with tag barred duplicate feature expired full pool queue
  have buried (i : SlotNo) (b : Bundle) (hb : s.keyring.slots[i] = some b) (id : b.bundleId = d.bundleId) :
      b.isTombstone = true := by
    simpa [id] using countWhere_eq_zero.1 (Nat.eq_zero_of_not_pos duplicate) i b hb
  refine
    { place := deliverySlot_some place, buried, own := fun i b hb id => ?_, feature := not_le.1 feature
      pool := not_lt.1 pool, queue := not_le.1 queue
      ranges := parseDelivery_ranges read }
  have found : i ∈ slotsWhere s.keyring fun b => b.bundleId == d.bundleId && b.isTombstone :=
    mem_slotsWhere_of hb (by simp [id, buried i b hb id])
  unfold deliverySlot at place
  cases first : (slotsWhere s.keyring fun b => b.bundleId == d.bundleId && b.isTombstone).head? with
  | none => simp [List.head?_eq_none_iff.1 first] at found
  | some j =>
    rw [first] at place
    obtain rfl : j = slot := by simpa using place
    obtain ⟨a, ha, both⟩ := mem_slotsWhere.1 (List.mem_of_head? first)
    exact ⟨a, ha, by simp_all⟩

/-- A candidate chosen for an open is a record in a window state (R107, R108). -/
theorem chosen_inWindow {s : State} {q : OpenRequest} {slots : List SlotNo} {slot : SlotNo} {b : Bundle}
    (screened : screenCandidates s q = .ok slots) (latest : latestEnding s.keyring slots = some slot)
    (held : s.keyring.slots[slot] = some b) : b.state.inWindow = true := by
  have survivor : slot ∈ slots := by
    refine mem_of_foldl_best (fun best i => ?_) latest
    split
    · exact .inr rfl
    · split
      · exact .inr rfl
      · exact .inl rfl
  have candidate : slot ∈ candidates s.keyring q := by
    unfold screenCandidates at screened
    dsimp only at screened
    split_ifs at screened
    cases screened
    simp only [List.mem_filter] at survivor
    obtain ⟨⟨⟨⟨⟨candidate, -⟩, -⟩, -⟩, -⟩, -⟩ := survivor
    exact candidate
  obtain ⟨a, ha, tests⟩ := mem_slotsWhere.1 candidate
  obtain rfl : b = a := Option.some.inj (held.symm.trans ha)
  simp_all

namespace Regular

variable {rel : State → State → Prop} (h : Regular rel)
include h

theorem provisionWrite (r : Request) (s : State) : rel s (provisionWrite r s) := by
  refine h.aside ?_
  have frame := provisionWrite_frame r s
  generalize Machine.provisionWrite r s = t at frame ⊢
  constructor
  all_goals rw [frame]

theorem deliverBundle (tagOver : Option BundleTag) (r : Request) {s : State} (on : s.powered = true) :
    rel s
      (if s.clock.state = .unset then Machine.answer r .clockUnset [] s
      else
        match parseDelivery r.body with
        | none => Machine.answer r .badRequest [] s
        | some d =>
          match deliveryRefusal tagOver d s, deliverySlot s.keyring d.bundleId with
          | some status, _ => Machine.answer r status [] s
          | none, some slot => Machine.answer r .ok [byteOf slot.val] (acceptDelivery d slot s)
          | none, none => Machine.answer r .keyringFull [] s) := by
  split
  · exact h.answer (h.refl s) ..
  · split
    · exact h.answer (h.refl s) ..
    next d read =>
      split
      · exact h.answer (h.refl s) ..
      next slot passed place => exact h.answer (h.delivered on (deliveryFits read passed place)) ..
      · exact h.answer (h.refl s) ..

theorem deleteBundle (id : Ident) (r : Request) (s : State) : rel s (deleteBundle id r s) := by
  unfold Machine.deleteBundle
  split
  · exact h.answer (h.refl s) ..
  · split
    · exact h.answer (h.refl s) ..
    next b held =>
      split
      · exact h.answer (h.refl s) ..
      next settled =>
        split
        · exact h.answer (h.refl s) ..
        · exact h.answer (h.deleted held settled) ..

theorem openScreening (q : OpenRequest) (r : Request) (s : State) :
    rel s
      (if (s.lanes[q.lane]).isSome then Machine.answer r .laneBusy [] s
      else if (s.screens[q.lane]).binding.code ≠ 3 then Machine.answer r .screenUnbound [] s
      else if s.clock.state = .unset then Machine.answer r .clockUnset [] s
      else if nothingHeld s.keyring q then Machine.answer r .noSuch [] s
      else openChosen q r s) := by
  split
  · exact h.answer (h.refl s) ..
  next closed =>
    split
    · exact h.answer (h.refl s) ..
    next bound =>
      split
      · exact h.answer (h.refl s) ..
      · split
        · exact h.answer (h.refl s) ..
        · have notBinding : (s.screens[q.lane]).binding.isBinding = false := by
            generalize (s.screens[q.lane]).binding = binding at bound
            cases binding <;> simp_all [Binding.code, Binding.isBinding]
          unfold openChosen
          split
          · exact h.answer (h.refl s) ..
          next slots screened =>
            split
            · exact h.answer (h.refl s) ..
            next slot latest =>
              split
              · exact h.answer (h.refl s) ..
              next b held =>
                exact h.answer
                  (h.opened (by simpa using closed) notBinding held (chosen_inWindow screened latest held)) ..

theorem endScreening (l : LaneNo) (r : Request) (s : State) : rel s (endScreening l r s) := by
  unfold Machine.endScreening
  split
  · exact h.answer (h.refl s) ..
  · split
    · exact h.answer (h.finished ..) ..
    · exact h.answer (h.finished ..) ..
    · exact h.answer (h.refl s) ..
    · exact h.answer (h.refl s) ..

theorem closeLane (l : LaneNo) (r : Request) (s : State) : rel s (closeLane l r s) := by
  unfold Machine.closeLane
  split
  · exact h.answer (h.refl s) ..
  next sc held =>
    split
    next status => exact h.answer (h.closed held (by simp [status])) ..
    next status => exact h.answer (h.closed held (by simp [status])) ..
    · exact h.answer (h.refl s) ..
    · exact h.answer (h.refl s) ..

end Regular

/-! ### Lane records -/

@[simp] theorem Screening.slot_withSlot (sc : Screening) (n : SlotName) (slot : ReelSlot) :
    (sc.withSlot n slot).slot n = slot := by cases n <;> rfl

theorem Screening.slot_withSlot_other (sc : Screening) {n m : SlotName} (h : m ≠ n) (slot : ReelSlot) :
    (sc.withSlot n slot).slot m = sc.slot m := by cases n <;> cases m <;> simp_all [Screening.slot, Screening.withSlot]

@[simp] theorem Screening.withSlot_status (sc : Screening) (n : SlotName) (slot : ReelSlot) :
    (sc.withSlot n slot).status = sc.status := by cases n <;> rfl

/-- A record with the same status and slots has the same jobs. -/
theorem Screening.SameJobs.of_eq {sc new : Screening} (status : new.status = sc.status) (x : new.slotX = sc.slotX)
    (y : new.slotY = sc.slotY) : sc.SameJobs new :=
  ⟨status, fun n _ => by cases n; exacts [x, y]⟩

/-- A slot without a job may be replaced by another without one. -/
theorem Screening.SameJobs.withSlot {sc : Screening} {n : SlotName} (old : (sc.slot n).hasJob = false)
    {slot : ReelSlot} (new : slot.hasJob = false) : sc.SameJobs (sc.withSlot n slot) where
  status := withSlot_status ..
  slots m job := by
    by_cases same : m = n
    · subst same
      simp [old, new] at job
    · exact slot_withSlot_other _ same _

theorem Screening.SameJobs.trans {a b c : Screening} (h : a.SameJobs b) (k : b.SameJobs c) : a.SameJobs c where
  status := k.status.trans h.status
  slots n job := by
    obtain first | last := job
    · have ab := h.slots n (.inl first)
      exact (k.slots n (.inl (ab ▸ first))).trans ab
    · have bc := k.slots n (.inr last)
      exact bc.trans (h.slots n (.inr (bc ▸ last)))

namespace Regular

variable {rel : State → State → Prop} (h : Regular rel)
include h

theorem fetchReel (q : LaneNo × Nat) (r : Request) (s : State) : rel s (fetchReel q r s) := by
  unfold Machine.fetchReel
  split
  · exact h.answer (h.refl s) ..
  next sc held =>
    split
    · exact h.answer (h.refl s) ..
    · exact h.answer (h.refl s) ..
    · exact h.answer (h.refl s) ..
    · split
      · exact h.answer (h.refl s) ..
      · unfold releaseReel
        split
        · exact h.answer (h.refl s) ..
        · split
          next n _ _ p neededBy key holds =>
            have released : sc.SameJobs (sc.withSlot n (.holds p neededBy (.delivered key))) :=
              .withSlot (by rw [holds]; rfl) rfl
            refine h.answer (h.recorded held ?_) ..
            exact released.trans (.of_eq rfl rfl rfl)
          · exact h.answer (h.refl s) ..
          · exact h.answer (h.refl s) ..

theorem reelBegin (q : BeginRequest) (r : Request) (s : State) : rel s (reelBegin q r s) := by
  unfold Machine.reelBegin
  split
  · exact h.answer (h.refl s) ..
  next sc held =>
    split
    · exact h.answer (h.refl s) ..
    · exact h.answer (h.refl s) ..
    · exact h.answer (h.finished ..) ..
    next running =>
      unfold beginReel
      dsimp only
      split
      · exact h.answer (h.refl s) ..
      · split
        · exact h.answer (h.refl s) ..
        · split
          · exact h.answer (h.refl s) ..
          · split
            · exact h.answer (h.refl s) ..
            · exact h.begun _ _ _ _ held running

theorem amendScreening (q : LaneNo × Amendment) (r : Request) (s : State) : rel s (amendScreening q r s) := by
  unfold Machine.amendScreening
  split
  · exact h.answer (h.refl s) ..
  next held =>
    split
    · refine h.answer (h.recorded held ?_) ..
      exact .of_eq rfl rfl rfl
    · exact h.answer (h.refl s) ..
    · exact h.answer (h.refl s) ..
    · exact h.answer (h.refl s) ..

theorem fetchReport (q : LaneNo × Option Nat) (r : Request) (s : State) : rel s (fetchReport q r s) := by
  unfold Machine.fetchReport
  split
  · exact h.answer (h.refl s) ..
  next held =>
    split
    · exact h.answer (h.refl s) ..
    · split
      · exact h.answer (h.refl s) ..
      · exact h.answer (h.refl s) ..
      · refine h.answer (h.recorded held ?_) ..
        exact .of_eq rfl rfl rfl
      · refine h.answer (h.recorded held ?_) ..
        exact .of_eq rfl rfl rfl

theorem powerUp {checkMatches : Bool} {run : StartUpRun} {s t : State}
    (e : exec (.powerUp checkMatches run) s = .next t) : rel s t := by
  obtain ⟨-, rfl⟩ | ⟨-, -, rfl⟩ | ⟨-, -, -, rfl | ⟨judged, expired, rfl⟩⟩ | ⟨-, -, -, rfl | rfl⟩ := powerUp_cases e
  · exact h.refl _
  · exact h.aside {}
  · exact h.started s
  · exact h.startCut ..
  · exact h.lost s
  · exact h.lostCut s

/-- Every command keeps the relation. -/
theorem exec {c : Instr} {s t : State} (e : exec c s = .next t) : rel s t := by
  have answered (r : Request) (status : Status) (body : List Byte) (t : State) : rel t (Machine.answer r status body t) :=
    h.answer (h.refl t) ..
  cases c with
  | serialFrame bytes | serialByteTimeout =>
    obtain rfl := Host.Outcome.next.inj e
    refine h.ite fun _ => ?_
    rw [takeSerial_frame]
    exact h.aside {}
  | lanFrame bytes checkPasses =>
    obtain rfl := Host.Outcome.next.inj e
    refine h.ite fun _ => ?_
    split
    · exact h.refl s
    · rw [acceptFrame_frame]
      exact h.aside {}
  | frameSent =>
    obtain rfl := Host.Outcome.next.inj e
    split
    · exact h.refl s
    · exact h.ite fun _ => h.aside {}
  | unknownKind =>
    obtain rfl := Host.Outcome.next.inj e
    refine h.ite fun _ => ?_
    split
    · exact h.refl s
    · split
      · exact h.refl s
      · exact h.aside {}
  | restartReset =>
    obtain rfl := Host.Outcome.next.inj e
    exact h.ite fun _ => h.restarted s
  | mainPowerLoss =>
    obtain rfl := Host.Outcome.next.inj e
    exact h.ite fun _ => h.unpowered s
  | batterySecond | cellFailed =>
    obtain rfl := Host.Outcome.next.inj e
    split
    · exact h.aside {}
    · exact h.refl s
  | powerUp checkMatches run => exact h.powerUp e
  | tick part =>
    obtain rfl := Host.Outcome.next.inj e
    cases part with
    | whole order => exact h.ite fun _ => h.tickWhole ..
    | clockOnly => exact h.ite fun _ => h.tickClockOnly s
    | expiryPass => exact h.ite fun _ => h.takeDueExpiry s
    | windowSweep => exact h.ite fun _ => h.takeDueWindow s
    | stopTimeSweep => exact h.ite fun _ => h.takeDueStopTime s
  | stalenessMinute order | replenish order =>
    obtain rfl := Host.Outcome.next.inj e
    exact h.ite fun _ => h.tickWhole ..
  | timeClaim tagOver order =>
    obtain rfl := Host.Outcome.next.inj e
    refine h.serveWith (fun T r t _ => ?_) s
    dsimp only
    split
    · exact h.answer (h.claimed T order t) ..
    · exact answered ..
  | siteParameter =>
    obtain rfl := Host.Outcome.next.inj e
    refine h.serveWith (fun q r t _ => h.answer ?_ ..) s
    split
    · exact h.evaluateAndSweep {} _
    · exact h.aside {}
  | setShape | setTerm =>
    obtain rfl := Host.Outcome.next.inj e
    exact h.serveWith (fun _ r t _ => h.answer (h.evaluateAndSweep {} _) ..) s
  | identify | clockStatus | marginStatus | listRevocations | engineStatus =>
    obtain rfl := Host.Outcome.next.inj e
    exact h.serveBare (fun r t => answered ..) s
  | provisionWrite =>
    obtain rfl := Host.Outcome.next.inj e
    exact h.serve (fun r t _ => h.provisionWrite r t) s
  | provisionFinalize =>
    obtain rfl := Host.Outcome.next.inj e
    refine h.serveBare (fun r t => ?_) s
    split
    · exact answered ..
    · split
      · exact h.aside {}
      · exact answered ..
  | collect | restart =>
    obtain rfl := Host.Outcome.next.inj e
    exact h.serveBare (fun r t => h.aside {}) s
  | dismiss | laneStatus =>
    obtain rfl := Host.Outcome.next.inj e
    exact h.serveWith (fun q r t _ => h.aside {}) s
  | noticeHold =>
    obtain rfl := Host.Outcome.next.inj e
    refine h.serveWith (fun hold r t _ => h.answer ?_ ..) s
    split
    · exact h.aside {}
    · exact h.aside {}
  | deliverBundle tagOver =>
    obtain rfl := Host.Outcome.next.inj e
    exact h.serve (fun r t on => h.deliverBundle tagOver r on) s
  | bundleStatus =>
    obtain rfl := Host.Outcome.next.inj e
    refine h.serveWith (fun q r t _ => ?_) s
    split
    · exact answered ..
    · split
      · exact answered ..
      · exact answered ..
  | listBundles =>
    obtain rfl := Host.Outcome.next.inj e
    exact h.serveWith (fun q r t _ => h.answer (h.listed ..) ..) s
  | deleteBundle =>
    obtain rfl := Host.Outcome.next.inj e
    exact h.serveWith (fun q r t _ => h.deleteBundle ..) s
  | revoke tagOver =>
    obtain rfl := Host.Outcome.next.inj e
    refine h.serveWith (fun o r t on => ?_) s
    split
    · exact answered ..
    · split
      · exact answered ..
      · split
        · exact answered ..
        next list action _ =>
          have kept : rel t (applyOrder o { t with revocations := list }).1 := h.trans (h.aside {}) (h.ordered o on)
          split
          next done _ _ struck =>
            rw [struck] at kept
            exact h.answer kept ..
  | sync =>
    obtain rfl := Host.Outcome.next.inj e
    refine h.serveBare (fun r t => ?_) s
    split
    · exact answered ..
    · split
      · exact answered ..
      · exact h.trans (h.snapshot t) (h.aside {})
  | bindScreen =>
    obtain rfl := Host.Outcome.next.inj e
    exact h.serveWith (fun q r t _ => h.whenClosed fun closed => h.answer (h.bound _ _ _ closed) ..) s
  | unbindScreen =>
    obtain rfl := Host.Outcome.next.inj e
    exact h.serveWith (fun l r t _ => h.whenClosed fun _ => h.answer (h.unbound ..) ..) s
  | setBias =>
    obtain rfl := Host.Outcome.next.inj e
    exact h.serveWith (fun q r t _ => h.whenClosed fun _ => h.answer (h.biased ..) ..) s
  | openScreening =>
    obtain rfl := Host.Outcome.next.inj e
    exact h.serveWith (fun q r t _ => h.openScreening ..) s
  | endScreening =>
    obtain rfl := Host.Outcome.next.inj e
    exact h.serveWith (fun q r t _ => h.endScreening ..) s
  | closeLane =>
    obtain rfl := Host.Outcome.next.inj e
    exact h.serveWith (fun q r t _ => h.closeLane ..) s
  | fetchReel =>
    obtain rfl := Host.Outcome.next.inj e
    exact h.serveWith (fun q r t _ => h.fetchReel ..) s
  | reelBegin =>
    obtain rfl := Host.Outcome.next.inj e
    exact h.serveWith (fun q r t _ => h.reelBegin ..) s
  | amendScreening =>
    obtain rfl := Host.Outcome.next.inj e
    exact h.serveWith (fun q r t _ => h.amendScreening ..) s
  | fetchReport =>
    obtain rfl := Host.Outcome.next.inj e
    exact h.serveWith (fun q r t _ => h.fetchReport ..) s
  | intakeUnwrapComplete outcome =>
    obtain rfl := Host.Outcome.next.inj e
    exact h.unwrapped outcome s
  | rewrapComplete outcome =>
    obtain rfl := Host.Outcome.next.inj e
    exact h.rewrapped outcome s
  | bindComplete outcome =>
    obtain rfl := Host.Outcome.next.inj e
    exact h.screenBound outcome s

/-- Every step keeps the relation, the queue of commands apart. -/
theorem step {s t : State} (e : step s = .next t) : rel s t := by
  obtain ⟨-, rfl⟩ | ⟨c, rest, -, e⟩ := step_cases e
  · exact h.refl _
  · exact h.trans (h.aside {}) (h.exec e)

end Regular

end Sys2Proof.Machine

/-! ## Who is in intake -/

namespace Sys2Proof.Machine

/-- The window cases give a window state or EXPIRED (R60). -/
theorem windowCase_cases (now m : Nat) (b : Bundle) :
    windowCase now m b = .expired ∨ (windowCase now m b).inWindow = true := by
  unfold windowCase
  split_ifs <;> simp [BundleState.inWindow]

theorem BundleState.ne_unwrapping_of_inWindow {st : BundleState} (h : st.inWindow = true) : st ≠ .unwrapping := by
  rintro rfl
  cases h

theorem windowCase_ne_unwrapping (now m : Nat) (b : Bundle) : windowCase now m b ≠ .unwrapping := by
  obtain e | e := windowCase_cases now m b
  · simp [e]
  · exact BundleState.ne_unwrapping_of_inWindow e

/-- The record in slot `i` is in UNWRAPPING. -/
def InIntake (k : Keyring) (i : SlotNo) : Prop := ∃ b ∈ k.slots[i], b.state = .unwrapping

/-- The same bundles are in UNWRAPPING, and the intake queue is the same. -/
structure SameIntake (s t : State) : Prop where
  queue : t.keyring.intakeQueue = s.keyring.intakeQueue
  members : ∀ i : SlotNo, InIntake t.keyring i ↔ InIntake s.keyring i

namespace SameIntake

theorem of_eq {s t : State} (h : t.keyring = s.keyring) : SameIntake s t := ⟨by rw [h], fun i => by rw [h]⟩

theorem refl (s : State) : SameIntake s s := of_eq rfl

theorem trans {a b c : State} (h : SameIntake a b) (k : SameIntake b c) : SameIntake a c :=
  ⟨k.queue.trans h.queue, fun i => (k.members i).trans (h.members i)⟩

theorem overlooks : Overlooks SameIntake := ⟨trans, fun _ _ _ => of_eq rfl⟩

theorem foldl {α : Type} (f : State → α → State) (one : ∀ t i, SameIntake t (f t i)) (l : List α) (s : State) :
    SameIntake s (l.foldl f s) :=
  frame_of_foldl f SameIntake refl (fun _ _ _ => trans) one l s

/-- A record replaced by one that is in UNWRAPPING where it was. -/
theorem revised {i : SlotNo} {s t : State} {b a : Bundle} (held : s.keyring.slots[i] = some b)
    (slots : t.keyring.slots = s.keyring.slots.set i (some a)) (queue : t.keyring.intakeQueue = s.keyring.intakeQueue)
    (same : a.state = .unwrapping ↔ b.state = .unwrapping) : SameIntake s t where
  queue := queue
  members j := by
    unfold InIntake
    rw [slots]
    by_cases ij : i = j
    · subst ij
      simp [held, same]
    · rw [slots_set_other s.keyring ij]

theorem enterWindow {i : SlotNo} {s : State} {b : Bundle} (held : s.keyring.slots[i] = some b)
    (going : b.state.inWindow = true) (now m : Nat) (x y : Bundle) :
    SameIntake s (enterWindow i x (windowCase now m y) s) := by
  have no := windowCase_ne_unwrapping now m y
  unfold Machine.enterWindow
  generalize windowCase now m y = st at no ⊢
  rw [postEntry_frame]
  refine trans ?_ (overlooks.link _ _)
  have before := BundleState.ne_unwrapping_of_inWindow going
  cases st with
  | expired => exact revised held rfl rfl (by simp [before, Bundle.enter])
  | unwrapping => exact absurd rfl no
  | waiting | live | closing | revoked | failed => exact revised held rfl rfl (by simp [before, Bundle.enter])

theorem judgeSlot (now m : Nat) (i : SlotNo) (s : State) : SameIntake s (judgeSlot now m i s) := by
  unfold Machine.judgeSlot
  split
  · exact refl s
  next b held =>
    split
    next moves => exact enterWindow held moves.1 ..
    · exact refl s

theorem windowSweep (s : State) : SameIntake s (windowSweep s) := foldl _ (fun t i => judgeSlot _ _ i t) _ s

theorem returnUse (i : SlotNo) (s : State) : SameIntake s (returnUse i s) := by
  unfold Machine.returnUse
  split
  · exact refl s
  next b held =>
    dsimp only
    split
    · exact revised held rfl rfl .rfl
    · exact revised held rfl rfl .rfl

theorem takeUse (i : SlotNo) (s : State) : SameIntake s (takeUse i s) := by
  unfold Machine.takeUse
  split
  next held => exact revised held rfl rfl .rfl
  · exact refl s

theorem endLane (l : LaneNo) (status : LaneStatus) (cause : EndCause) (notice : Notice) (s : State) :
    SameIntake s (endLane l status cause notice s) := by
  unfold Machine.endLane
  split
  · exact refl s
  · exact overlooks.post (trans (of_eq (by simp)) (returnUse ..)) _

theorem judgeLane (now lead : Nat) (l : LaneNo) (s : State) : SameIntake s (judgeLane now lead l s) := by
  unfold Machine.judgeLane
  split
  · exact refl s
  · split
    · exact endLane ..
    · split
      · exact endLane ..
      · split
        · exact of_eq (by simp)
        · exact refl s

theorem stopTimeSweep (s : State) : SameIntake s (stopTimeSweep s) := foldl _ (fun t l => judgeLane _ _ l t) _ s

theorem bothSweeps (order : SweepOrder) (s : State) : SameIntake s (bothSweeps order s) := by
  cases order
  · exact trans (windowSweep _) (stopTimeSweep _)
  · exact trans (stopTimeSweep _) (windowSweep _)

theorem beginOperation (s : State) : SameIntake s (beginOperation s) := by
  unfold Machine.beginOperation
  split
  · exact trans (of_eq (by simp)) (bothSweeps ..)
  · exact refl s

theorem beginCut (judged : JudgedSoFar) (expired : Bool) (s : State) : SameIntake s (beginCut judged expired s) := by
  have passed : SameIntake s (if expired then expiryPass s else s) := by
    split
    · exact of_eq rfl
    · exact refl s
  unfold Machine.beginCut
  split
  · dsimp only
    split
    · exact passed
    · exact trans passed (of_eq (by simp))
    · exact trans (trans passed (of_eq (by simp))) (windowSweep _)
  · exact refl s

end SameIntake

/-- The reset of the keyring leaves no bundle in UNWRAPPING (R56). -/
theorem resetKeyring_intake (s : State) (i : SlotNo) : ¬InIntake (resetKeyring s).keyring i := by
  rintro ⟨b, hb, intake⟩
  rw [Option.mem_def, (resetKeyring_restarted s).slots i] at hb
  split at hb
  · cases hb
  next other =>
    split_ifs at hb with unwrapping buried
    all_goals
      obtain rfl := Option.some.inj hb
      exact unwrapping intake

theorem startValid_intake (s : State) (i : SlotNo) : ¬InIntake (startValid s).keyring i :=
  resetKeyring_intake s.restored i

theorem empty_intake (i : SlotNo) : ¬InIntake Keyring.empty i := by simp [InIntake, Keyring.empty]

end Sys2Proof.Machine

/-! ## What events do to the records and the pool (O7, O8) -/

namespace Sys2Proof.Machine

/-- `a` is a later version of the record `b`: its delivered values are those of `b`, a tombstone stays one, and a bundle
comes into UNWRAPPING from elsewhere, or takes a use there, by no version. -/
structure Bundle.Follows (a b : Bundle) : Prop where
  bundleId : a.bundleId = b.bundleId := by rfl
  featureId : a.featureId = b.featureId := by rfl
  notBefore : a.notBefore = b.notBefore := by rfl
  notAfter : a.notAfter = b.notAfter := by rfl
  grace : a.grace = b.grace := by rfl
  allowance : a.allowance = b.allowance := by rfl
  reelCount : a.reelCount = b.reelCount := by rfl
  tombstone : b.isTombstone = true → a.isTombstone = true
  intake : a.state = .unwrapping → b.state = .unwrapping ∧ a.useCount ≤ b.useCount

/-- Whether a record holds keys turns on its use only where it is REVOKED. -/
theorem Bundle.holdsKeys_eq {a b : Bundle} (state : a.state = b.state)
    (use : b.state = .revoked → (0 < a.useCount ↔ 0 < b.useCount)) : a.holdsKeys = b.holdsKeys := by
  unfold Bundle.holdsKeys
  rw [state]
  cases st : b.state <;> simp_all

/-- A bundle in intake or in a window state holds its keys. -/
theorem Bundle.holdsKeys_of_going {b : Bundle} (h : b.state = .unwrapping ∨ b.state.inWindow = true) :
    b.holdsKeys = true := by
  unfold Bundle.holdsKeys
  cases st : b.state <;> simp_all [BundleState.inWindow]

theorem Bundle.isTombstone_eq_false {b : Bundle} (h : b.holdsKeys = true) : b.isTombstone = false := by
  simp [Bundle.isTombstone, h]

/-- One change to the keyring: a record revised with its keys, erased, or removed; a pool entry filled; the queue or the
list cursor moved; a delivery placed; or the retained domain lost.  A record that is erased becomes a tombstone, one
in UNWRAPPING that an order strikes (`on`, with main power) where it is in no use. -/
inductive RecordMove (on : Bool) (k : Keyring) : Keyring → Prop
  | revise (i : SlotNo) (b a : Bundle) (held : k.slots[i] = some b) (follows : a.Follows b)
    (refs : a.poolRefs = b.poolRefs) (keys : a.holdsKeys = b.holdsKeys) :
    RecordMove on k { k with slots := k.slots.set i (some a) }
  | erase (i : SlotNo) (b a : Bundle) (held : k.slots[i] = some b) (follows : a.Follows b) (refs : a.poolRefs = [])
    (buried : (on = true → b.state = .unwrapping → b.useCount = 0) → a.isTombstone = true) :
    RecordMove on k { k with slots := k.slots.set i (some a), pool := freeCells b.poolRefs k.pool }
  | remove (i : SlotNo) (b : Bundle) (held : k.slots[i] = some b) :
    RecordMove on k { k with slots := k.slots.set i none, pool := freeCells b.poolRefs k.pool }
  | fill (number : PoolNo) (key : KeyMaterial) : RecordMove on k { k with pool := fillCell number key k.pool }
  | queue (queue : List SlotNo) (cursor : SlotNo) :
    RecordMove on k { k with intakeQueue := queue, listCursor := cursor }
  | deliver (d : Delivery) (i : SlotNo) (now : Nat) (fits : DeliveryFits k d i) :
    RecordMove on k
      { k with
        slots := k.slots.set i (some (newRecord d ((freeNumbers k.pool).take d.reelCount) now))
        pool := reserveCells ((freeNumbers k.pool).take d.reelCount) k.pool
        intakeQueue := k.intakeQueue ++ [i] }
  | lose : RecordMove on k .empty

/-- One change to the keyring; or main power goes, or comes on where no bundle is in UNWRAPPING. -/
inductive RecordStep (s t : State) : Prop
  | records (power : t.powered = s.powered) (move : RecordMove s.powered s.keyring t.keyring)
  | off (power : t.powered = false) (keyring : t.keyring = s.keyring)
  | on (none : ∀ i : SlotNo, ¬InIntake s.keyring i) (keyring : t.keyring = s.keyring)

/-- Some changes, one after the other, lead from `s` to `t`. -/
def RecordsMove (s t : State) : Prop := Relation.ReflTransGen RecordStep s t

namespace RecordsMove

theorem trans {a b c : State} (h : RecordsMove a b) (k : RecordsMove b c) : RecordsMove a c :=
  Relation.ReflTransGen.trans h k

theorem move {s t : State} {k : Keyring} (m : RecordMove s.powered s.keyring k) (h : t.keyring = k)
    (power : t.powered = s.powered) : RecordsMove s t :=
  .single (.records power (h ▸ m))

theorem of_eq {s t : State} (h : t.keyring = s.keyring) (power : t.powered = s.powered) : RecordsMove s t :=
  move (.queue s.keyring.intakeQueue s.keyring.listCursor) h power

theorem refl (s : State) : RecordsMove s s := Relation.ReflTransGen.refl

theorem overlooks : Overlooks RecordsMove := ⟨trans, fun _ _ _ => of_eq rfl rfl⟩

theorem foldl {α : Type} (f : State → α → State) (one : ∀ t i, RecordsMove t (f t i)) (l : List α) (s : State) :
    RecordsMove s (l.foldl f s) :=
  frame_of_foldl f RecordsMove refl (fun _ _ _ => trans) one l s

/-! ### Records -/

theorem setBundle {i : SlotNo} {s : State} {b a : Bundle} (held : s.keyring.slots[i] = some b) (follows : a.Follows b)
    (refs : a.poolRefs = b.poolRefs) (keys : a.holdsKeys = b.holdsKeys) : RecordsMove s (setBundle i (some a) s) :=
  move (.revise i b a held follows refs keys) rfl rfl

theorem queued (s : State) (queue : List SlotNo) (cursor : SlotNo) :
    RecordsMove s { s with keyring := { s.keyring with intakeQueue := queue, listCursor := cursor } } :=
  move (.queue queue cursor) rfl rfl

theorem leaveQueue (i : SlotNo) (s : State) : RecordsMove s (leaveQueue i s) :=
  move (.queue (s.keyring.intakeQueue.filter fun t => t != i) s.keyring.listCursor) rfl rfl

theorem eraseKeys {i : SlotNo} {s : State} {b x : Bundle} {after : Bundle → Bundle}
    (held : s.keyring.slots[i] = some b) (own : x.poolRefs = b.poolRefs)
    (follows : (after { x with poolRefs := [], wrappedKeys := [] }).Follows b)
    (refs : (after { x with poolRefs := [], wrappedKeys := [] }).poolRefs = [])
    (buried : (s.powered = true → b.state = .unwrapping → b.useCount = 0) →
      (after { x with poolRefs := [], wrappedKeys := [] }).isTombstone = true) :
    RecordsMove s (eraseKeys i x after s) := by
  refine move (.erase i b _ held follows refs buried) ?_ rfl
  unfold Machine.eraseKeys
  rw [own]
  rfl

/-- A bundle in intake or in a window state enters the state of its window case. -/
theorem enterWindow {i : SlotNo} {s : State} {b : Bundle} (held : s.keyring.slots[i] = some b)
    (going : b.state = .unwrapping ∨ b.state.inWindow = true) (keys : List WrappedReelKey) (now m : Nat) (y : Bundle) :
    RecordsMove s (enterWindow i { b with wrappedKeys := keys } (windowCase now m y) s) := by
  have holds := Bundle.holdsKeys_of_going going
  have alive := Bundle.isTombstone_eq_false holds
  unfold Machine.enterWindow
  rw [postEntry_frame]
  refine trans ?_ (overlooks.link _ _)
  obtain e | e := windowCase_cases now m y
  · rw [e]
    exact eraseKeys held rfl { tombstone := fun _ => rfl, intake := fun st => by cases st } rfl fun _ => rfl
  · generalize windowCase now m y = st at e ⊢
    have revised : RecordsMove s (Machine.setBundle i (some ({ b with wrappedKeys := keys }.enter st s.clock.now)) s) := by
      refine setBundle held { tombstone := fun t => ?_, intake := fun st => ?_ } rfl ?_
      · simp [alive] at t
      · exact absurd st (BundleState.ne_unwrapping_of_inWindow e)
      · exact (Bundle.holdsKeys_of_going (.inr e)).trans holds.symm
    cases st with
    | waiting | live | closing => exact revised
    | unwrapping | expired | revoked | failed => cases e

theorem judgeSlot (now m : Nat) (i : SlotNo) (s : State) : RecordsMove s (judgeSlot now m i s) := by
  unfold Machine.judgeSlot
  split
  · exact refl s
  next b held =>
    split
    next moves => exact enterWindow held (.inr moves.1) b.wrappedKeys now m b
    · exact refl s

theorem windowSweep (s : State) : RecordsMove s (windowSweep s) := foldl _ (fun t i => judgeSlot _ _ i t) _ s

/-- A REVOKED record left with no use becomes a tombstone. -/
theorem buryRevoked {i : SlotNo} {s : State} {b : Bundle} (held : s.keyring.slots[i] = some b)
    (revoked : b.state = .revoked) (use : Nat) : RecordsMove s (buryRevoked i { b with useCount := use } s) := by
  have buried (time : Nat) (mode : Option RevocationMode) (keys : List WrappedReelKey) (refs : List PoolNo) :
      ({ b with useCount := 0, revocationMode := mode, entryTime := time, poolRefs := refs, wrappedKeys := keys } :
        Bundle).isTombstone = true := by
    simp [Bundle.isTombstone, Bundle.holdsKeys, revoked]
  refine eraseKeys held rfl { tombstone := fun _ => buried .., intake := fun st => ?_ } rfl fun _ => buried ..
  simp [revoked] at st

theorem returnUse (i : SlotNo) (s : State) : RecordsMove s (returnUse i s) := by
  unfold Machine.returnUse
  split
  · exact refl s
  next b held =>
    dsimp only
    split
    next last => exact buryRevoked held last.1 _
    next kept =>
      have keys : ({ b with useCount := b.useCount - 1 } : Bundle).holdsKeys = b.holdsKeys :=
        Bundle.holdsKeys_eq rfl fun revoked => by
          have : b.useCount - 1 ≠ 0 := fun none => kept ⟨revoked, none⟩
          dsimp only
          omega
      refine setBundle held { tombstone := fun t => ?_, intake := fun st => ⟨st, Nat.sub_le ..⟩ } rfl keys
      rwa [Bundle.isTombstone, keys]

theorem endLane (l : LaneNo) (status : LaneStatus) (cause : EndCause) (notice : Notice) (s : State) :
    RecordsMove s (endLane l status cause notice s) := by
  unfold Machine.endLane
  split
  · exact refl s
  · exact overlooks.post (trans (of_eq (by simp) (by simp)) (returnUse ..)) _

theorem judgeLane (now lead : Nat) (l : LaneNo) (s : State) : RecordsMove s (judgeLane now lead l s) := by
  unfold Machine.judgeLane
  split
  · exact refl s
  · split
    · exact endLane ..
    · split
      · exact endLane ..
      · split
        · exact of_eq (by simp) (by simp)
        · exact refl s

theorem stopTimeSweep (s : State) : RecordsMove s (stopTimeSweep s) := foldl _ (fun t l => judgeLane _ _ l t) _ s

theorem bothSweeps (order : SweepOrder) (s : State) : RecordsMove s (bothSweeps order s) := by
  cases order
  · exact trans (windowSweep _) (stopTimeSweep _)
  · exact trans (stopTimeSweep _) (windowSweep _)

theorem takeUse {i : SlotNo} {s : State} {b : Bundle} (held : s.keyring.slots[i] = some b)
    (going : b.state.inWindow = true) : RecordsMove s (takeUse i s) := by
  have holds := Bundle.holdsKeys_of_going (.inr going)
  unfold Machine.takeUse
  rw [held]
  refine setBundle held { tombstone := fun t => ?_, intake := fun st => ?_ } rfl ?_
  · simp [Bundle.isTombstone_eq_false holds] at t
  · exact absurd st (BundleState.ne_unwrapping_of_inWindow going)
  · exact Bundle.holdsKeys_eq rfl fun revoked => by simp [revoked, BundleState.inWindow] at going

theorem resetSlot (i : SlotNo) (s : State) : RecordsMove s (resetSlot i s) := by
  unfold Machine.resetSlot
  split
  · exact refl s
  next b held =>
    split
    · exact move (.remove i b held) rfl rfl
    · split
      next used => exact buryRevoked held used.1 b.useCount
      next unused =>
        have keys : ({ b with useCount := 0 } : Bundle).holdsKeys = b.holdsKeys :=
          Bundle.holdsKeys_eq rfl fun revoked => by simp_all
        refine setBundle held { tombstone := fun t => ?_, intake := fun st => ⟨st, Nat.zero_le _⟩ } rfl keys
        rwa [Bundle.isTombstone, keys]

theorem resetKeyring (s : State) : RecordsMove s (resetKeyring s) :=
  trans (foldl _ (fun t i => resetSlot i t) (List.finRange 64) s) (queued ..)

/-! ### Orders -/

theorem strikeUnused {i : SlotNo} {s : State} {b : Bundle} (on : s.powered = true) (held : s.keyring.slots[i] = some b)
    (going : b.state = .unwrapping ∨ b.state.inWindow = true) (unused : b.state.inWindow = true → b.useCount = 0) :
    RecordsMove s (strikeUnused i b s) := by
  refine eraseKeys held rfl { tombstone := fun t => ?_, intake := fun st => by cases st } rfl fun none => ?_
  · simp [Bundle.isTombstone_eq_false (Bundle.holdsKeys_of_going going)] at t
  · have zero : b.useCount = 0 := going.elim (none on) unused
    simp [Bundle.isTombstone, Bundle.holdsKeys, Bundle.enter, zero]

theorem stopLanes (i : SlotNo) (s : State) : RecordsMove s (stopLanes i s).1 :=
  of_eq (by rw [stopLanes_frame]) (by rw [stopLanes_frame])

theorem strikeSlot (o : Order) (i : SlotNo) {s : State} (on : s.powered = true) : RecordsMove s (strikeSlot o i s).1 := by
  unfold Machine.strikeSlot
  split
  · exact refl s
  next b held =>
    split
    · exact refl s
    · split
      next st =>
        have struck := trans (strikeUnused on held (.inl st) fun window => by simp [st, BundleState.inWindow] at window)
          (leaveQueue i _)
        exact overlooks.presentIntake (overlooks.dropJobs struck _)
      iterate 3
        next st =>
          have going : b.state.inWindow = true := by rw [st]; rfl
          split
          next unused => exact strikeUnused on held (.inr going) fun _ => unused
          next used =>
            have revoked (mode : Option RevocationMode) :
                RecordsMove s
                  (Machine.setBundle i (some { b.enter .revoked s.clock.now with revocationMode := mode }) s) := by
              refine setBundle held { tombstone := fun t => ?_, intake := fun st => by cases st } rfl ?_
              · simp [Bundle.isTombstone_eq_false (Bundle.holdsKeys_of_going (.inr going))] at t
              · rw [Bundle.holdsKeys_of_going (.inr going)]
                exact decide_eq_true (Nat.pos_of_ne_zero used)
            dsimp only
            split
            · exact trans (revoked _) (stopLanes ..)
            · exact revoked _
      next st =>
        split
        · refine trans (setBundle held (a := { b with revocationMode := some .immediate }) ?_ rfl ?_) (stopLanes ..)
          · exact { tombstone := id, intake := fun st => ⟨st, le_rfl⟩ }
          · rfl
        · exact refl s
      · exact refl s
      · exact refl s

theorem applyOrder (o : Order) {s : State} (on : s.powered = true) : RecordsMove s (applyOrder o s).1 := by
  rw [applyOrder_fst]
  have kept :=
    frame_of_foldl (fun t i => (Machine.strikeSlot o i t).1)
      (fun s t => s.powered = true → RecordsMove s t ∧ t.powered = true) (fun t on => ⟨refl t, on⟩)
      (fun _ _ _ h k on => ⟨trans (h on).1 (k (h on).2).1, (k (h on).2).2⟩)
      (fun t i on => ⟨strikeSlot o i on, by rw [strikeSlot_frame]; exact on⟩) (List.finRange 64) s
  exact (kept on).1

/-! ### Completions -/

theorem passReel {i : SlotNo} {s : State} {b : Bundle} (held : s.keyring.slots[i] = some b)
    (intake : b.state = .unwrapping) (key : KeyMaterial) : RecordsMove s (passReel i b key s) := by
  have filled (refs : Option PoolNo) :
      RecordsMove s
        { s with
          keyring :=
            { s.keyring with
              pool :=
                match refs with
                | some number => fillCell number key s.keyring.pool
                | none => s.keyring.pool } } := by
    cases refs with
    | some number => exact move (.fill number key) rfl rfl
    | none => exact refl s
  have follows : ({ b with reelsUnwrapped := b.reelsUnwrapped + 1, wrappedKeys := b.wrappedKeys.tail } : Bundle).Follows
      b := { tombstone := id, intake := fun st => ⟨st, le_rfl⟩ }
  have grown := trans (filled b.poolRefs[b.reelsUnwrapped]?) (setBundle (i := i) held follows rfl rfl)
  unfold Machine.passReel
  dsimp only
  split
  · exact grown
  · unfold endIntake
    dsimp only
    refine trans (trans grown (overlooks.post (leaveQueue i _) (.bundleReady i))) ?_
    refine enterWindow (b := { b with reelsUnwrapped := b.reelsUnwrapped + 1, wrappedKeys := b.wrappedKeys.tail })
      ?_ (.inl intake) [] _ _ _
    rw [post_keyring, leaveQueue_keyring_slots, setBundle_keyring_slots, slots_set_same]

theorem failReel {i : SlotNo} {s : State} {b : Bundle} (held : s.keyring.slots[i] = some b) :
    RecordsMove s (failReel i b s) := by
  have erased : RecordsMove s (Machine.eraseKeys i b (fun b => b.enter .failed s.clock.now) s) :=
    eraseKeys held rfl { tombstone := fun _ => rfl, intake := fun st => by cases st } rfl fun _ => rfl
  exact overlooks.post (trans erased (leaveQueue ..)) _

theorem deliverIntake (outcome : Option KeyMaterial) (j : ServiceJob) (s : State) :
    RecordsMove s (deliverIntake outcome j s) := by
  unfold Machine.deliverIntake
  split
  · split
    · exact refl s
    next b held =>
      split
      next awaits =>
        split
        · exact passReel held awaits.1 _
        · exact failReel held
      · exact refl s
  · exact refl s

theorem deliverRewrap (outcome : Option WrappedReelKey) (j : ServiceJob) (s : State) :
    RecordsMove s (deliverRewrap outcome j s) := by
  unfold Machine.deliverRewrap
  split
  · split
    · exact refl s
    · split
      · split
        · exact of_eq (by simp) (by simp)
        · exact endLane ..
      · exact refl s
  · exact refl s

theorem deliverBind (outcome : Option KeyMaterial) (j : ServiceJob) (s : State) :
    RecordsMove s (deliverBind outcome j s) := of_eq (by rw [deliverBind_frame]) (by rw [deliverBind_frame])

theorem grant (s : State) : RecordsMove s (grant s) := of_eq (by simp) (by simp)

/-! ### Requests and start-ups -/

theorem acceptDelivery {s : State} {d : Delivery} {i : SlotNo} (fits : DeliveryFits s.keyring d i) :
    RecordsMove s (acceptDelivery d i s) := by
  unfold Machine.acceptDelivery
  dsimp only
  refine trans (overlooks.presentIntake (t := { s with keyring := _ }) ?_) (grant _)
  exact move (.deliver d i s.clock.now fits) rfl rfl

theorem openOn {s : State} {q : OpenRequest} {i : SlotNo} {b : Bundle} (held : s.keyring.slots[i] = some b)
    (going : b.state.inWindow = true) : RecordsMove s (openOn q i b s) := by
  unfold Machine.openOn
  refine trans (trans (takeUse held going) ?_) (grant _)
  refine of_eq ?_ ?_ <;> rw [fillAtOpen_frame] <;> simp

theorem acceptBegin (q : BeginRequest) (sc : Screening) (n : Nat) (p : Position) (holder : SlotName) (r : Request)
    (s : State) : RecordsMove s (acceptBegin q sc n p holder r s) := by
  unfold Machine.acceptBegin
  dsimp only
  split
  · exact of_eq (by rw [answer_keyring, grant_keyring, refillAfter_frame, setLane_keyring])
      (by rw [answer_powered, grant_powered, refillAfter_frame, setLane_powered])
  · split
    · exact overlooks.answer (trans (of_eq (by simp) (by simp)) (endLane ..)) ..
    · exact of_eq (by rw [answer_keyring, grant_keyring, refillAfter_frame, alignSlots_frame, setLane_keyring])
        (by rw [answer_powered, grant_powered, refillAfter_frame, alignSlots_frame, setLane_powered])

theorem startValid (s : State) : RecordsMove s (startValid s) := by
  have restored : RecordsMove s s.restored := of_eq rfl rfl
  exact trans restored (resetKeyring _)

theorem withoutPower (s : State) : RecordsMove s (withoutPower s) :=
  trans (queued s [] 0) (.single (.off rfl rfl))

theorem powerOn {s : State} (none : ∀ i : SlotNo, ¬InIntake s.keyring i) : RecordsMove s { s with powered := true } :=
  .single (.on none rfl)

theorem beginOperation (s : State) : RecordsMove s (beginOperation s) := by
  unfold Machine.beginOperation
  split
  · exact trans (of_eq (by simp) (by simp)) (bothSweeps ..)
  · exact refl s

theorem beginCut (judged : JudgedSoFar) (expired : Bool) (s : State) : RecordsMove s (beginCut judged expired s) := by
  have passed : RecordsMove s (if expired then expiryPass s else s) := by
    split
    · exact of_eq rfl rfl
    · exact refl s
  unfold Machine.beginCut
  split
  · dsimp only
    split
    · exact passed
    · exact trans passed (of_eq (by simp) (by simp))
    · exact trans (trans passed (of_eq (by simp) (by simp))) (windowSweep _)
  · exact refl s

theorem startLost (s : State) : RecordsMove s (startLost s) := move .lose rfl rfl

theorem restarted (s : State) (link : Link) (engine : Engine) (lanes : Vector (Option Screening) 32)
    (screens : Vector Screen 32) : RecordsMove s (Machine.resetKeyring { s with link, engine, lanes, screens }) := by
  have cleared : RecordsMove s { s with link, engine, lanes, screens } := of_eq rfl rfl
  exact trans cleared (resetKeyring _)

theorem regular : Regular RecordsMove where
  trans := trans
  aside same := of_eq same.keyring same.powered
  windowSweep := windowSweep
  stopTimeSweep := stopTimeSweep
  listed s cursor := queued s s.keyring.intakeQueue cursor
  delivered _ fits := acceptDelivery fits
  deleted held _ := move (.remove _ _ held) rfl rfl
  ordered o _ on := applyOrder o on
  snapshot _ := of_eq rfl rfl
  bound _ _ _ _ := of_eq (by simp) (by simp)
  unbound _ _ := of_eq (by simp) (by simp)
  biased _ _ _ := of_eq (by simp) (by simp)
  opened _ _ held going := openOn held going
  finished _ _ _ := endLane ..
  closed _ _ := of_eq (by simp) (by simp)
  recorded _ _ := of_eq (by simp) (by simp)
  begun _ _ _ _ _ _ := acceptBegin ..
  unwrapped outcome := overlooks.completeJob (deliverIntake outcome) (fun t => overlooks.presentIntake (refl t)) grant
  rewrapped outcome := overlooks.completeJob (deliverRewrap outcome) refl grant
  screenBound outcome := overlooks.completeJob (deliverBind outcome) refl grant
  restarted s := restarted ..
  unpowered := withoutPower
  started s :=
    trans (trans (startValid s) (beginOperation _))
      (powerOn fun i h => startValid_intake s i (((SameIntake.beginOperation _).members i).1 h))
  startCut _ _ s := trans (trans (startValid s) (beginCut ..)) (withoutPower _)
  lost s := trans (startLost s) (powerOn empty_intake)
  lostCut s := trans (startLost s) (withoutPower _)

end RecordsMove

end Sys2Proof.Machine

/-! ## Bundle ids and features stay within their bounds (O7) -/

namespace Sys2Proof.Machine

/-- Where fewer slots satisfy a condition, it is counted no higher. -/
theorem countWhere_le {k m : Keyring} {p : Bundle → Bool}
    (h : ∀ i : SlotNo, (m.slots[i]).any p = true → (k.slots[i]).any p = true) : countWhere m p ≤ countWhere k p :=
  (List.monotone_filter_right _ h).length_le

/-- Where at most one more slot satisfies a condition, it is counted at most one higher. -/
theorem countWhere_le_succ {k m : Keyring} {p : Bundle → Bool} (i : SlotNo)
    (h : ∀ j : SlotNo, j ≠ i → (m.slots[j]).any p = true → (k.slots[j]).any p = true) :
    countWhere m p ≤ countWhere k p + 1 := by
  have covered : slotsWhere m p ⊆ i :: slotsWhere k p := by
    intro j hj
    by_cases ij : j = i
    · simp [ij]
    · refine List.mem_cons_of_mem _ (List.mem_filter.2 ⟨List.mem_finRange j, ?_⟩)
      exact h j ij (List.mem_filter.1 hj).2
  exact (((List.nodup_finRange 64).filter _).subperm covered).length_le

/-- The ranges of a record's delivered values (section 3.1). -/
def Bundle.InRange (b : Bundle) : Prop :=
  b.notBefore < b.notAfter ∧ b.grace ≤ 14400 ∧ 1 ≤ b.allowance ∧ b.allowance ≤ 32 ∧ 1 ≤ b.reelCount ∧ b.reelCount ≤ 24

/-- A later version has the ranges of the earlier. -/
theorem Bundle.Follows.inRange {a b : Bundle} (h : a.Follows b) (range : b.InRange) : a.InRange := by
  unfold Bundle.InRange
  rwa [h.notBefore, h.notAfter, h.grace, h.allowance, h.reelCount]

/-- The slots of `m` hold records of `k`, each at most in a later version. -/
def Keyring.Thins (k m : Keyring) : Prop :=
  ∀ (i : SlotNo) (a : Bundle), m.slots[i] = some a → ∃ b, k.slots[i] = some b ∧ a.Follows b

theorem Bundle.Follows.refl (b : Bundle) : b.Follows b := { tombstone := id, intake := fun st => ⟨st, le_rfl⟩ }

theorem Keyring.Thins.of_slots {k m : Keyring} (h : m.slots = k.slots) : k.Thins m :=
  fun i a ha => ⟨a, by rw [← h, ha], .refl a⟩

/-- One slot emptied, or its record in a later version. -/
theorem Keyring.Thins.of_set {k m : Keyring} {i : SlotNo} {new : Option Bundle} (slots : m.slots = k.slots.set i new)
    (follows : ∀ a, new = some a → ∃ b, k.slots[i] = some b ∧ a.Follows b) : k.Thins m := by
  intro j a ha
  rw [slots] at ha
  by_cases ij : i = j
  · subst ij
    exact follows a (by simpa using ha)
  · rw [slots_set_other k ij] at ha
    exact ⟨a, ha, .refl a⟩

theorem recordsOk_thinned {s t : State} (h : s.keyring.Thins t.keyring) (ok : RecordsOk s) : RecordsOk t := by
  obtain ⟨distinct, features, ranges⟩ := ok
  refine ⟨fun i j a ha c hc same => ?_, fun i a ha => ?_, fun i a ha => ?_⟩
  · obtain ⟨b, hb, ab⟩ := h i a ha
    obtain ⟨d, hd, cd⟩ := h j c hc
    exact distinct i j b hb d hd (by rw [← ab.bundleId, ← cd.bundleId, same])
  · obtain ⟨b, hb, ab⟩ := h i a ha
    refine le_trans (countWhere_le fun j counted => ?_) (ab.featureId ▸ features i b hb)
    obtain ⟨c, hc, tests⟩ := Option.any_eq_true .. |>.1 counted
    obtain ⟨d, hd, cd⟩ := h j c hc
    rw [hd]
    rw [Bool.and_eq_true, cd.featureId] at tests
    simp only [Option.any_some, Bool.and_eq_true, tests.1, true_and]
    cases buried : d.isTombstone with
    | false => rfl
    | true => simp [cd.tombstone buried] at tests
  · obtain ⟨b, hb, ab⟩ := h i a ha
    exact ab.inRange (ranges i b hb)

/-- An accepted delivery puts a record with its own values into its slot. -/
theorem recordsOk_delivered {s t : State} {d : Delivery} {i : SlotNo} {new : Bundle}
    (fits : DeliveryFits s.keyring d i) (slots : t.keyring.slots = s.keyring.slots.set i (some new))
    (bundleId : new.bundleId = d.bundleId) (featureId : new.featureId = d.featureId) (range : new.InRange)
    (ok : RecordsOk s) : RecordsOk t := by
  obtain ⟨distinct, features, ranges⟩ := ok
  have here : t.keyring.slots[i] = some new := by simp [slots]
  have elsewhere (j : SlotNo) (ij : j ≠ i) : t.keyring.slots[j] = s.keyring.slots[j] := by
    rw [slots, slots_set_other s.keyring ij.symm]
  have alone (j : SlotNo) (b : Bundle) (ij : j ≠ i) (hb : s.keyring.slots[j] = some b) : b.bundleId ≠ d.bundleId := by
    intro same
    obtain ⟨a, ha, own⟩ := fits.own j b hb same
    exact ij (distinct j i b hb a ha (same.trans own.symm))
  have held (j : SlotNo) (a : Bundle) (ha : t.keyring.slots[j] = some a) :
      (j = i ∧ a = new) ∨ (j ≠ i ∧ s.keyring.slots[j] = some a) := by
    by_cases ij : j = i
    · subst ij
      exact .inl ⟨rfl, Option.some.inj (ha.symm.trans here)⟩
    · exact .inr ⟨ij, by rw [← elsewhere j ij, ha]⟩
  refine ⟨fun j l a ha c hc same => ?_, fun j a ha => ?_, fun j a ha => ?_⟩
  · obtain ⟨rfl, rfl⟩ | ⟨ji, ha⟩ := held j a ha
    · obtain ⟨rfl, -⟩ | ⟨li, hc⟩ := held l c hc
      · rfl
      · exact absurd (same.symm.trans bundleId) (alone l c li hc)
    · obtain ⟨rfl, rfl⟩ | ⟨li, hc⟩ := held l c hc
      · exact absurd (same.trans bundleId) (alone j a ji ha)
      · exact distinct j l a ha c hc same
  · by_cases feature : a.featureId = d.featureId
    · rw [feature]
      refine le_trans (countWhere_le_succ i fun l li counted => ?_) fits.feature
      rwa [elsewhere l li] at counted
    · obtain ⟨rfl, rfl⟩ | ⟨ji, ha⟩ := held j a ha
      · exact absurd featureId feature
      · refine le_trans (countWhere_le fun l counted => ?_) (features j a ha)
        by_cases li : l = i
        · subst li
          rw [here] at counted
          simp [featureId, Ne.symm feature] at counted
        · rwa [elsewhere l li] at counted
  · obtain ⟨rfl, rfl⟩ | ⟨ji, ha⟩ := held j a ha
    · exact range
    · exact ranges j a ha

theorem RecordStep.recordsOk {s t : State} (h : RecordStep s t) (ok : RecordsOk s) : RecordsOk t := by
  cases h with
  | off power keyring | on none keyring => exact recordsOk_thinned (.of_slots (by rw [keyring])) ok
  | records power move =>
    generalize moved : t.keyring = k at move
    cases move with
    | revise i b a held follows | erase i b a held follows =>
      refine recordsOk_thinned (.of_set (i := i) (new := some a) (by rw [moved]) ?_) ok
      rintro _ ⟨⟩
      exact ⟨b, held, follows⟩
    | remove i b held => exact recordsOk_thinned (.of_set (i := i) (new := none) (by rw [moved]) (by simp)) ok
    | fill number key | queue queue cursor => exact recordsOk_thinned (.of_slots (by rw [moved])) ok
    | deliver d i now fits => exact recordsOk_delivered (new := newRecord d _ now) fits (by rw [moved]) rfl rfl fits.ranges ok
    | lose => exact recordsOk_thinned (fun i a ha => by simp [moved, Keyring.empty] at ha) ok

theorem RecordsMove.recordsOk {s t : State} (h : RecordsMove s t) (ok : RecordsOk s) : RecordsOk t := by
  induction h with
  | refl => exact ok
  | tail _ last ih => exact last.recordsOk ih

/-- Settles O7: every change to the records leaves them in a later version or places a checked delivery. -/
theorem recordsStayDistinct : Obligations.RecordsStayDistinct :=
  fun _ _ ok e => (RecordsMove.regular.step e).recordsOk ok

end Sys2Proof.Machine

/-! ## The pool adds up (O8) -/

namespace Sys2Proof.Machine

/-- The pool entries that the record in a slot refers to. -/
def Keyring.refsAt (k : Keyring) (i : SlotNo) : List PoolNo := (k.slots[i]).elim [] Bundle.poolRefs

@[simp] theorem Keyring.refsAt_some {k : Keyring} {i : SlotNo} {b : Bundle} (h : k.slots[i] = some b) :
    k.refsAt i = b.poolRefs := by simp [refsAt, h]

@[simp] theorem Keyring.refsAt_none {k : Keyring} {i : SlotNo} (h : k.slots[i] = none) : k.refsAt i = [] := by
  simp [refsAt, h]

/-- How many pool entries the record in a slot is to refer to (R40). -/
def owedReels (record : Option Bundle) : Nat := record.elim 0 fun b => if b.holdsKeys then b.reelCount else 0

/-- The pool with its owners (R40). -/
structure PoolFits (k : Keyring) : Prop where
  rising : poolRising k.pool
  lengths : ∀ i : SlotNo, (k.refsAt i).length = owedReels k.slots[i]
  nodup : ∀ i : SlotNo, (k.refsAt i).Nodup
  members : ∀ n : PoolNo, n ∈ k.pool.map PoolCell.number ↔ ∃ i : SlotNo, n ∈ k.refsAt i
  owners : ∀ (i j : SlotNo) (n : PoolNo), n ∈ k.refsAt i → n ∈ k.refsAt j → i = j

theorem poolOk_iff (s : State) : PoolOk s ↔ PoolFits s.keyring := by
  have mem (i : SlotNo) (n : PoolNo) : n ∈ s.keyring.refsAt i ↔ ∃ b ∈ s.keyring.slots[i], n ∈ b.poolRefs := by
    cases h : s.keyring.slots[i] <;> simp [Keyring.refsAt, h]
  constructor
  · rintro ⟨rising, refs, members, owners⟩
    refine
      { rising, lengths := fun i => ?_, nodup := fun i => ?_, members := fun n => by simp only [members, mem]
        owners := fun i j n hi hj => ?_ }
    · cases h : s.keyring.slots[i] with
      | none => simp [h, owedReels]
      | some b => simpa [h, owedReels] using (refs i b h).1
    · cases h : s.keyring.slots[i] with
      | none => simp [h]
      | some b => simpa [h] using (refs i b h).2
    · obtain ⟨a, ha, na⟩ := (mem i n).1 hi
      obtain ⟨b, hb, nb⟩ := (mem j n).1 hj
      exact owners i j a ha b hb n na nb
  · intro fits
    refine ⟨fits.rising, fun i b hb => ⟨?_, ?_⟩, fun n => by simp only [fits.members, mem], ?_⟩
    · have length := fits.lengths i
      rw [Option.mem_def] at hb
      simpa [hb, owedReels] using length
    · exact Keyring.refsAt_some hb ▸ fits.nodup i
    · intro i j a ha b hb n na nb
      exact fits.owners i j n ((mem i n).2 ⟨a, ha, na⟩) ((mem j n).2 ⟨b, hb, nb⟩)

/-- The entries of a pool in canonical form are distinct. -/
theorem poolRising.nodup {pool : List PoolCell} (h : poolRising pool) : (pool.map PoolCell.number).Nodup :=
  (List.pairwise_map.2 h).imp fun lt => ne_of_lt lt

theorem freeNumbers_nodup (pool : List PoolCell) : (freeNumbers pool).Nodup := (List.nodup_finRange 768).filter _

/-- Every entry is free or in the pool. -/
theorem freeNumbers_length {pool : List PoolCell} (h : poolRising pool) :
    (freeNumbers pool).length + pool.length = 768 := by
  have free (n : PoolNo) : n ∈ freeNumbers pool ↔ n ∉ pool.map PoolCell.number := by simp [mem_freeNumbers]
  have all : (freeNumbers pool ++ pool.map PoolCell.number).Perm (List.finRange 768) := by
    refine (List.perm_ext_iff_of_nodup (List.nodup_append.2 ⟨?_, h.nodup, ?_⟩) (List.nodup_finRange 768)).2 ?_
    · exact freeNumbers_nodup pool
    · rintro n hn _ hm rfl
      exact (free n).1 hn hm
    · intro n
      simp only [List.mem_append, free, List.mem_finRange, iff_true]
      exact (em _).symm
  simpa using all.length_eq

namespace PoolFits

variable {k : Keyring} (h : PoolFits k)
include h

/-- An entry that a record refers to is in the pool. -/
theorem mem_of_refsAt {i : SlotNo} {n : PoolNo} (m : n ∈ k.refsAt i) : n ∈ k.pool.map PoolCell.number :=
  (h.members n).2 ⟨i, m⟩

/-- One slot's record replaced, its entries leaving the pool and those of the new record joining it. -/
theorem replaced {m : Keyring} {i : SlotNo} {new : Option Bundle} (slots : m.slots = k.slots.set i new)
    (rising : poolRising m.pool) (length : (m.refsAt i).length = owedReels new) (nodup : (m.refsAt i).Nodup)
    (pool : ∀ n, n ∈ m.pool.map PoolCell.number ↔
      (n ∈ k.pool.map PoolCell.number ∧ n ∉ k.refsAt i) ∨ n ∈ m.refsAt i)
    (fresh : ∀ n ∈ m.refsAt i, n ∈ k.refsAt i ∨ n ∉ k.pool.map PoolCell.number) : PoolFits m := by
  have here : m.slots[i] = new := by simp [slots]
  have elsewhere (j : SlotNo) (ij : j ≠ i) : m.slots[j] = k.slots[j] := by rw [slots, slots_set_other k ij.symm]
  have refs (j : SlotNo) (ij : j ≠ i) : m.refsAt j = k.refsAt j := by rw [Keyring.refsAt, elsewhere j ij]; rfl
  have apart (j : SlotNo) (n : PoolNo) (ij : j ≠ i) (hj : n ∈ m.refsAt j) : n ∉ m.refsAt i := by
    rw [refs j ij] at hj
    intro hi
    obtain old | new := fresh n hi
    · exact ij (h.owners j i n hj old)
    · exact new (h.mem_of_refsAt hj)
  refine { rising, lengths := fun j => ?_, nodup := fun j => ?_, members := fun n => ?_, owners := fun j l n hj hl => ?_ }
  · by_cases ij : j = i
    · subst ij
      rw [here, length]
    · rw [refs j ij, elsewhere j ij, h.lengths j]
  · by_cases ij : j = i
    · subst ij
      exact nodup
    · rw [refs j ij]
      exact h.nodup j
  · rw [pool]
    constructor
    · rintro (⟨old, other⟩ | own)
      · obtain ⟨j, hj⟩ := (h.members n).1 old
        have ij : j ≠ i := fun e => other (e ▸ hj)
        exact ⟨j, by rwa [refs j ij]⟩
      · exact ⟨i, own⟩
    · rintro ⟨j, hj⟩
      by_cases ij : j = i
      · exact .inr (ij ▸ hj)
      · rw [refs j ij] at hj
        exact .inl ⟨h.mem_of_refsAt hj, fun hi => ij (h.owners j i n hj hi)⟩
  · by_cases ji : j = i
    · by_cases li : l = i
      · rw [ji, li]
      · exact absurd (ji ▸ hj) (apart l n li hl)
    · by_cases li : l = i
      · exact absurd (li ▸ hl) (apart j n ji hj)
      · rw [refs j ji] at hj
        rw [refs l li] at hl
        exact h.owners j l n hj hl

/-- A record revised with its entries. -/
theorem revised {i : SlotNo} {b a : Bundle} (held : k.slots[i] = some b) (refs : a.poolRefs = b.poolRefs)
    (keys : a.holdsKeys = b.holdsKeys) (count : a.reelCount = b.reelCount) :
    PoolFits { k with slots := k.slots.set i (some a) } := by
  have same : ({ k with slots := k.slots.set i (some a) } : Keyring).refsAt i = k.refsAt i := by
    rw [Keyring.refsAt_some held, ← refs]
    exact Keyring.refsAt_some (slots_set_same ..)
  refine h.replaced rfl h.rising ?_ ?_ (fun n => ?_) fun n hn => .inl (same ▸ hn)
  · rw [same, h.lengths i, held]
    simp [owedReels, keys, count]
  · rw [same]
    exact h.nodup i
  · rw [same]
    constructor
    · exact fun hn => (em (n ∈ k.refsAt i)).symm.imp_left fun other => ⟨hn, other⟩
    · exact fun hn => hn.elim And.left h.mem_of_refsAt

/-- A record that leaves its entries, removed or holding no keys. -/
theorem freed {i : SlotNo} {b : Bundle} {new : Option Bundle} (held : k.slots[i] = some b)
    (none : new.elim [] Bundle.poolRefs = []) (owed : owedReels new = 0) :
    PoolFits { k with slots := k.slots.set i new, pool := freeCells b.poolRefs k.pool } := by
  have gone :
      ({ k with slots := k.slots.set i new, pool := freeCells b.poolRefs k.pool } : Keyring).refsAt i = [] := by
    rw [Keyring.refsAt, slots_set_same, none]
  refine h.replaced rfl (freeCells_rising _ h.rising) ?_ ?_ (fun n => ?_) (by simp [gone])
  · rw [gone, owed]
    rfl
  · rw [gone]
    exact List.nodup_nil
  · rw [gone, Keyring.refsAt_some held]
    simp only [freeCells, List.mem_map, List.mem_filter, List.contains_eq_mem, Bool.not_eq_eq_eq_not, Bool.not_true,
      decide_eq_false_iff_not, List.not_mem_nil, or_false]
    constructor
    · rintro ⟨c, ⟨hc, free⟩, rfl⟩
      exact ⟨⟨c, hc, rfl⟩, free⟩
    · rintro ⟨⟨c, hc, rfl⟩, free⟩
      exact ⟨c, ⟨hc, free⟩, rfl⟩

/-- An entry filled keeps its number. -/
theorem filled (number : PoolNo) (key : KeyMaterial) : PoolFits { k with pool := fillCell number key k.pool } := by
  have numbers : (fillCell number key k.pool).map PoolCell.number = k.pool.map PoolCell.number := by
    rw [fillCell, List.map_map]
    refine List.map_congr_left fun c _ => ?_
    rw [Function.comp_apply]
    split <;> rfl
  refine { h with rising := fillCell_rising number key h.rising, members := fun n => ?_ }
  rw [numbers]
  exact h.members n

/-- The entries of an accepted delivery were free, and its slot referred to none. -/
theorem delivered {d : Delivery} {i : SlotNo} (fits : DeliveryFits k d i) (now : Nat) :
    PoolFits
      { k with
        slots := k.slots.set i (some (newRecord d ((freeNumbers k.pool).take d.reelCount) now))
        pool := reserveCells ((freeNumbers k.pool).take d.reelCount) k.pool
        intakeQueue := k.intakeQueue ++ [i] } := by
  have before : k.refsAt i = [] := by
    obtain none | ⟨b, held, buried⟩ := fits.place
    · exact Keyring.refsAt_none none
    · have length := h.lengths i
      rw [Bundle.isTombstone, Bool.not_eq_true'] at buried
      simpa [held, owedReels, buried] using length
  have room : d.reelCount ≤ (freeNumbers k.pool).length := by
    have all := freeNumbers_length h.rising
    have enough : d.reelCount ≤ 768 - k.pool.length := fits.pool
    omega
  have free (n : PoolNo) (hn : n ∈ (freeNumbers k.pool).take d.reelCount) : ∀ c ∈ k.pool, c.number ≠ n :=
    mem_freeNumbers.1 (List.mem_of_mem_take hn)
  have distinct : ((freeNumbers k.pool).take d.reelCount).Nodup :=
    (freeNumbers_nodup k.pool).sublist (List.take_sublist ..)
  have length : ((freeNumbers k.pool).take d.reelCount).length = d.reelCount := by rw [List.length_take, min_eq_left room]
  generalize (freeNumbers k.pool).take d.reelCount = refs at free distinct length
  have after :
      ({ k with
          slots := k.slots.set i (some (newRecord d refs now))
          pool := reserveCells refs k.pool
          intakeQueue := k.intakeQueue ++ [i] } : Keyring).refsAt i = refs :=
    Keyring.refsAt_some (b := newRecord d refs now) (slots_set_same ..)
  refine h.replaced rfl (reserveCells_rising h.rising distinct free) ?_ ?_ (fun n => ?_) fun n hn => .inr ?_
  · rw [after, length]
    rfl
  · rwa [after]
  · rw [after, before]
    simp only [List.mem_map, mem_reserveCells, List.not_mem_nil, not_false_eq_true, and_true]
    constructor
    · rintro ⟨c, hc | ⟨m, hm, rfl⟩, rfl⟩
      · exact .inl ⟨c, hc, rfl⟩
      · exact .inr hm
    · rintro (⟨c, hc, rfl⟩ | hn)
      · exact ⟨c, .inl hc, rfl⟩
      · exact ⟨_, .inr ⟨n, hn, rfl⟩, rfl⟩
  · rw [after] at hn
    rw [List.mem_map]
    rintro ⟨c, hc, rfl⟩
    exact free c.number hn c hc rfl

/-- The reels of the records that hold keys are the entries in the pool. -/
theorem heldReels_eq : heldReels k = k.pool.length := by
  have same : (k.pool.map PoolCell.number).Perm ((List.finRange 64).flatMap k.refsAt) := by
    refine (List.perm_ext_iff_of_nodup h.rising.nodup (List.nodup_flatMap.2 ⟨fun i _ => h.nodup i, ?_⟩)).2 fun n => ?_
    · refine (List.nodup_finRange 64).imp fun {i j} ij => ?_
      exact List.disjoint_left.2 fun n hi hj => ij (h.owners i j n hi hj)
    · simp [h.members]
  calc
    heldReels k = ((List.finRange 64).map fun i => (k.refsAt i).length).sum :=
      congrArg List.sum (List.map_congr_left fun i _ => (h.lengths i).symm)
    _ = ((List.finRange 64).flatMap k.refsAt).length := List.length_flatMap.symm
    _ = k.pool.length := by rw [← same.length_eq, List.length_map]

/-- Free and held entries make 768 (R40). -/
theorem adds_up : freeEntries k + heldReels k = 768 := by
  have all := freeNumbers_length h.rising
  have free : freeEntries k = 768 - k.pool.length := rfl
  rw [free, h.heldReels_eq]
  omega

end PoolFits

/-- No bundle in UNWRAPPING is in use. -/
def UnusedInIntake (k : Keyring) : Prop :=
  ∀ (i : SlotNo) (b : Bundle), k.slots[i] = some b → b.state = .unwrapping → b.useCount = 0

theorem UsesOk.unusedInIntake {s : State} (h : UsesOk s) (on : s.powered = true) : UnusedInIntake s.keyring := by
  intro i b held intake
  have uses := h.1 on i
  rw [held] at uses
  exact uses.2.2 (.inl intake)

/-- A record replaced by a later version, or none. -/
theorem UnusedInIntake.replaced {k m : Keyring} (h : UnusedInIntake k) (thins : k.Thins m) : UnusedInIntake m := by
  intro i a ha intake
  obtain ⟨b, hb, follows⟩ := thins i a ha
  obtain ⟨before, less⟩ := follows.intake intake
  exact Nat.le_zero.1 (h i b hb before ▸ less)

/-- The pool has its owners, and with main power on no bundle in UNWRAPPING is in use. -/
structure PoolKept (s : State) : Prop where
  fits : PoolFits s.keyring
  unused : s.powered = true → UnusedInIntake s.keyring

theorem owedReels_tombstone {b : Bundle} (h : b.isTombstone = true) : owedReels (some b) = 0 := by
  simp_all [owedReels, Bundle.isTombstone]

theorem PoolFits.empty : PoolFits .empty where
  rising := List.Pairwise.nil
  lengths i := by simp [Keyring.refsAt, Keyring.empty, owedReels]
  nodup i := by simp [Keyring.refsAt, Keyring.empty]
  members n := by simp [Keyring.refsAt, Keyring.empty]
  owners i j n hi := by simp [Keyring.refsAt, Keyring.empty] at hi

theorem RecordMove.poolFits {on : Bool} {k m : Keyring} (move : RecordMove on k m) (fits : PoolFits k)
    (unused : on = true → UnusedInIntake k) : PoolFits m := by
  cases move with
  | revise i b a held follows refs keys => exact fits.revised held refs keys follows.reelCount
  | erase i b a held follows refs buried =>
    exact fits.freed held refs (owedReels_tombstone (buried fun powered intake => unused powered i b held intake))
  | remove i b held => exact fits.freed held rfl rfl
  | fill number key => exact fits.filled number key
  | queue queue cursor => exact { fits with }
  | deliver d i now delivery => exact fits.delivered delivery now
  | lose => exact .empty

theorem RecordMove.unused {on : Bool} {k m : Keyring} (move : RecordMove on k m) (unused : UnusedInIntake k) :
    UnusedInIntake m := by
  cases move with
  | revise i b a held follows | erase i b a held follows =>
    refine unused.replaced (.of_set (i := i) (new := some a) rfl ?_)
    rintro _ ⟨⟩
    exact ⟨b, held, follows⟩
  | remove i b held => exact unused.replaced (.of_set (i := i) (new := none) rfl (by simp))
  | fill number key | queue queue cursor => exact unused.replaced (.of_slots rfl)
  | deliver d i now fits =>
    intro j b hb intake
    dsimp only at hb
    by_cases ij : i = j
    · subst ij
      rw [slots_set_same] at hb
      obtain rfl := Option.some.inj hb
      rfl
    · rw [slots_set_other k ij] at hb
      exact unused j b hb intake
  | lose => exact fun i b hb => by simp [Keyring.empty] at hb

theorem RecordStep.poolKept {s t : State} (h : RecordStep s t) (kept : PoolKept s) : PoolKept t := by
  cases h with
  | records power move =>
    exact ⟨move.poolFits kept.fits kept.unused, fun on => move.unused (kept.unused (power ▸ on))⟩
  | off power keyring => exact ⟨keyring ▸ kept.fits, fun on => by simp [power] at on⟩
  | on none keyring =>
    refine ⟨keyring ▸ kept.fits, fun _ i b held intake => absurd ⟨b, ?_, intake⟩ (none i)⟩
    rw [← keyring, held]
    rfl

theorem RecordsMove.poolKept {s t : State} (h : RecordsMove s t) (kept : PoolKept s) : PoolKept t := by
  induction h with
  | refl => exact kept
  | tail _ last ih => exact last.poolKept ih

/-- Settles O8: every change to the records keeps the pool with its owners; one that an order strikes in UNWRAPPING is in
no use, as the use counts fit the lanes. -/
theorem poolAlwaysAddsUp : Obligations.PoolAlwaysAddsUp := by
  intro s t pool uses e
  have kept : PoolKept s := ⟨(poolOk_iff s).1 pool, uses.unusedInIntake⟩
  have after := (RecordsMove.regular.step e).poolKept kept
  exact ⟨(poolOk_iff t).2 after.fits, after.fits.adds_up⟩

end Sys2Proof.Machine

/-! ## What clear keys hold never shows (O19)

Every operation passes through the blanking of clear keys: done to a blanked state, it leaves the blanked result. -/

namespace Sys2Proof.Machine

/-! ### What a blanked state holds -/

@[simp] theorem blanked_powered (s : State) : s.blanked.powered = s.powered := rfl

@[simp] theorem blanked_domain (s : State) : s.blanked.domain = s.domain := rfl

@[simp] theorem blanked_clock (s : State) : s.blanked.clock = s.clock := rfl

@[simp] theorem blanked_margin (s : State) : s.blanked.margin = s.margin := rfl

@[simp] theorem blanked_params (s : State) : s.blanked.params = s.params := rfl

@[simp] theorem blanked_revocations (s : State) : s.blanked.revocations = s.revocations := rfl

@[simp] theorem blanked_lanes (s : State) : s.blanked.lanes = s.lanes := rfl

@[simp] theorem blanked_store (s : State) : s.blanked.store = s.store := rfl

@[simp] theorem blanked_link (s : State) : s.blanked.link = s.link := rfl

@[simp] theorem blanked_due (s : State) : s.blanked.due = s.due := rfl

@[simp] theorem blanked_slots (s : State) : s.blanked.keyring.slots = s.keyring.slots := rfl

@[simp] theorem blanked_intakeQueue (s : State) : s.blanked.keyring.intakeQueue = s.keyring.intakeQueue := rfl

@[simp] theorem blanked_pool (s : State) : s.blanked.keyring.pool = s.keyring.pool.map PoolCell.blanked := rfl

@[simp] theorem blanked_queued (s : State) : s.blanked.engine.queued = s.engine.queued := rfl

@[simp] theorem blanked_ranks (s : State) : s.blanked.engine.ranks = s.engine.ranks := rfl

@[simp] theorem blanked_inService (s : State) :
    s.blanked.engine.inService = s.engine.inService.map fun j => { j with inputs := j.inputs.blanked } := rfl

@[simp] theorem blanked_screen (s : State) (l : LaneNo) : s.blanked.screens[l] = (s.screens[l]).blanked :=
  tabulate_get ..

@[simp] theorem Screen.blanked_bias (e : Screen) : e.blanked.bias = e.bias := rfl

@[simp] theorem Screen.blanked_isBinding (e : Screen) : e.blanked.binding.isBinding = e.binding.isBinding := by
  unfold Screen.blanked
  cases e.binding <;> rfl

@[simp] theorem Screen.blanked_code (e : Screen) : e.blanked.binding.code = e.binding.code := by
  unfold Screen.blanked
  cases e.binding <;> rfl

@[simp] theorem Screen.blanked_bytes (e : Screen) : e.blanked.bytes = e.bytes := by
  unfold Screen.bytes Screen.blanked
  cases e.binding <;> rfl

/-! ### The link -/

theorem blanked_handFrame (role : FrameRole) (payload : List Byte) (s : State) :
    (handFrame role payload s).blanked = handFrame role payload s.blanked := by
  have route : s.blanked.route s.blanked.link.peer = s.route s.link.peer := rfl
  unfold handFrame
  rw [route]
  split <;> rfl

theorem blanked_handReply (role : FrameRole) (peer : Option Peer) (payload : List Byte) (s : State) :
    (handReply role peer payload s).blanked = handReply role peer payload s.blanked := by
  have route : s.blanked.route peer = s.route peer := rfl
  unfold handReply
  rw [route]
  split <;> rfl

theorem blanked_answer (r : Request) (status : Status) (body : List Byte) (s : State) :
    (answer r status body s).blanked = answer r status body s.blanked := blanked_handReply ..

theorem blanked_judgeAttention (s : State) : (judgeAttention s).blanked = judgeAttention s.blanked := by
  have holds : attentionHolds s.blanked = attentionHolds s := rfl
  unfold judgeAttention
  rw [holds]
  split
  · exact blanked_handFrame ..
  · rfl

theorem blanked_post (n : Notice) (s : State) : (post n s).blanked = post n s.blanked := by
  unfold post
  rw [blanked_link]
  split
  · exact blanked_judgeAttention _
  · rfl

theorem blanked_armWhenEmpty (s : State) : (armWhenEmpty s).blanked = armWhenEmpty s.blanked := by
  unfold armWhenEmpty
  rw [blanked_link]
  split
  · exact blanked_judgeAttention _
  · rfl

theorem blanked_bufferRequest (r : Request) (s : State) : (bufferRequest r s).blanked = bufferRequest r s.blanked := by
  unfold bufferRequest
  rw [blanked_link]
  split
  · rfl
  · exact blanked_post ..

theorem blanked_acceptFrame (port : Port) (sender : Peer) (payload : List Byte) (s : State) :
    (acceptFrame port sender payload s).blanked = acceptFrame port sender payload s.blanked := by
  unfold acceptFrame
  split
  · dsimp only
    rw [blanked_link]
    split
    · rw [blanked_judgeAttention, blanked_bufferRequest]
      rfl
    · exact blanked_bufferRequest ..
  · rfl

theorem blanked_takeSerial (found : List (Byte × List Byte) × List Byte) (s : State) :
    (takeSerial found s).blanked = takeSerial found s.blanked := by
  unfold takeSerial
  exact (List.foldl_hom State.blanked fun t f => (blanked_acceptFrame _ _ _ t).symm).symm

/-- What serving a request does to a blanked state. -/
theorem blanked_serve {k : RequestKind} {act : Request → State → State}
    (keeps : ∀ r t, (act r t).blanked = act r t.blanked) (s : State) :
    (serve k act s).blanked = serve k act s.blanked := by
  have serves : canServe s.blanked = canServe s := rfl
  unfold serve
  rw [serves, blanked_link]
  split
  · split
    · rfl
    · split
      · rw [blanked_store]
        split
        · exact keeps ..
        · exact blanked_answer ..
      · rfl
  · rfl

theorem blanked_serveBare {k : RequestKind} {act : Request → State → State}
    (keeps : ∀ r t, (act r t).blanked = act r t.blanked) (s : State) :
    (serveBare k act s).blanked = serveBare k act s.blanked := by
  refine blanked_serve (fun r t => ?_) s
  split
  · exact keeps ..
  · exact blanked_answer ..

theorem blanked_serveWith {k : RequestKind} {α : Type} {parse : List Byte → Option α} {act : α → Request → State → State}
    (keeps : ∀ fields r t, (act fields r t).blanked = act fields r t.blanked) (s : State) :
    (serveWith k parse act s).blanked = serveWith k parse act s.blanked := by
  refine blanked_serve (fun r t => ?_) s
  split
  · exact blanked_answer ..
  · exact keeps ..

/-! ### The engine -/

@[simp] theorem snapshotLeft_blanked (s : State) : snapshotLeft s.blanked.engine = snapshotLeft s.engine := by
  unfold snapshotLeft
  rw [blanked_queued, blanked_inService]
  cases s.engine.inService <;> rfl

theorem blanked_releaseSync (s : State) : (releaseSync s).blanked = releaseSync s.blanked := by
  unfold releaseSync
  rw [blanked_link, snapshotLeft_blanked]
  split
  · rfl
  · split
    · exact blanked_handFrame ..
    · rfl

theorem blanked_dropJobs (p : JobItem → Bool) (s : State) : (dropJobs p s).blanked = dropJobs p s.blanked := by
  unfold dropJobs
  rw [blanked_releaseSync]
  congr 1
  unfold State.blanked
  dsimp only
  rw [Option.map_map, Option.map_map]
  have same :
      ((fun j : ServiceJob => { j with inputs := j.inputs.blanked }) ∘ fun j =>
          if p j.job.item then { j with discard := true } else j) =
        (fun j : ServiceJob => if p j.job.item then { j with discard := true } else j) ∘ fun j =>
          { j with inputs := j.inputs.blanked } := by
    funext j
    dsimp only [Function.comp_apply]
    split <;> rfl
  rw [same]

@[simp] theorem intakeJobExists_blanked (s : State) : intakeJobExists s.blanked.engine = intakeJobExists s.engine := by
  unfold intakeJobExists
  rw [blanked_queued, blanked_inService]
  cases s.engine.inService <;> rfl

theorem blanked_presentIntake (s : State) : (presentIntake s).blanked = presentIntake s.blanked := by
  unfold presentIntake
  rw [blanked_intakeQueue]
  split
  · rfl
  · rw [blanked_slots]
    split
    · rfl
    · rw [intakeJobExists_blanked]
      split <;> rfl

@[simp] theorem mayPresent_blanked (s : State) (j : Job) : mayPresent s.blanked j = mayPresent s j := by
  unfold mayPresent
  split
  · rfl
  · rfl
  · rw [blanked_screen, Screen.blanked_isBinding, blanked_lanes]

@[simp] theorem presented_blanked (s : State) (r : RequesterNo) : presented s.blanked r = presented s r := by
  unfold presented
  simp only [mayPresent_blanked, blanked_queued]

@[simp] theorem jobClass_blanked (s : State) (i : JobItem) : jobClass s.blanked i = jobClass s i := by
  unfold jobClass
  split
  · rw [blanked_screen, Screen.blanked_bias, blanked_clock]
  · rfl
  · rfl

@[simp] theorem grantChoice_blanked (s : State) : grantChoice s.blanked = grantChoice s := by
  unfold grantChoice
  simp only [presented_blanked, jobClass_blanked, blanked_ranks]

@[simp] theorem PoolCell.blanked_number (c : PoolCell) : c.blanked.number = c.number := rfl

theorem poolKey_blanked (pool : List PoolCell) (n : PoolNo) :
    poolKey (pool.map PoolCell.blanked) n = (poolKey pool n).map fun _ => [] := by
  unfold poolKey
  rw [List.find?_map]
  have same : (fun c => c.number == n) ∘ PoolCell.blanked = fun c : PoolCell => c.number == n := rfl
  rw [same]
  cases pool.find? fun c => c.number == n <;> rfl

theorem reelKey_blanked (s : State) (i : SlotNo) (reel : Nat) :
    reelKey s.blanked.keyring i reel = (reelKey s.keyring i reel).map fun _ => [] := by
  unfold reelKey
  rw [blanked_slots, blanked_pool]
  cases s.keyring.slots[i].bind fun b => b.poolRefs[reel - 1]? with
  | none => rfl
  | some n => exact poolKey_blanked ..

/-- A job reads no more of a clear key than that it is there. -/
theorem readInputs_blanked (s : State) (i : JobItem) : readInputs s.blanked i = (readInputs s i).blanked := by
  cases i with
  | intake => rfl
  | rewrap l n p neededBy =>
    unfold readInputs
    dsimp only
    rw [blanked_screen, blanked_lanes, JobInputs.blanked]
    congr 1
    · cases s.lanes[l] with
      | none => rfl
      | some sc => exact reelKey_blanked ..
    · unfold Screen.blanked
      cases (s.screens[l]).binding <;> rfl
  | bind l =>
    unfold readInputs
    dsimp only
    rw [blanked_screen]
    unfold Screen.blanked
    cases (s.screens[l]).binding <;> rfl

theorem blanked_modifyLane (l : LaneNo) (f : Screening → Screening) (s : State) :
    (modifyLane l f s).blanked = modifyLane l f s.blanked := by
  unfold modifyLane
  rw [blanked_lanes]
  split <;> rfl

theorem blanked_enterService (i : JobItem) (s : State) : (enterService i s).blanked = enterService i s.blanked := by
  unfold enterService
  split
  · exact blanked_modifyLane ..
  · rfl

theorem blanked_grant (s : State) : (grant s).blanked = grant s.blanked := by
  unfold grant
  rw [blanked_inService, Option.isSome_map, grantChoice_blanked]
  split
  · rfl
  · split
    · rfl
    · rw [jobClass_blanked, readInputs_blanked, ← blanked_enterService]
      rfl

/-- A state with the pending SYNC replaced. -/
def State.withSync (tag : Option Byte) (s : State) : State := { s with link := { s.link with pendingSync := tag } }

theorem blanked_withSync (tag : Option Byte) (s : State) : (s.withSync tag).blanked = s.blanked.withSync tag := rfl

/-- The engine's job leaves service. -/
def State.offService (s : State) : State := { s with engine := { s.engine with inService := none } }

theorem finishJob_eq (deliver : ServiceJob → State → State) (j : ServiceJob) (s : State) :
    finishJob deliver j s =
      releaseSync
        ((if j.discard then s.offService.withSync none else deliver j (s.offService.withSync none)).withSync
          s.link.pendingSync) := rfl

theorem blanked_finishJob {deliver blankDeliver : ServiceJob → State → State} {j : ServiceJob}
    (keeps : ∀ t, (deliver j t).blanked = blankDeliver { j with inputs := j.inputs.blanked } t.blanked) (s : State) :
    (finishJob deliver j s).blanked = finishJob blankDeliver { j with inputs := j.inputs.blanked } s.blanked := by
  rw [finishJob_eq, finishJob_eq, blanked_releaseSync, blanked_withSync]
  congr 2
  dsimp only
  split
  · rfl
  · exact keeps _

theorem blanked_completeJob {ofKind : JobItem → Bool} {deliver blankDeliver : ServiceJob → State → State}
    {present : State → State}
    (keeps : ∀ j t, (deliver j t).blanked = blankDeliver { j with inputs := j.inputs.blanked } t.blanked)
    (presents : ∀ t, (present t).blanked = present t.blanked) (s : State) :
    (completeJob ofKind deliver present s).blanked = completeJob ofKind blankDeliver present s.blanked := by
  unfold completeJob
  rw [blanked_inService, blanked_powered]
  cases s.engine.inService with
  | none => rfl
  | some j =>
    dsimp only [Option.map_some]
    split
    · rw [blanked_grant, presents, blanked_finishJob (keeps j)]
    · rfl

end Sys2Proof.Machine

/-! ## Blanking passes through records, sweeps and completions (O19) -/

namespace Sys2Proof.Machine

/-! ### Records -/

theorem freeCells_blanked (refs : List PoolNo) (pool : List PoolCell) :
    freeCells refs (pool.map PoolCell.blanked) = (freeCells refs pool).map PoolCell.blanked :=
  List.filter_map ..

theorem fillCell_blanked (number : PoolNo) (key : KeyMaterial) (pool : List PoolCell) :
    fillCell number [] (pool.map PoolCell.blanked) = (fillCell number key pool).map PoolCell.blanked := by
  unfold fillCell
  rw [List.map_map, List.map_map]
  refine List.map_congr_left fun c _ => ?_
  rw [Function.comp_apply, Function.comp_apply, PoolCell.blanked_number]
  split <;> rfl

theorem insertCell_blanked (c : PoolCell) (pool : List PoolCell) :
    insertCell c.blanked (pool.map PoolCell.blanked) = (insertCell c pool).map PoolCell.blanked := by
  induction pool with
  | nil => rfl
  | cons d rest ih =>
    rw [List.map_cons, insertCell, insertCell, PoolCell.blanked_number, PoolCell.blanked_number]
    split
    · rfl
    · rw [ih, List.map_cons]

theorem reserveCells_blanked (refs : List PoolNo) (pool : List PoolCell) :
    reserveCells refs (pool.map PoolCell.blanked) = (reserveCells refs pool).map PoolCell.blanked :=
  List.foldl_hom (List.map PoolCell.blanked) fun p n => insertCell_blanked { number := n, key := none } p

@[simp] theorem freeNumbers_blanked (pool : List PoolCell) : freeNumbers (pool.map PoolCell.blanked) = freeNumbers pool := by
  unfold freeNumbers
  simp only [List.any_map]
  rfl

theorem blanked_setBundle (i : SlotNo) (b : Option Bundle) (s : State) :
    (setBundle i b s).blanked = setBundle i b s.blanked := rfl

theorem blanked_freed (refs : List PoolNo) (s : State) :
    ({ s with keyring := { s.keyring with pool := freeCells refs s.keyring.pool } } : State).blanked =
      { s.blanked with keyring := { s.blanked.keyring with pool := freeCells refs s.blanked.keyring.pool } } := by
  rw [blanked_pool, freeCells_blanked]
  rfl

theorem blanked_eraseKeys (i : SlotNo) (b : Bundle) (after : Bundle → Bundle) (s : State) :
    (eraseKeys i b after s).blanked = eraseKeys i b after s.blanked := by
  unfold eraseKeys
  rw [blanked_setBundle, blanked_freed]

theorem blanked_postEntry (i : SlotNo) (st : BundleState) (s : State) :
    (postEntry i st s).blanked = postEntry i st s.blanked := by
  unfold postEntry
  cases st with
  | live | closing | expired => exact blanked_post ..
  | unwrapping | waiting | revoked | failed => rfl

theorem blanked_enterWindow (i : SlotNo) (b : Bundle) (st : BundleState) (s : State) :
    (enterWindow i b st s).blanked = enterWindow i b st s.blanked := by
  unfold enterWindow
  rw [blanked_postEntry, blanked_clock]
  congr 1
  split
  · exact blanked_eraseKeys ..
  · rfl

theorem blanked_judgeSlot (now m : Nat) (i : SlotNo) (s : State) :
    (judgeSlot now m i s).blanked = judgeSlot now m i s.blanked := by
  unfold judgeSlot
  rw [blanked_slots]
  split
  · rfl
  · split
    · exact blanked_enterWindow ..
    · rfl

theorem blanked_windowSweep (s : State) : (windowSweep s).blanked = windowSweep s.blanked :=
  (List.foldl_hom State.blanked fun t i => (blanked_judgeSlot _ _ i t).symm).symm

theorem blanked_takeUse (i : SlotNo) (s : State) : (takeUse i s).blanked = takeUse i s.blanked := by
  unfold takeUse
  rw [blanked_slots]
  split <;> rfl

theorem blanked_buryRevoked (i : SlotNo) (b : Bundle) (s : State) :
    (buryRevoked i b s).blanked = buryRevoked i b s.blanked := blanked_eraseKeys ..

theorem blanked_returnUse (i : SlotNo) (s : State) : (returnUse i s).blanked = returnUse i s.blanked := by
  unfold returnUse
  rw [blanked_slots]
  split
  · rfl
  · dsimp only
    split
    · exact blanked_buryRevoked ..
    · rfl

theorem blanked_resetSlot (i : SlotNo) (s : State) : (resetSlot i s).blanked = resetSlot i s.blanked := by
  unfold resetSlot
  rw [blanked_slots]
  split
  · rfl
  · split
    · rw [blanked_setBundle, blanked_freed]
    · split
      · exact blanked_buryRevoked ..
      · rfl

theorem blanked_resetKeyring (s : State) : (resetKeyring s).blanked = resetKeyring s.blanked := by
  have swept :
      ((List.finRange 64).foldl (fun t i => resetSlot i t) s).blanked =
        (List.finRange 64).foldl (fun t i => resetSlot i t) s.blanked :=
    (List.foldl_hom State.blanked fun t i => (blanked_resetSlot i t).symm).symm
  unfold resetKeyring
  dsimp only
  rw [← swept]
  generalize (List.finRange 64).foldl (fun t i => resetSlot i t) s = t
  rfl

/-! ### Lanes -/

theorem blanked_emptySlot (l : LaneNo) (n : SlotName) (s : State) :
    (emptySlot l n s).blanked = emptySlot l n s.blanked := by
  unfold emptySlot
  rw [blanked_dropJobs, blanked_modifyLane]

theorem blanked_emptyWorking (l : LaneNo) (n : SlotName) (s : State) :
    (emptyWorking l n s).blanked = emptyWorking l n s.blanked := by
  unfold emptyWorking
  rw [blanked_lanes]
  split
  · split
    · exact blanked_emptySlot ..
    · rfl
  · rfl

theorem blanked_endLane (l : LaneNo) (status : LaneStatus) (cause : EndCause) (notice : Notice) (s : State) :
    (endLane l status cause notice s).blanked = endLane l status cause notice s.blanked := by
  unfold endLane
  rw [blanked_lanes]
  split
  · rfl
  · dsimp only
    rw [blanked_post, blanked_returnUse, blanked_modifyLane, blanked_emptySlot, blanked_emptySlot, blanked_clock]

theorem blanked_stopLane (l : LaneNo) (s : State) : (stopLane l s).blanked = stopLane l s.blanked := by
  unfold stopLane
  rw [blanked_modifyLane, blanked_emptyWorking, blanked_emptyWorking]

theorem blanked_judgeLane (now lead : Nat) (l : LaneNo) (s : State) :
    (judgeLane now lead l s).blanked = judgeLane now lead l s.blanked := by
  unfold judgeLane
  rw [blanked_lanes]
  split
  · rfl
  · split
    · exact blanked_endLane ..
    · split
      · exact blanked_endLane ..
      · split
        · exact blanked_post ..
        · rfl

theorem blanked_stopTimeSweep (s : State) : (stopTimeSweep s).blanked = stopTimeSweep s.blanked :=
  (List.foldl_hom State.blanked fun t l => (blanked_judgeLane _ _ l t).symm).symm

theorem blanked_bothSweeps (order : SweepOrder) (s : State) :
    (bothSweeps order s).blanked = bothSweeps order s.blanked := by
  cases order
  · rw [bothSweeps_windowFirst, bothSweeps_windowFirst, blanked_stopTimeSweep, blanked_windowSweep]
  · rw [bothSweeps_stopTimeFirst, bothSweeps_stopTimeFirst, blanked_windowSweep, blanked_stopTimeSweep]

theorem blanked_fillSlot (l : LaneNo) (n : SlotName) (p : Position) (neededBy : Nat) (s : State) :
    (fillSlot l n p neededBy s).blanked = fillSlot l n p neededBy s.blanked := by
  unfold fillSlot
  rw [← blanked_modifyLane]
  rfl

/-! ### Evaluations, ticks and claims -/

theorem blanked_evaluateMargin (cause : EvalCause) (s : State) :
    (evaluateMargin cause s).blanked = evaluateMargin cause s.blanked := by
  unfold evaluateMargin
  dsimp only
  rw [blanked_margin, blanked_params, blanked_clock]
  split
  · rfl
  · exact blanked_post ..

theorem blanked_evaluateAndSweep (cause : EvalCause) (s : State) :
    (evaluateAndSweep cause s).blanked = evaluateAndSweep cause s.blanked := by
  unfold evaluateAndSweep
  dsimp only
  rw [← blanked_evaluateMargin, blanked_margin, blanked_margin]
  split
  · rfl
  · exact blanked_windowSweep _

theorem blanked_takeDueExpiry (s : State) : (takeDueExpiry s).blanked = takeDueExpiry s.blanked := by
  unfold takeDueExpiry
  rw [blanked_due]
  split <;> rfl

theorem blanked_takeDueWindow (s : State) : (takeDueWindow s).blanked = takeDueWindow s.blanked := by
  unfold takeDueWindow
  rw [blanked_due]
  split
  · exact blanked_windowSweep _
  · rfl

theorem blanked_takeDueStopTime (s : State) : (takeDueStopTime s).blanked = takeDueStopTime s.blanked := by
  unfold takeDueStopTime
  rw [blanked_due]
  split
  · exact blanked_stopTimeSweep _
  · rfl

theorem blanked_clockTick_settleDue (s : State) :
    (clockTick (settleDue s)).blanked = clockTick (settleDue s.blanked) := by
  have settled : (settleDue s).blanked = settleDue s.blanked := by
    unfold settleDue
    rw [blanked_takeDueStopTime, blanked_takeDueWindow, blanked_takeDueExpiry]
  rw [← settled]
  generalize settleDue s = t
  unfold clockTick
  dsimp only
  rw [blanked_clock]
  split
  · exact blanked_evaluateMargin ..
  · rfl

theorem blanked_tickWhole (order : SweepOrder) (s : State) :
    (tickWhole order s).blanked = tickWhole order s.blanked := by
  unfold tickWhole
  rw [blanked_bothSweeps, ← blanked_clockTick_settleDue]
  rfl

theorem blanked_tickClockOnly (s : State) : (tickClockOnly s).blanked = tickClockOnly s.blanked := by
  unfold tickClockOnly
  rw [← blanked_clockTick_settleDue]
  rfl

theorem blanked_takeClaim (T : Nat) (s : State) : (takeClaim T s).blanked = takeClaim T s.blanked := by
  unfold takeClaim
  rw [blanked_clock]
  split
  · rfl
  · dsimp only
    split
    · rfl
    · exact blanked_post ..

theorem blanked_afterClaim (order : SweepOrder) (s : State) :
    (afterClaim order s).blanked = afterClaim order s.blanked := by
  unfold afterClaim
  rw [blanked_bothSweeps, blanked_evaluateMargin]
  rfl

/-! ### The requests of the keyring and the revocation list -/

theorem blanked_acceptDelivery (d : Delivery) (i : SlotNo) (s : State) :
    (acceptDelivery d i s).blanked = acceptDelivery d i s.blanked := by
  unfold acceptDelivery
  dsimp only
  rw [blanked_grant, blanked_presentIntake, blanked_pool, freeNumbers_blanked, reserveCells_blanked]
  generalize (freeNumbers s.keyring.pool).take d.reelCount = refs
  rfl

@[simp] theorem freeEntries_blanked (s : State) : freeEntries s.blanked.keyring = freeEntries s.keyring := by
  unfold freeEntries
  rw [blanked_pool, List.length_map]

theorem deliveryRefusal_blanked (tagOver : Option BundleTag) (d : Delivery) (s : State) :
    deliveryRefusal tagOver d s.blanked = deliveryRefusal tagOver d s := by
  unfold deliveryRefusal
  rw [freeEntries_blanked]
  rfl

theorem blanked_deleteBundle (id : Ident) (r : Request) (s : State) :
    (deleteBundle id r s).blanked = deleteBundle id r s.blanked := by
  have found : slotOfBundle s.blanked.keyring id = slotOfBundle s.keyring id := rfl
  unfold deleteBundle
  rw [found]
  split
  · exact blanked_answer ..
  · rw [blanked_slots]
    split
    · exact blanked_answer ..
    · split
      · exact blanked_answer ..
      · split
        · exact blanked_answer ..
        · rw [blanked_answer, blanked_setBundle, blanked_freed]

theorem blanked_abandonIntake (i : SlotNo) (b : Bundle) (s : State) :
    (abandonIntake i b s).blanked = abandonIntake i b s.blanked := by
  unfold abandonIntake strikeUnused
  rw [blanked_presentIntake, blanked_dropJobs, blanked_clock, ← blanked_eraseKeys]
  rfl

theorem blanked_stopLanes (i : SlotNo) (s : State) :
    (stopLanes i s).1.blanked = (stopLanes i s.blanked).1 :=
  (List.foldl_hom State.blanked fun t l => (blanked_stopLane l t).symm).symm

theorem strikeSlot_blanked (o : Order) (i : SlotNo) (s : State) :
    strikeSlot o i s.blanked = ((strikeSlot o i s).1.blanked, (strikeSlot o i s).2) := by
  unfold strikeSlot
  rw [blanked_slots]
  split
  · rfl
  next b held =>
    split
    · rfl
    · cases b.state with
      | unwrapping => exact congrArg (·, (1, 0)) (blanked_abandonIntake ..).symm
      | waiting | live | closing =>
        dsimp only
        split
        · exact congrArg (·, (1, 0)) (blanked_eraseKeys ..).symm
        · cases o.mode with
          | immediate => exact Prod.ext (blanked_stopLanes i (setBundle i _ s)).symm rfl
          | afterScreening => rfl
      | revoked =>
        dsimp only
        split
        · exact Prod.ext (blanked_stopLanes i (setBundle i _ s)).symm rfl
        · rfl
      | expired | failed => rfl

theorem applyOrder_blanked (o : Order) (s : State) :
    applyOrder o s.blanked = ((applyOrder o s).1.blanked, (applyOrder o s).2) := by
  unfold applyOrder
  dsimp only
  generalize List.finRange 64 = slots
  refine
    List.foldl_hom (fun acc : State × Nat × Nat => (acc.1.blanked, acc.2)) (l := slots) (init := (s, 0, 0))
      fun acc i => ?_
  dsimp only
  rw [strikeSlot_blanked]

/-! ### Completions -/

/-- A reel key fills the entry that a bundle reserved for its next reel (R48). -/
def Bundle.fillReel (b : Bundle) (key : KeyMaterial) (pool : List PoolCell) : List PoolCell :=
  match b.poolRefs[b.reelsUnwrapped]? with
  | some number => fillCell number key pool
  | none => pool

/-- A bundle with one more reel unwrapped (R48). -/
def Bundle.grown (b : Bundle) : Bundle :=
  { b with reelsUnwrapped := b.reelsUnwrapped + 1, wrappedKeys := b.wrappedKeys.tail }

/-- The state with the pool replaced. -/
def State.withPool (pool : List PoolCell) (s : State) : State := { s with keyring := { s.keyring with pool } }

theorem passReel_eq (i : SlotNo) (b : Bundle) (key : KeyMaterial) (s : State) :
    passReel i b key s =
      if b.reelsUnwrapped + 1 < b.reelCount then
        setBundle i (some b.grown) (s.withPool (b.fillReel key s.keyring.pool))
      else endIntake i b.grown (setBundle i (some b.grown) (s.withPool (b.fillReel key s.keyring.pool))) := rfl

theorem fillReel_blanked (b : Bundle) (key : KeyMaterial) (pool : List PoolCell) :
    b.fillReel [] (pool.map PoolCell.blanked) = (b.fillReel key pool).map PoolCell.blanked := by
  unfold Bundle.fillReel
  split
  · exact fillCell_blanked ..
  · rfl

theorem blanked_endIntake (i : SlotNo) (b : Bundle) (s : State) :
    (endIntake i b s).blanked = endIntake i b s.blanked := by
  unfold endIntake
  dsimp only
  rw [blanked_enterWindow, blanked_post]
  rfl

theorem blanked_passReel (i : SlotNo) (b : Bundle) (key : KeyMaterial) (s : State) :
    (passReel i b key s).blanked = passReel i b [] s.blanked := by
  have filled : (s.withPool (b.fillReel key s.keyring.pool)).blanked =
      s.blanked.withPool (b.fillReel [] s.blanked.keyring.pool) := by
    rw [blanked_pool, fillReel_blanked b key]
    rfl
  rw [passReel_eq, passReel_eq, ← filled]
  split
  · rfl
  · exact blanked_endIntake ..

theorem blanked_failReel (i : SlotNo) (b : Bundle) (s : State) : (failReel i b s).blanked = failReel i b s.blanked := by
  unfold failReel
  rw [blanked_post, blanked_clock, ← blanked_eraseKeys]
  rfl

theorem blanked_deliverIntake (outcome : Option KeyMaterial) (j : ServiceJob) (s : State) :
    (deliverIntake outcome j s).blanked =
      deliverIntake (outcome.map fun _ => []) { j with inputs := j.inputs.blanked } s.blanked := by
  unfold deliverIntake
  dsimp only
  split
  · rw [blanked_slots]
    split
    · rfl
    · rw [blanked_intakeQueue]
      split
      · cases outcome with
        | none => exact blanked_failReel ..
        | some key => exact blanked_passReel ..
      · rfl
  · rfl

end Sys2Proof.Machine

/-! ## Blanking passes through every command (O19) -/

namespace Sys2Proof.Machine

theorem blanked_deliverRewrap (outcome : Option WrappedReelKey) (j : ServiceJob) (s : State) :
    (deliverRewrap outcome j s).blanked = deliverRewrap outcome { j with inputs := j.inputs.blanked } s.blanked := by
  unfold deliverRewrap
  dsimp only
  split
  · rw [blanked_lanes]
    split
    · rfl
    · split
      · split
        · exact blanked_post ..
        · exact blanked_endLane ..
      · rfl
  · rfl

/-- Two screen maps that agree at every screen are the same. -/
theorem screens_ext {v w : Vector Screen 32} (h : ∀ l : LaneNo, v[l] = w[l]) : v = w :=
  Vector.ext fun i hi => h ⟨i, hi⟩

theorem blanked_setScreen (l : LaneNo) (e : Screen) (s : State) :
    (setScreen l e s).blanked = setScreen l e.blanked s.blanked := by
  have screens :
      (tabulate fun m : LaneNo => ((s.screens.set l e)[m]).blanked) =
        (tabulate fun m : LaneNo => (s.screens[m]).blanked).set l e.blanked := by
    refine screens_ext fun m => ?_
    rw [tabulate_get]
    by_cases same : l = m
    · subst same
      simp
    · have apart : l.val ≠ m.val := fun e => same (Fin.ext e)
      have elsewhere := tabulate_get (fun m : LaneNo => (s.screens[m]).blanked) m
      simp only [Fin.getElem_fin, Vector.getElem_set_ne _ _ apart] at elsewhere ⊢
      exact elsewhere.symm
  unfold setScreen State.blanked
  dsimp only
  rw [screens]

theorem blanked_deliverBind (outcome : Option KeyMaterial) (j : ServiceJob) (s : State) :
    (deliverBind outcome j s).blanked =
      deliverBind (outcome.map fun _ => []) { j with inputs := j.inputs.blanked } s.blanked := by
  unfold deliverBind
  dsimp only
  cases j.job.item with
  | intake | rewrap => rfl
  | bind l =>
    dsimp only
    rw [blanked_screen]
    generalize s.screens[l] = entry
    obtain ⟨binding, bias⟩ := entry
    cases binding with
    | unbound | bound => cases outcome <;> rfl
    | binding unitId wrapped =>
      cases outcome with
      | none => exact (blanked_post ..).trans (congrArg _ (blanked_setScreen ..))
      | some key => exact blanked_setScreen ..

/-! ### The requests of the screens and the lanes -/

theorem blanked_whenClosed {l : LaneNo} {r : Request} {act : State → State}
    (keeps : ∀ t, (act t).blanked = act t.blanked) (s : State) :
    (whenClosed l r s act).blanked = whenClosed l r s.blanked act := by
  unfold whenClosed
  rw [blanked_lanes]
  split
  · exact blanked_answer ..
  · exact keeps s

theorem blanked_fillAtOpen (l : LaneNo) (f k n : Nat) (s : State) :
    (fillAtOpen l f k n s).blanked = fillAtOpen l f k n s.blanked := by
  unfold fillAtOpen
  dsimp only
  rw [blanked_clock, ← blanked_fillSlot]
  split
  · exact blanked_fillSlot ..
  · rfl

theorem blanked_openOn (q : OpenRequest) (i : SlotNo) (b : Bundle) (s : State) :
    (openOn q i b s).blanked = openOn q i b s.blanked := by
  unfold openOn
  rw [blanked_grant, blanked_fillAtOpen, ← blanked_takeUse]
  rfl

theorem blanked_openChosen (q : OpenRequest) (r : Request) (s : State) :
    (openChosen q r s).blanked = openChosen q r s.blanked := by
  have screened : screenCandidates s.blanked q = screenCandidates s q := rfl
  have latest (slots : List SlotNo) : latestEnding s.blanked.keyring slots = latestEnding s.keyring slots := rfl
  unfold openChosen
  rw [screened]
  split
  · exact blanked_answer ..
  · rw [latest]
    split
    · exact blanked_answer ..
    · rw [blanked_slots]
      split
      · exact blanked_answer ..
      · rw [blanked_answer, blanked_openOn]
        rfl

theorem blanked_openScreening (q : OpenRequest) (r : Request) (s : State) :
    (if (s.lanes[q.lane]).isSome then answer r .laneBusy [] s
      else if (s.screens[q.lane]).binding.code ≠ 3 then answer r .screenUnbound [] s
      else if s.clock.state = .unset then answer r .clockUnset [] s
      else if nothingHeld s.keyring q then answer r .noSuch [] s
      else openChosen q r s).blanked =
    if (s.blanked.lanes[q.lane]).isSome then answer r .laneBusy [] s.blanked
      else if (s.blanked.screens[q.lane]).binding.code ≠ 3 then answer r .screenUnbound [] s.blanked
      else if s.blanked.clock.state = .unset then answer r .clockUnset [] s.blanked
      else if nothingHeld s.blanked.keyring q then answer r .noSuch [] s.blanked
      else openChosen q r s.blanked := by
  have held : nothingHeld s.blanked.keyring q = nothingHeld s.keyring q := rfl
  rw [blanked_lanes, blanked_screen, Screen.blanked_code, blanked_clock, held]
  split
  · exact blanked_answer ..
  · split
    · exact blanked_answer ..
    · split
      · exact blanked_answer ..
      · split
        · exact blanked_answer ..
        · exact blanked_openChosen ..

theorem blanked_endScreening (l : LaneNo) (r : Request) (s : State) :
    (endScreening l r s).blanked = endScreening l r s.blanked := by
  unfold endScreening
  rw [blanked_lanes, blanked_clock]
  split
  · exact blanked_answer ..
  · split
    · exact (blanked_answer ..).trans (congrArg _ (blanked_endLane ..))
    · exact (blanked_answer ..).trans (congrArg _ (blanked_endLane ..))
    · exact blanked_answer ..
    · exact blanked_answer ..

theorem blanked_closeLane (l : LaneNo) (r : Request) (s : State) : (closeLane l r s).blanked = closeLane l r s.blanked := by
  unfold closeLane
  rw [blanked_lanes]
  split
  · exact blanked_answer ..
  · split
    · exact blanked_answer ..
    · exact blanked_answer ..
    · exact blanked_answer ..
    · exact blanked_answer ..

/-- A released reel carries the unit's id and the wrapped key, not the link key. -/
theorem fetchBody_blanked (l : LaneNo) (p : Position) (e : Screen) (again : Bool) (key : WrappedReelKey) :
    fetchBody l p e.blanked again key = fetchBody l p e again key := by
  unfold fetchBody Screen.blanked
  cases e.binding <;> rfl

theorem blanked_fetchReel (q : LaneNo × Nat) (r : Request) (s : State) :
    (fetchReel q r s).blanked = fetchReel q r s.blanked := by
  unfold fetchReel
  rw [blanked_lanes]
  split
  · exact blanked_answer ..
  · split
    · exact blanked_answer ..
    · exact blanked_answer ..
    · exact blanked_answer ..
    · rw [blanked_clock]
      split
      · exact blanked_answer ..
      · unfold releaseReel
        split
        · exact blanked_answer ..
        · rw [blanked_screen]
          simp only [fetchBody_blanked]
          split
          · exact blanked_answer ..
          · exact blanked_answer ..
          · exact blanked_answer ..

theorem blanked_emptyStale (l : LaneNo) (n : SlotName) (next : Option Position) (s : State) :
    (emptyStale l n next s).blanked = emptyStale l n next s.blanked := by
  unfold emptyStale
  rw [blanked_lanes]
  split
  · rfl
  · split
    · split
      · exact blanked_emptySlot ..
      · rfl
    · rfl

theorem fillEmpty_blanked (l : LaneNo) (next : Option Position) (neededBy : Nat) (s : State) :
    fillEmpty l next neededBy s.blanked = ((fillEmpty l next neededBy s).1.blanked, (fillEmpty l next neededBy s).2) := by
  unfold fillEmpty
  rw [blanked_lanes]
  split
  · split
    · rfl
    · split
      · exact congrArg (·, _) (blanked_fillSlot ..).symm
      · rfl
  · rfl

theorem blanked_alignSlots (l : LaneNo) (first : Bool) (next : Option Position) (s : State) :
    (alignSlots l first next s).blanked = alignSlots l first next s.blanked := by
  unfold alignSlots
  dsimp only
  rw [blanked_clock, ← blanked_emptyStale, ← blanked_emptyStale]
  split
  · rw [fillEmpty_blanked]
  · rfl

theorem refillAfter_blanked (l : LaneNo) (first : Bool) (holder : SlotName) (next : Option Position) (neededBy : Nat)
    (s : State) :
    refillAfter l first holder next neededBy s.blanked =
      ((refillAfter l first holder next neededBy s).1.blanked, (refillAfter l first holder next neededBy s).2) := by
  unfold refillAfter
  split
  · exact fillEmpty_blanked ..
  · rw [← blanked_emptySlot]
    exact fillEmpty_blanked ..

theorem blanked_acceptBegin (q : BeginRequest) (sc : Screening) (n : Nat) (p : Position) (holder : SlotName) (r : Request)
    (s : State) : (acceptBegin q sc n p holder r s).blanked = acceptBegin q sc n p holder r s.blanked := by
  have stored (new : Screening) : setLane q.lane (some new) s.blanked = (setLane q.lane (some new) s).blanked := rfl
  have amended (x : Screening) (a : Amendment) (late lead now : Nat) :
      x.amended a s.blanked.keyring late lead now = x.amended a s.keyring late lead now := rfl
  unfold acceptBegin
  dsimp only
  rw [blanked_clock, blanked_params]
  split
  · rw [stored, refillAfter_blanked, blanked_answer, blanked_grant]
  · rw [amended, stored]
    split
    · exact (blanked_answer ..).trans (congrArg _ (blanked_endLane ..))
    · rw [← blanked_alignSlots, refillAfter_blanked, blanked_answer, blanked_grant]

theorem blanked_reelBegin (q : BeginRequest) (r : Request) (s : State) :
    (reelBegin q r s).blanked = reelBegin q r s.blanked := by
  unfold reelBegin
  rw [blanked_lanes, blanked_clock]
  split
  · exact blanked_answer ..
  next sc _ =>
    have reels : laneReels s.blanked.keyring sc = laneReels s.keyring sc := rfl
    split
    · exact blanked_answer ..
    · exact blanked_answer ..
    · exact (blanked_answer ..).trans (congrArg _ (blanked_endLane ..))
    · unfold beginReel
      dsimp only
      rw [reels]
      split
      · exact blanked_answer ..
      · split
        · exact blanked_answer ..
        · split
          · exact blanked_answer ..
          · split
            · exact blanked_answer ..
            · exact blanked_acceptBegin ..

theorem blanked_amendScreening (q : LaneNo × Amendment) (r : Request) (s : State) :
    (amendScreening q r s).blanked = amendScreening q r s.blanked := by
  unfold amendScreening
  rw [blanked_lanes]
  split
  · exact blanked_answer ..
  · split
    · exact blanked_answer ..
    · exact blanked_answer ..
    · exact blanked_answer ..
    · exact blanked_answer ..

theorem blanked_fetchReport (q : LaneNo × Option Nat) (r : Request) (s : State) :
    (fetchReport q r s).blanked = fetchReport q r s.blanked := by
  unfold fetchReport
  rw [blanked_lanes]
  split
  · exact blanked_answer ..
  · split
    · exact blanked_answer ..
    · split
      · exact blanked_answer ..
      · exact blanked_answer ..
      · exact blanked_answer ..
      · exact blanked_answer ..

theorem blanked_provisionWrite (r : Request) (s : State) :
    (provisionWrite r s).blanked = provisionWrite r s.blanked := by
  unfold provisionWrite
  rw [blanked_store]
  split
  · exact blanked_answer ..
  · split
    · exact blanked_answer ..
    · split
      · exact blanked_answer ..
      · split
        · split
          · exact blanked_handReply ..
          · exact blanked_answer ..
        · exact blanked_handReply ..

/-! ### Power -/

@[simp] theorem Screen.blanked_afterStart (e : Screen) : e.afterStart.blanked = e.blanked.afterStart := by
  obtain ⟨binding, bias⟩ := e
  cases binding <;> rfl

theorem screensAfterStart_blanked (s : State) :
    (tabulate fun l : LaneNo => ((screensAfterStart s.screens)[l]).blanked) = screensAfterStart s.blanked.screens := by
  refine screens_ext fun l => ?_
  unfold screensAfterStart
  rw [tabulate_get, tabulate_get, tabulate_get, blanked_screen, Screen.blanked_afterStart]

theorem screensAfterLoss_blanked : (tabulate fun l : LaneNo => (screensAfterLoss[l]).blanked) = screensAfterLoss := by
  refine screens_ext fun l => ?_
  rw [tabulate_get]
  simp [screensAfterLoss, Screen.afterLoss, Screen.blanked]

theorem blanked_restarted (s : State) :
    ({ s with
        link := s.link.restarted, engine := s.engine.restarted, lanes := lanesClosed
        screens := screensAfterStart s.screens } : State).blanked =
      { s.blanked with
        link := s.blanked.link.restarted, engine := s.blanked.engine.restarted, lanes := lanesClosed
        screens := screensAfterStart s.blanked.screens } := by
  have inService :
      s.engine.restarted.inService.map (fun j => { j with inputs := j.inputs.blanked }) =
        s.blanked.engine.restarted.inService := by
    unfold Engine.restarted
    rw [blanked_inService, Option.map_map, Option.map_map]
    rfl
  rw [← screensAfterStart_blanked]
  unfold State.blanked at inService ⊢
  dsimp only at inService ⊢
  rw [inService]
  rfl

theorem blanked_startValid (s : State) : (startValid s).blanked = startValid s.blanked := by
  have restored : s.restored.blanked = s.blanked.restored := by
    unfold State.restored
    rw [← screensAfterStart_blanked]
    rfl
  rw [startValid_eq_resetKeyring, startValid_eq_resetKeyring, blanked_resetKeyring, restored]

theorem blanked_beginOperation (s : State) : (beginOperation s).blanked = beginOperation s.blanked := by
  unfold beginOperation
  rw [blanked_clock]
  split
  · rw [blanked_bothSweeps, ← blanked_evaluateMargin]
    rfl
  · rfl

theorem blanked_beginCut (judged : JudgedSoFar) (expired : Bool) (s : State) :
    (beginCut judged expired s).blanked = beginCut judged expired s.blanked := by
  have passed : (if expired then expiryPass s else s).blanked = if expired then expiryPass s.blanked else s.blanked := by
    cases expired <;> rfl
  unfold beginCut
  rw [blanked_clock]
  dsimp only
  rw [← passed]
  split
  · split
    · rfl
    · exact blanked_evaluateMargin ..
    · rw [blanked_windowSweep, blanked_evaluateMargin]
  · rfl

theorem blanked_startLost (s : State) : (startLost s).blanked = startLost s.blanked := by
  unfold startLost State.blanked
  dsimp only
  rw [screensAfterLoss_blanked]
  rfl

theorem blanked_powerOn (s : State) :
    ({ s with powered := true } : State).blanked = { s.blanked with powered := true } := rfl

theorem blanked_withoutPower (s : State) : (withoutPower s).blanked = withoutPower s.blanked := rfl

/-! ### Every command -/

theorem blanked_ite {cond : Bool} {s t u : State} (taken : cond = true → t.blanked = u) :
    (if cond then t else s).blanked = if cond then u else s.blanked := by
  split
  · exact taken ‹_›
  · rfl

/-- ENGINE_STATUS shows no input of the job in service. -/
theorem engineBody_blanked (s : State) : engineBody s.blanked = engineBody s := by
  have service : serviceBytes s.blanked.engine.inService = serviceBytes s.engine.inService := by
    rw [blanked_inService]
    cases s.engine.inService <;> rfl
  have requesters : requesterBytes s.blanked = requesterBytes s := by
    funext r
    unfold requesterBytes
    rw [presented_blanked]
    rfl
  rw [engineBody, service, requesters, snapshotLeft_blanked, blanked_link, blanked_inService, Option.isSome_map]
  rfl

theorem scanSlots_blanked (s : State) (start : SlotNo) (left room : Nat) :
    scanSlots s.blanked.keyring start left room = scanSlots s.keyring start left room := by
  induction left generalizing start room with
  | zero => rfl
  | succ left ih =>
    cases room with
    | zero => rfl
    | succ room =>
      unfold scanSlots
      dsimp only
      rw [ih, ih, blanked_slots]

theorem blanked_snapshot (tag : Byte) (s : State) :
    ({ s with engine := s.engine.withSnapshot, link := { s.link with pendingSync := some tag } } : State).blanked =
      { s.blanked with
        engine := s.blanked.engine.withSnapshot, link := { s.blanked.link with pendingSync := some tag } } := by
  have inService :
      s.engine.withSnapshot.inService.map (fun j => { j with inputs := j.inputs.blanked }) =
        s.blanked.engine.withSnapshot.inService := by
    unfold Engine.withSnapshot
    rw [blanked_inService, Option.map_map, Option.map_map]
    rfl
  unfold State.blanked at inService ⊢
  dsimp only at inService ⊢
  rw [inService]
  rfl

/-- The command, with the clear key it brings blanked, leaves of a blanked state the blanked result. -/
def Blanks (c : Instr) : Prop :=
  ∀ s t : State, exec c s = .next t → exec (blankedCommand c) s.blanked = .next t.blanked

theorem blanks_of {c : Instr} {f g : State → State} (meaning : ∀ s, exec c s = .next (f s))
    (blank : ∀ s, exec (blankedCommand c) s = .next (g s)) (keeps : ∀ s, (f s).blanked = g s.blanked) : Blanks c := by
  intro s t e
  rw [meaning] at e
  rw [blank, ← keeps, Host.Outcome.next.inj e]

theorem blanks_serialFrame (bytes : List Byte) : Blanks (.serialFrame bytes) := by
  refine blanks_of (fun _ => rfl) (fun _ => rfl) fun s => ?_
  exact blanked_ite (fun _ => blanked_takeSerial ..)

theorem blanks_serialByteTimeout : Blanks .serialByteTimeout := by
  refine blanks_of (fun _ => rfl) (fun _ => rfl) fun s => ?_
  exact blanked_ite (fun _ => blanked_takeSerial ..)

theorem blanks_lanFrame (bytes : List Byte) (checkPasses : Bool) : Blanks (.lanFrame bytes checkPasses) := by
  refine blanks_of (fun _ => rfl) (fun _ => rfl) fun s => ?_
  refine blanked_ite fun _ => ?_
  rw [blanked_store]
  split
  · rfl
  · exact blanked_acceptFrame ..

theorem blanks_frameSent : Blanks .frameSent := by
  refine blanks_of (fun _ => rfl) (fun _ => rfl) fun s => ?_
  rw [blanked_link]
  split
  · rfl
  · refine blanked_ite fun _ => ?_
    rfl

theorem blanks_unknownKind : Blanks .unknownKind := by
  refine blanks_of (fun _ => rfl) (fun _ => rfl) fun s => ?_
  refine blanked_ite fun _ => ?_
  rw [blanked_link]
  split
  · rfl
  · split
    · rfl
    · exact blanked_answer ..

theorem blanks_restartReset : Blanks .restartReset := by
  refine blanks_of (fun _ => rfl) (fun _ => rfl) fun s => ?_
  refine blanked_ite fun _ => ?_
  rw [blanked_resetKeyring, blanked_restarted]

theorem blanks_mainPowerLoss : Blanks .mainPowerLoss := by
  refine blanks_of (fun _ => rfl) (fun _ => rfl) fun s => ?_
  refine blanked_ite fun _ => ?_
  rfl

theorem blanks_batterySecond : Blanks .batterySecond := by
  refine blanks_of (fun _ => rfl) (fun _ => rfl) fun s => ?_
  rw [blanked_powered, blanked_domain]
  split
  · rfl
  · rfl

theorem blanks_cellFailed : Blanks .cellFailed := by
  refine blanks_of (fun _ => rfl) (fun _ => rfl) fun s => ?_
  rw [blanked_powered, blanked_domain]
  split
  · rfl
  · rfl

theorem blanks_powerUp (checkMatches : Bool) (run : StartUpRun) : Blanks (.powerUp checkMatches run) := by
  refine blanks_of (fun _ => rfl) (fun _ => rfl) fun s => ?_
  rw [blanked_powered, blanked_domain]
  split
  · rfl
  · split
    · rfl
    · rw [← blanked_startLost, ← blanked_startValid, ← blanked_beginCut, ← apply_ite State.blanked]
      exact blanked_withoutPower _
    · rw [← blanked_startLost, ← blanked_startValid, ← blanked_beginOperation, ← apply_ite State.blanked]
      exact blanked_powerOn _

theorem blanks_tick (part : TickPart) : Blanks (.tick part) := by
  refine blanks_of (fun _ => rfl) (fun _ => rfl) fun s => ?_
  cases part with
  | whole order => exact blanked_ite fun _ => blanked_tickWhole ..
  | clockOnly => exact blanked_ite fun _ => blanked_tickClockOnly s
  | expiryPass => exact blanked_ite fun _ => blanked_takeDueExpiry s
  | windowSweep => exact blanked_ite fun _ => blanked_takeDueWindow s
  | stopTimeSweep => exact blanked_ite fun _ => blanked_takeDueStopTime s

theorem blanks_stalenessMinute (order : SweepOrder) : Blanks (.stalenessMinute order) := by
  refine blanks_of (fun _ => rfl) (fun _ => rfl) fun s => ?_
  exact blanked_ite fun _ => blanked_tickWhole ..

theorem blanks_replenish (order : SweepOrder) : Blanks (.replenish order) := by
  refine blanks_of (fun _ => rfl) (fun _ => rfl) fun s => ?_
  exact blanked_ite fun _ => blanked_tickWhole ..

theorem blanks_timeClaim (tagOver : Option ClaimTag) (order : SweepOrder) : Blanks (.timeClaim tagOver order) := by
  refine blanks_of (fun _ => rfl) (fun _ => rfl) fun s => ?_
  refine blanked_serveWith (fun T r t => ?_) s
  dsimp only
  rw [blanked_store]
  split
  · rw [blanked_answer, ← blanked_takeClaim, ← blanked_afterClaim]
    rfl
  · exact blanked_answer ..

theorem blanks_siteParameter : Blanks .siteParameter := by
  refine blanks_of (fun _ => rfl) (fun _ => rfl) fun s => ?_
  refine blanked_serveWith (fun q r t => ?_) s
  dsimp only
  have stored : { t.blanked with params := t.blanked.params.store q } =
      ({ t with params := t.params.store q } : State).blanked := rfl
  rw [stored, ← blanked_evaluateAndSweep]
  split
  · exact blanked_answer ..
  · exact blanked_answer ..

theorem blanks_setShape : Blanks .setShape := by
  refine blanks_of (fun _ => rfl) (fun _ => rfl) fun s => ?_
  refine blanked_serveWith (fun q r t => ?_) s
  have set :
      { t.blanked with margin := { t.blanked.margin with shapes := t.blanked.margin.shapes.set q.1 q.2 } } =
        ({ t with margin := { t.margin with shapes := t.margin.shapes.set q.1 q.2 } } : State).blanked := rfl
  dsimp only at set ⊢
  rw [set, ← blanked_evaluateAndSweep]
  exact blanked_answer ..

theorem blanks_setTerm : Blanks .setTerm := by
  refine blanks_of (fun _ => rfl) (fun _ => rfl) fun s => ?_
  refine blanked_serveWith (fun q r t => ?_) s
  have set :
      { t.blanked with margin := { t.blanked.margin with terms := t.blanked.margin.terms.set q.1 q.2 } } =
        ({ t with margin := { t.margin with terms := t.margin.terms.set q.1 q.2 } } : State).blanked := rfl
  dsimp only at set ⊢
  rw [set, ← blanked_evaluateAndSweep]
  exact blanked_answer ..

theorem blanks_identify : Blanks .identify := by
  refine blanks_of (fun _ => rfl) (fun _ => rfl) fun s => ?_
  refine blanked_serveBare (fun r t => ?_) s
  exact blanked_answer ..

theorem blanks_clockStatus : Blanks .clockStatus := by
  refine blanks_of (fun _ => rfl) (fun _ => rfl) fun s => ?_
  refine blanked_serveBare (fun r t => ?_) s
  exact blanked_answer ..

theorem blanks_marginStatus : Blanks .marginStatus := by
  refine blanks_of (fun _ => rfl) (fun _ => rfl) fun s => ?_
  refine blanked_serveBare (fun r t => ?_) s
  exact blanked_answer ..

theorem blanks_listRevocations : Blanks .listRevocations := by
  refine blanks_of (fun _ => rfl) (fun _ => rfl) fun s => ?_
  refine blanked_serveBare (fun r t => ?_) s
  exact blanked_answer ..

theorem blanks_engineStatus : Blanks .engineStatus := by
  refine blanks_of (fun _ => rfl) (fun _ => rfl) fun s => ?_
  refine blanked_serveBare (fun r t => ?_) s
  rw [engineBody_blanked]
  exact blanked_answer ..

theorem blanks_provisionWrite : Blanks .provisionWrite := by
  refine blanks_of (fun _ => rfl) (fun _ => rfl) fun s => ?_
  exact blanked_serve blanked_provisionWrite s

theorem blanks_provisionFinalize : Blanks .provisionFinalize := by
  refine blanks_of (fun _ => rfl) (fun _ => rfl) fun s => ?_
  refine blanked_serveBare (fun r t => ?_) s
  rw [blanked_store]
  split
  · exact blanked_answer ..
  · split
    · exact blanked_answer ..
    · exact blanked_answer ..

theorem blanks_collect : Blanks .collect := by
  refine blanks_of (fun _ => rfl) (fun _ => rfl) fun s => ?_
  refine blanked_serveBare (fun r t => ?_) s
  exact (blanked_answer ..).trans (congrArg _ (blanked_armWhenEmpty _))

theorem blanks_restart : Blanks .restart := by
  refine blanks_of (fun _ => rfl) (fun _ => rfl) fun s => ?_
  refine blanked_serveBare (fun r t => ?_) s
  exact blanked_handReply ..

theorem blanks_dismiss : Blanks .dismiss := by
  refine blanks_of (fun _ => rfl) (fun _ => rfl) fun s => ?_
  refine blanked_serveWith (fun q r t => ?_) s
  exact (blanked_answer ..).trans (congrArg _ (blanked_armWhenEmpty _))

theorem blanks_noticeHold : Blanks .noticeHold := by
  refine blanks_of (fun _ => rfl) (fun _ => rfl) fun s => ?_
  refine blanked_serveWith (fun hold r t => ?_) s
  refine (blanked_answer ..).trans (congrArg _ ?_)
  split
  · rfl
  · exact blanked_judgeAttention _

theorem blanks_deliverBundle (tagOver : Option BundleTag) : Blanks (.deliverBundle tagOver) := by
  refine blanks_of (fun _ => rfl) (fun _ => rfl) fun s => ?_
  refine blanked_serve (fun r t => ?_) s
  rw [blanked_clock]
  split
  · exact blanked_answer ..
  · split
    · exact blanked_answer ..
    next d _ =>
      have place : deliverySlot t.blanked.keyring d.bundleId = deliverySlot t.keyring d.bundleId := rfl
      rw [deliveryRefusal_blanked, place]
      split
      · exact blanked_answer ..
      · exact (blanked_answer ..).trans (congrArg _ (blanked_acceptDelivery ..))
      · exact blanked_answer ..

theorem blanks_bundleStatus : Blanks .bundleStatus := by
  refine blanks_of (fun _ => rfl) (fun _ => rfl) fun s => ?_
  refine blanked_serveWith (fun q r t => ?_) s
  have named : namedSlot t.blanked.keyring q = namedSlot t.keyring q := by cases q <;> rfl
  rw [named]
  split
  · exact blanked_answer ..
  · rw [blanked_slots]
    split
    · exact blanked_answer ..
    · exact blanked_answer ..

theorem blanks_listBundles : Blanks .listBundles := by
  refine blanks_of (fun _ => rfl) (fun _ => rfl) fun s => ?_
  refine blanked_serveWith (fun q r t => ?_) s
  dsimp only
  rw [freeEntries_blanked, scanSlots_blanked]
  exact blanked_answer ..

theorem blanks_deleteBundle : Blanks .deleteBundle := by
  refine blanks_of (fun _ => rfl) (fun _ => rfl) fun s => ?_
  exact blanked_serveWith blanked_deleteBundle s

theorem blanks_revoke (tagOver : Option OrderTag) : Blanks (.revoke tagOver) := by
  refine blanks_of (fun _ => rfl) (fun _ => rfl) fun s => ?_
  refine blanked_serveWith (fun o r t => ?_) s
  rw [blanked_store, blanked_clock, blanked_revocations]
  split
  · exact blanked_answer ..
  · split
    · exact blanked_answer ..
    · split
      · exact blanked_answer ..
      next list action _ =>
        have listed : { t.blanked with clock := t.clock, store := t.store, revocations := list } =
            ({ t with revocations := list } : State).blanked := rfl
        rw [listed, applyOrder_blanked]
        generalize applyOrder o { t with revocations := list } = struck
        obtain ⟨done, affected, stopped⟩ := struck
        exact blanked_answer ..

theorem blanks_sync : Blanks .sync := by
  refine blanks_of (fun _ => rfl) (fun _ => rfl) fun s => ?_
  refine blanked_serveBare (fun r t => ?_) s
  rw [blanked_link, blanked_queued, blanked_inService, Option.isNone_map]
  split
  · exact blanked_answer ..
  · split
    · exact blanked_answer ..
    · exact blanked_snapshot ..

theorem blanks_bindScreen : Blanks .bindScreen := by
  refine blanks_of (fun _ => rfl) (fun _ => rfl) fun s => ?_
  refine blanked_serveWith (fun q r t => ?_) s
  refine blanked_whenClosed (fun u => ?_) t
  refine (blanked_answer ..).trans (congrArg _ ?_)
  rw [blanked_grant, ← blanked_dropJobs]
  exact congrArg (fun u => grant (createJob _ u)) (blanked_setScreen ..)

theorem blanks_unbindScreen : Blanks .unbindScreen := by
  refine blanks_of (fun _ => rfl) (fun _ => rfl) fun s => ?_
  refine blanked_serveWith (fun l r t => ?_) s
  refine blanked_whenClosed (fun u => ?_) t
  refine (blanked_answer ..).trans (congrArg _ ?_)
  rw [← blanked_dropJobs, blanked_screen, blanked_setScreen]
  rfl

theorem blanks_setBias : Blanks .setBias := by
  refine blanks_of (fun _ => rfl) (fun _ => rfl) fun s => ?_
  refine blanked_serveWith (fun q r t => ?_) s
  refine blanked_whenClosed (fun u => ?_) t
  refine (blanked_answer ..).trans (congrArg _ ?_)
  rw [blanked_screen, blanked_setScreen]
  rfl

theorem blanks_laneStatus : Blanks .laneStatus := by
  refine blanks_of (fun _ => rfl) (fun _ => rfl) fun s => ?_
  refine blanked_serveWith (fun l r t => ?_) s
  rw [blanked_screen, Screen.blanked_bytes]
  exact blanked_answer ..

theorem blanks_openScreening : Blanks .openScreening := by
  refine blanks_of (fun _ => rfl) (fun _ => rfl) fun s => ?_
  exact blanked_serveWith blanked_openScreening s

theorem blanks_endScreening : Blanks .endScreening := by
  refine blanks_of (fun _ => rfl) (fun _ => rfl) fun s => ?_
  exact blanked_serveWith blanked_endScreening s

theorem blanks_closeLane : Blanks .closeLane := by
  refine blanks_of (fun _ => rfl) (fun _ => rfl) fun s => ?_
  exact blanked_serveWith blanked_closeLane s

theorem blanks_fetchReel : Blanks .fetchReel := by
  refine blanks_of (fun _ => rfl) (fun _ => rfl) fun s => ?_
  exact blanked_serveWith blanked_fetchReel s

theorem blanks_reelBegin : Blanks .reelBegin := by
  refine blanks_of (fun _ => rfl) (fun _ => rfl) fun s => ?_
  exact blanked_serveWith blanked_reelBegin s

theorem blanks_amendScreening : Blanks .amendScreening := by
  refine blanks_of (fun _ => rfl) (fun _ => rfl) fun s => ?_
  exact blanked_serveWith blanked_amendScreening s

theorem blanks_fetchReport : Blanks .fetchReport := by
  refine blanks_of (fun _ => rfl) (fun _ => rfl) fun s => ?_
  exact blanked_serveWith blanked_fetchReport s

theorem blanks_intakeUnwrapComplete (outcome : Option KeyMaterial) : Blanks (.intakeUnwrapComplete outcome) := by
  refine blanks_of (fun _ => rfl) (fun _ => rfl) fun s => ?_
  exact blanked_completeJob (blanked_deliverIntake outcome) blanked_presentIntake s

theorem blanks_rewrapComplete (outcome : Option WrappedReelKey) : Blanks (.rewrapComplete outcome) := by
  refine blanks_of (fun _ => rfl) (fun _ => rfl) fun s => ?_
  exact blanked_completeJob (blanked_deliverRewrap outcome) (present := id) (fun _ => rfl) s

theorem blanks_bindComplete (outcome : Option KeyMaterial) : Blanks (.bindComplete outcome) := by
  refine blanks_of (fun _ => rfl) (fun _ => rfl) fun s => ?_
  exact blanked_completeJob (blanked_deliverBind outcome) (present := id) (fun _ => rfl) s

/-- A command done to a blanked state, with the clear key it brings blanked, leaves the blanked result. -/
theorem exec_blanked (c : Instr) : Blanks c := by
  cases c with
  | serialFrame bytes => exact blanks_serialFrame bytes
  | serialByteTimeout => exact blanks_serialByteTimeout
  | lanFrame bytes checkPasses => exact blanks_lanFrame bytes checkPasses
  | frameSent => exact blanks_frameSent
  | unknownKind => exact blanks_unknownKind
  | restartReset => exact blanks_restartReset
  | mainPowerLoss => exact blanks_mainPowerLoss
  | batterySecond => exact blanks_batterySecond
  | cellFailed => exact blanks_cellFailed
  | powerUp checkMatches run => exact blanks_powerUp checkMatches run
  | tick part => exact blanks_tick part
  | stalenessMinute order => exact blanks_stalenessMinute order
  | replenish order => exact blanks_replenish order
  | timeClaim tagOver order => exact blanks_timeClaim tagOver order
  | siteParameter => exact blanks_siteParameter
  | setShape => exact blanks_setShape
  | setTerm => exact blanks_setTerm
  | identify => exact blanks_identify
  | clockStatus => exact blanks_clockStatus
  | marginStatus => exact blanks_marginStatus
  | listRevocations => exact blanks_listRevocations
  | engineStatus => exact blanks_engineStatus
  | provisionWrite => exact blanks_provisionWrite
  | provisionFinalize => exact blanks_provisionFinalize
  | collect => exact blanks_collect
  | restart => exact blanks_restart
  | dismiss => exact blanks_dismiss
  | noticeHold => exact blanks_noticeHold
  | deliverBundle tagOver => exact blanks_deliverBundle tagOver
  | bundleStatus => exact blanks_bundleStatus
  | listBundles => exact blanks_listBundles
  | deleteBundle => exact blanks_deleteBundle
  | revoke tagOver => exact blanks_revoke tagOver
  | sync => exact blanks_sync
  | bindScreen => exact blanks_bindScreen
  | unbindScreen => exact blanks_unbindScreen
  | setBias => exact blanks_setBias
  | laneStatus => exact blanks_laneStatus
  | openScreening => exact blanks_openScreening
  | endScreening => exact blanks_endScreening
  | closeLane => exact blanks_closeLane
  | fetchReel => exact blanks_fetchReel
  | reelBegin => exact blanks_reelBegin
  | amendScreening => exact blanks_amendScreening
  | fetchReport => exact blanks_fetchReport
  | intakeUnwrapComplete outcome => exact blanks_intakeUnwrapComplete outcome
  | rewrapComplete outcome => exact blanks_rewrapComplete outcome
  | bindComplete outcome => exact blanks_bindComplete outcome

/-- Settles O19: every command passes through the blanking of clear keys, which leaves the link alone. -/
theorem clearKeysNeverShow : Obligations.ClearKeysNeverShow := by
  intro s t e
  refine ⟨?_, rfl⟩
  obtain ⟨idle, rfl⟩ | ⟨c, rest, front, e⟩ := step_cases e
  · have pending : t.blanked.pending = [] := congrArg (List.map blankedCommand) idle
    unfold step
    rw [pending]
  · have pending : s.blanked.pending = blankedCommand c :: rest.map blankedCommand :=
      congrArg (List.map blankedCommand) front
    unfold step
    rw [pending]
    exact exec_blanked c _ _ e

end Sys2Proof.Machine

/-! ## Jobs and their owners (O14) -/

namespace Sys2Proof.Machine

/-! ### The jobs of the engine -/

/-- The items of the queued jobs. -/
def queuedItems (e : Engine) : List JobItem := e.queued.map (·.item)

/-- The item of the job in service whose result is wanted. -/
def servedItems (e : Engine) : List JobItem :=
  match e.inService with
  | some j => if j.discard then [] else [j.job.item]
  | none => []

theorem wantedJobs_eq (e : Engine) : wantedJobs e = queuedItems e ++ servedItems e := rfl

theorem mem_servedItems {e : Engine} {i : JobItem} :
    i ∈ servedItems e ↔ ∃ j ∈ e.inService, j.discard = false ∧ j.job.item = i := by
  unfold servedItems
  cases e.inService with
  | none => simp
  | some j =>
    cases discard : j.discard with
    | true => simp [discard]
    | false =>
      simp only [discard, Bool.false_eq_true, if_false, List.mem_singleton, Option.mem_def, Option.some.injEq,
        exists_eq_left', true_and]
      exact eq_comm

/-- The lane or screen that a job works for. -/
def JobItem.onLane : JobItem → Option LaneNo
  | .intake _ _ => none
  | .rewrap l _ _ _ => some l
  | .bind l => some l

/-- Wanted jobs are at distinct places, and each fits its owner's state. -/
structure WorkFits (s : State) : Prop where
  distinct : ((wantedJobs s.engine).map JobItem.place).Nodup
  queued : ∀ i ∈ queuedItems s.engine, queuedFits s i
  served : ∀ i ∈ servedItems s.engine, serviceFits s i

/-- The intake queue and the jobs as they stand between two events, but that the engine may be IDLE with jobs queued. -/
structure GrantDue (s : State) : Prop where
  intake : IntakeOk s
  work : WorkFits s
  asked : s.keyring.intakeQueue ≠ [] → intakeJobExists s.engine = true

/-- The intake queue and the jobs as they stand between two events. -/
structure Orderly (s : State) : Prop extends GrantDue s where
  granted : s.engine.inService = none → s.engine.queued = []

theorem orderly_iff (s : State) : Orderly s ↔ IntakeOk s ∧ JobsOk s := by
  constructor
  · rintro ⟨⟨intake, ⟨distinct, queued, served⟩, asked⟩, granted⟩
    refine ⟨intake, granted, distinct, fun j hj => queued _ (List.mem_map_of_mem hj), fun j hj wanted => ?_, asked⟩
    exact served _ (mem_servedItems.2 ⟨j, hj, wanted, rfl⟩)
  · rintro ⟨intake, granted, distinct, queued, served, asked⟩
    refine ⟨⟨intake, ⟨distinct, fun i hi => ?_, fun i hi => ?_⟩, asked⟩, granted⟩
    · obtain ⟨j, hj, rfl⟩ := List.mem_map.1 hi
      exact queued j hj
    · obtain ⟨j, hj, wanted, rfl⟩ := mem_servedItems.1 hi
      exact served j hj wanted

/-! ### Events that only drop jobs -/

/-- From `s` to `t` jobs are dropped and none is added, and the owners of those left are in the states that want them. -/
structure Drops (s t : State) : Prop where
  queued : (queuedItems t.engine).Sublist (queuedItems s.engine)
  served : (servedItems t.engine).Sublist (servedItems s.engine)
  idle : t.engine.inService = none → s.engine.inService = none
  queuedFits : ∀ i ∈ queuedItems t.engine, queuedFits s i → queuedFits t i
  serviceFits : ∀ i ∈ servedItems t.engine, serviceFits s i → serviceFits t i

namespace Drops

theorem trans {a b c : State} (h : Drops a b) (k : Drops b c) : Drops a c where
  queued := k.queued.trans h.queued
  served := k.served.trans h.served
  idle none := h.idle (k.idle none)
  queuedFits i hi fits := k.queuedFits i hi (h.queuedFits i (k.queued.subset hi) fits)
  serviceFits i hi fits := k.serviceFits i hi (h.serviceFits i (k.served.subset hi) fits)

theorem workFits {s t : State} (h : Drops s t) (work : WorkFits s) : WorkFits t where
  distinct := by
    refine work.distinct.sublist (List.Sublist.map _ ?_)
    exact h.queued.append h.served
  queued i hi := h.queuedFits i hi (work.queued i (h.queued.subset hi))
  served i hi := h.serviceFits i hi (work.served i (h.served.subset hi))

theorem granted {s t : State} (h : Drops s t) (granted : s.engine.inService = none → s.engine.queued = []) :
    t.engine.inService = none → t.engine.queued = [] := by
  intro none
  have before : queuedItems s.engine = [] := by rw [queuedItems, granted (h.idle none)]; rfl
  have after := h.queued
  rw [before, List.sublist_nil] at after
  exact List.map_eq_nil_iff.1 after

/-- The engine, the screens and the lanes left alone. -/
theorem of_eq {s t : State} (engine : t.engine = s.engine := by simp) (screens : t.screens = s.screens := by simp)
    (lanes : t.lanes = s.lanes := by simp) : Drops s t where
  queued := by rw [engine]
  served := by rw [engine]
  idle none := engine ▸ none
  queuedFits i _ fits := by
    cases i with
    | intake => exact fits
    | rewrap | bind => simpa only [Machine.queuedFits, lanes, screens] using fits
  serviceFits i _ fits := by
    cases i with
    | intake => exact fits
    | rewrap | bind => simpa only [Machine.serviceFits, lanes, screens] using fits

end Drops

/-- From `s` to `t` the same bundles are in intake, and jobs are dropped only, none of them the intake's. -/
structure Calm (s t : State) : Prop where
  powered : t.powered = s.powered
  intake : SameIntake s t
  drops : Drops s t
  asked : intakeJobExists s.engine = true → intakeJobExists t.engine = true

theorem SameIntake.intakeOk {s t : State} (h : SameIntake s t) (powered : t.powered = s.powered) (ok : IntakeOk s) :
    IntakeOk t := by
  obtain ⟨nodup, room, members, off⟩ := ok
  refine ⟨h.queue ▸ nodup, h.queue ▸ room, fun on i => ?_, fun gone => ?_⟩
  · rw [h.queue]
    exact (members (powered ▸ on) i).trans (h.members i).symm
  · rw [h.queue]
    exact off (powered ▸ gone)

namespace Calm

theorem trans {a b c : State} (h : Calm a b) (k : Calm b c) : Calm a c where
  powered := k.powered.trans h.powered
  intake := h.intake.trans k.intake
  drops := h.drops.trans k.drops
  asked exists_ := k.asked (h.asked exists_)

theorem grantDue {s t : State} (h : Calm s t) (due : GrantDue s) : GrantDue t where
  intake := h.intake.intakeOk h.powered due.intake
  work := h.drops.workFits due.work
  asked waiting := h.asked (due.asked (h.intake.queue ▸ waiting))

theorem orderly {s t : State} (h : Calm s t) (ok : Orderly s) : Orderly t where
  toGrantDue := h.grantDue ok.toGrantDue
  granted := h.drops.granted ok.granted

/-- The engine, the screens and the lanes left alone. -/
theorem of_intake {s t : State} (intake : SameIntake s t) (powered : t.powered = s.powered := by simp)
    (engine : t.engine = s.engine := by simp) (screens : t.screens = s.screens := by simp)
    (lanes : t.lanes = s.lanes := by simp) : Calm s t where
  powered := powered
  intake := intake
  drops := .of_eq engine screens lanes
  asked exists_ := engine ▸ exists_

theorem of_work {s t : State} (h : SameWork s t) : Calm s t :=
  of_intake (.of_eq h.keyring) h.powered h.engine h.screens h.lanes

theorem refl (s : State) : Calm s s := of_work {}

theorem foldl {α : Type} (f : State → α → State) (one : ∀ t i, Calm t (f t i)) (l : List α) (s : State) :
    Calm s (l.foldl f s) :=
  frame_of_foldl f Calm refl (fun _ _ _ => trans) one l s

theorem post (n : Notice) (s : State) : Calm s (post n s) := of_work {}

end Calm

/-! ### One lane or screen changed -/

/-- A lane or screen that no job can fit: it awaits none. -/
def AwaitsNone (l : LaneNo) (s : State) : Prop :=
  ∀ i : JobItem, i.onLane = some l → ¬queuedFits s i ∧ ¬serviceFits s i

theorem awaitsNone_of_noJobs {l : LaneNo} {s : State} {sc : Screening} (held : s.lanes[l] = some sc)
    (none : ∀ n, (sc.slot n).hasJob = false) : AwaitsNone l s := by
  intro i hi
  cases i with
  | intake => cases hi
  | bind m =>
    obtain rfl : m = l := Option.some.inj hi
    simp [queuedFits, serviceFits, held]
  | rewrap m n p t =>
    obtain rfl : m = l := Option.some.inj hi
    have free := none n
    constructor
    · rintro ⟨a, ha, -, slot⟩
      obtain rfl : sc = a := Option.some.inj (held.symm.trans ha)
      simp [slot, ReelSlot.hasJob] at free
    · rintro ⟨a, ha, -, slot⟩
      obtain rfl : sc = a := Option.some.inj (held.symm.trans ha)
      simp [slot, ReelSlot.hasJob] at free

theorem awaitsNone_of_status {l : LaneNo} {s : State} {sc : Screening} (held : s.lanes[l] = some sc)
    (status : sc.status ≠ .running) : AwaitsNone l s := by
  intro i hi
  cases i with
  | intake => cases hi
  | bind m =>
    obtain rfl : m = l := Option.some.inj hi
    simp [queuedFits, serviceFits, held]
  | rewrap m n p t =>
    obtain rfl : m = l := Option.some.inj hi
    constructor
    · rintro ⟨a, ha, running, -⟩
      exact status (Option.some.inj (held.symm.trans ha) ▸ running)
    · rintro ⟨a, ha, running, -⟩
      exact status (Option.some.inj (held.symm.trans ha) ▸ running)

theorem awaitsNone_of_closed {l : LaneNo} {s : State} (closed : s.lanes[l] = none)
    (screen : (s.screens[l]).binding.isBinding = false) : AwaitsNone l s := by
  intro i hi
  cases i with
  | intake => cases hi
  | bind m =>
    obtain rfl : m = l := Option.some.inj hi
    rw [queuedFits, serviceFits, screen]
    simp
  | rewrap m n p t =>
    obtain rfl : m = l := Option.some.inj hi
    simp [queuedFits, serviceFits, closed]

/-- Jobs of other lanes and screens fit where those are left alone. -/
theorem fits_elsewhere {l : LaneNo} {s t : State} {i : JobItem} (other : i.onLane ≠ some l)
    (lanes : ∀ m, l ≠ m → t.lanes[m] = s.lanes[m]) (screens : ∀ m, l ≠ m → t.screens[m] = s.screens[m]) :
    (queuedFits s i → queuedFits t i) ∧ (serviceFits s i → serviceFits t i) := by
  cases i with
  | intake => exact ⟨id, id⟩
  | rewrap m n p u =>
    have apart : l ≠ m := by
      rintro rfl
      exact other rfl
    simp only [queuedFits, serviceFits, lanes m apart]
    exact ⟨id, id⟩
  | bind m =>
    have apart : l ≠ m := by
      rintro rfl
      exact other rfl
    simp only [queuedFits, serviceFits, lanes m apart, screens m apart]
    exact ⟨id, id⟩

theorem Drops.of_awaitsNone {l : LaneNo} {s t : State} (free : AwaitsNone l s) (engine : t.engine = s.engine)
    (lanes : ∀ m, l ≠ m → t.lanes[m] = s.lanes[m]) (screens : ∀ m, l ≠ m → t.screens[m] = s.screens[m]) :
    Drops s t where
  queued := by rw [engine]
  served := by rw [engine]
  idle none := engine ▸ none
  queuedFits i _ fits := by
    by_cases here : i.onLane = some l
    · exact absurd fits (free i here).1
    · exact (fits_elsewhere here lanes screens).1 fits
  serviceFits i _ fits := by
    by_cases here : i.onLane = some l
    · exact absurd fits (free i here).2
    · exact (fits_elsewhere here lanes screens).2 fits

theorem modifyLane_get (l : LaneNo) (f : Screening → Screening) (s : State) (m : LaneNo) :
    (modifyLane l f s).lanes[m] = if l = m then (s.lanes[m]).map f else s.lanes[m] := by
  unfold modifyLane
  split
  next closed =>
    split
    next same => rw [← same, closed]; rfl
    · rfl
  next sc held =>
    rw [setLane_lanes]
    split
    next same => rw [← same, lanes_set_same, held]; rfl
    next apart => exact lanes_set_other s apart _

namespace Calm

/-- The record of a lane replaced where no job awaits it. -/
theorem setLane {l : LaneNo} {s : State} (free : AwaitsNone l s) (new : Option Screening) : Calm s (setLane l new s) where
  powered := rfl
  intake := .of_eq rfl
  drops := .of_awaitsNone free rfl (fun _ apart => lanes_set_other s apart new) fun _ _ => rfl
  asked := id

theorem modifyLane {l : LaneNo} {s : State} (free : AwaitsNone l s) (f : Screening → Screening) :
    Calm s (modifyLane l f s) where
  powered := by simp
  intake := .of_eq (by simp)
  drops :=
    .of_awaitsNone free (by simp) (fun m apart => by rw [modifyLane_get, if_neg apart]) fun m _ => by simp
  asked exists_ := by simpa using exists_

/-- A lane's record replaced by one that keeps its status and the slots that have a wanted job. -/
theorem replaced {l : LaneNo} {s : State} {sc new : Screening} (held : s.lanes[l] = some sc)
    (status : new.status = sc.status)
    (kept : ∀ n p u, .rewrap l n p u ∈ wantedJobs s.engine → (sc.slot n).hasJob = true → new.slot n = sc.slot n) :
    Calm s (Machine.setLane l (some new) s) := by
  have here : (s.lanes.set l (some new))[l] = some new := lanes_set_same ..
  have slot (n : SlotName) (p : Position) (u : Nat) (phase : SlotPhase)
      (job : (ReelSlot.holds p u phase).hasJob = true) (m : LaneNo)
      (wanted : .rewrap m n p u ∈ wantedJobs s.engine) (fits : ∃ a ∈ s.lanes[m], a.status = .running ∧
        a.slot n = .holds p u phase) :
      ∃ a ∈ (s.lanes.set l (some new))[m], a.status = .running ∧ a.slot n = .holds p u phase := by
    by_cases apart : l = m
    · subst apart
      obtain ⟨a, ha, running, holds⟩ := fits
      obtain rfl : sc = a := Option.some.inj (held.symm.trans ha)
      exact ⟨new, here, status.trans running, (kept n p u wanted (holds ▸ job)).trans holds⟩
    · rw [lanes_set_other s apart]
      exact fits
  have bind (m : LaneNo) (closed : s.lanes[m] = none) : (s.lanes.set l (some new))[m] = none := by
    have apart : l ≠ m := by
      rintro rfl
      simp [held] at closed
    rw [lanes_set_other s apart, closed]
  refine
    { powered := rfl, intake := .of_eq rfl, asked := id
      drops :=
        { queued := .refl _, served := .refl _, idle := id, queuedFits := fun i hi fits => ?_
          serviceFits := fun i hi fits => ?_ } }
  · cases i with
    | intake => exact fits
    | rewrap m n p u => exact slot n p u .queued rfl m (List.mem_append_left _ hi) fits
    | bind m => exact ⟨bind m fits.1, fits.2⟩
  · cases i with
    | intake => exact fits
    | rewrap m n p u => exact slot n p u .unwrapping rfl m (List.mem_append_right _ hi) fits
    | bind m => exact ⟨bind m fits.1, fits.2⟩

/-- A lane's record replaced by one with the same jobs. -/
theorem recorded {l : LaneNo} {s : State} {sc new : Screening} (held : s.lanes[l] = some sc) (same : sc.SameJobs new) :
    Calm s (Machine.setLane l (some new) s) :=
  replaced held same.status fun n _ _ _ job => same.slots n (.inl job)

end Calm

/-! ### Jobs dropped -/

theorem queuedItems_dropJobs (p : JobItem → Bool) (s : State) :
    queuedItems (dropJobs p s).engine = (queuedItems s.engine).filter fun i => !p i := by
  rw [dropJobs_engine_eq]
  unfold queuedItems
  rw [List.filter_map]
  rfl

theorem servedItems_dropJobs (p : JobItem → Bool) (s : State) :
    servedItems (dropJobs p s).engine = (servedItems s.engine).filter fun i => !p i := by
  rw [dropJobs_engine_eq]
  unfold servedItems
  cases s.engine.inService with
  | none => rfl
  | some j =>
    dsimp only [Option.map_some]
    cases named : p j.job.item <;> cases discard : j.discard <;> simp [named, discard]

theorem intakeJobExists_dropJobs {p : JobItem → Bool} (others : ∀ i : JobItem, i.isIntake = true → p i = false)
    (s : State) (h : intakeJobExists s.engine = true) : intakeJobExists (dropJobs p s).engine = true := by
  rw [dropJobs_engine_eq]
  unfold intakeJobExists at h ⊢
  rw [Bool.or_eq_true] at h ⊢
  refine h.imp (fun queued => ?_) fun served => ?_
  · obtain ⟨j, hj, intake⟩ := List.any_eq_true.1 queued
    exact List.any_eq_true.2 ⟨j, List.mem_filter.2 ⟨hj, by rw [others _ intake]; rfl⟩, intake⟩
  · cases service : s.engine.inService with
    | none => simp [service] at served
    | some j =>
      rw [service, Option.any_some] at served
      simp [others _ served, served]

/-- Jobs dropped together with changes to what only they await. -/
theorem Drops.of_dropJobs {p : JobItem → Bool} {s t : State} (engine : t.engine = (Machine.dropJobs p s).engine)
    (fits : ∀ i : JobItem, p i = false → (Machine.queuedFits s i → Machine.queuedFits t i) ∧
      (Machine.serviceFits s i → Machine.serviceFits t i)) : Drops s t where
  queued := by
    rw [engine, queuedItems_dropJobs]
    exact List.filter_sublist
  served := by
    rw [engine, servedItems_dropJobs]
    exact List.filter_sublist
  idle none := by
    rw [engine, dropJobs_engine_eq] at none
    simpa using none
  queuedFits i hi := by
    rw [engine, queuedItems_dropJobs, List.mem_filter] at hi
    exact (fits i (by simpa using hi.2)).1
  serviceFits i hi := by
    rw [engine, servedItems_dropJobs, List.mem_filter] at hi
    exact (fits i (by simpa using hi.2)).2

theorem isIntake_not_rewrapOf {l : LaneNo} {n : SlotName} (i : JobItem) (h : i.isIntake = true) :
    i.isRewrapOf l n = false := by
  cases i <;> simp_all [JobItem.isIntake, JobItem.isRewrapOf]

theorem isIntake_not_bindOf {l : LaneNo} (i : JobItem) (h : i.isIntake = true) : i.isBindOf l = false := by
  cases i <;> simp_all [JobItem.isIntake, JobItem.isBindOf]

namespace Calm

theorem emptySlot (l : LaneNo) (n : SlotName) (s : State) : Calm s (emptySlot l n s) where
  powered := by simp
  intake := .of_eq (by simp)
  drops := by
    have engine : (Machine.emptySlot l n s).engine = (dropJobs (JobItem.isRewrapOf l n) s).engine := by
      rw [Machine.emptySlot, dropJobs_engine_eq, dropJobs_engine_eq, modifyLane_engine]
    have lanes (m : LaneNo) : (Machine.emptySlot l n s).lanes[m] =
        if l = m then (s.lanes[m]).map (fun sc => sc.withSlot n .empty) else s.lanes[m] := by
      rw [Machine.emptySlot, dropJobs_lanes, modifyLane_get]
    have screens : (Machine.emptySlot l n s).screens = s.screens := by simp
    refine .of_dropJobs engine fun i kept => ?_
    cases i with
    | intake => exact ⟨id, id⟩
    | bind m =>
      simp only [queuedFits, serviceFits, lanes m, screens]
      split
      · simp
      · exact ⟨id, id⟩
    | rewrap m k p u =>
      simp only [queuedFits, serviceFits, lanes m]
      split
      next same =>
        have apart : k ≠ n := by
          rintro rfl
          simp [JobItem.isRewrapOf, same] at kept
        constructor
        all_goals
          rintro ⟨a, ha, running, holds⟩
          rw [Option.mem_def] at ha
          refine ⟨a.withSlot n .empty, by rw [ha]; rfl, (Screening.withSlot_status ..).trans running, ?_⟩
          rw [Screening.slot_withSlot_other _ apart, holds]
      · exact ⟨id, id⟩
  asked exists_ := by
    refine intakeJobExists_dropJobs isIntake_not_rewrapOf _ ?_
    simpa using exists_

theorem emptyWorking (l : LaneNo) (n : SlotName) (s : State) : Calm s (emptyWorking l n s) := by
  unfold Machine.emptyWorking
  split
  · split
    · exact emptySlot ..
    · exact refl s
  · exact refl s

end Calm

/-! ### Lanes ended and stopped -/

theorem emptySlot_get (l : LaneNo) (n : SlotName) (s : State) :
    (emptySlot l n s).lanes[l] = (s.lanes[l]).map fun sc => sc.withSlot n .empty := by
  rw [emptySlot, dropJobs_lanes, modifyLane_get, if_pos rfl]

theorem Screening.withSlot_noJob {sc : Screening} {n : SlotName} (h : ∀ m, m ≠ n → (sc.slot m).hasJob = false)
    (m : SlotName) : ((sc.withSlot n .empty).slot m).hasJob = false := by
  by_cases same : m = n
  · subst same
    rw [slot_withSlot]
    rfl
  · rw [slot_withSlot_other _ same, h m same]

/-- After both its slots are emptied a lane awaits no job. -/
theorem awaitsNone_emptied {l : LaneNo} {s : State} {sc : Screening} (held : s.lanes[l] = some sc) :
    AwaitsNone l (emptySlot l .y (emptySlot l .x s)) := by
  refine awaitsNone_of_noJobs (sc := (sc.withSlot .x .empty).withSlot .y .empty) ?_ (Screening.withSlot_noJob ?_)
  · rw [emptySlot_get, emptySlot_get, held]
    rfl
  · intro m other
    cases m with
    | x => rw [Screening.slot_withSlot]; rfl
    | y => exact absurd rfl other

namespace Calm

theorem endLane (l : LaneNo) (status : LaneStatus) (cause : EndCause) (notice : Notice) (s : State) :
    Calm s (endLane l status cause notice s) := by
  unfold Machine.endLane
  split
  · exact refl s
  next sc held =>
    have emptied := (emptySlot l .x s).trans (emptySlot l .y _)
    have marked := emptied.trans (modifyLane (awaitsNone_emptied held) fun sc =>
      { sc with status := status, amendment := none, ending := some (cause, s.clock.now) })
    exact (marked.trans (of_intake (SameIntake.returnUse ..))).trans (post ..)

/-- An emptied working slot has no job. -/
theorem emptyWorking_get (l : LaneNo) (n : SlotName) {s : State} {sc : Screening} (held : s.lanes[l] = some sc) :
    ∃ new, (Machine.emptyWorking l n s).lanes[l] = some new ∧ (new.slot n).hasJob = false ∧
      ∀ m, m ≠ n → new.slot m = sc.slot m := by
  unfold Machine.emptyWorking
  rw [held]
  dsimp only
  split
  next working =>
    refine ⟨sc.withSlot n .empty, by rw [emptySlot_get, held]; rfl, ?_, fun m other => ?_⟩
    · rw [Screening.slot_withSlot]
      rfl
    · exact Screening.slot_withSlot_other _ other _
  next idle => exact ⟨sc, held, by simpa using idle, fun _ _ => rfl⟩

theorem stopLane (l : LaneNo) (s : State) : Calm s (stopLane l s) := by
  have emptied := (emptyWorking l .x s).trans (emptyWorking l .y _)
  refine emptied.trans ?_
  cases held : s.lanes[l] with
  | none =>
    have closed : (Machine.emptyWorking l .y (Machine.emptyWorking l .x s)).lanes[l] = none := by
      simp [Machine.emptyWorking, held]
    unfold Machine.stopLane Machine.modifyLane
    rw [closed]
    exact refl _
  | some sc =>
    obtain ⟨a, ha, freeX, -⟩ := emptyWorking_get l .x held
    obtain ⟨b, hb, freeY, same⟩ := emptyWorking_get l .y ha
    refine modifyLane (awaitsNone_of_noJobs hb fun n => ?_) _
    cases n with
    | x => rw [same .x (by simp), freeX]
    | y => exact freeY

theorem stopLanes (i : SlotNo) (s : State) : Calm s (stopLanes i s).1 := foldl _ (fun t l => stopLane l t) _ s

theorem judgeLane (now lead : Nat) (l : LaneNo) (s : State) : Calm s (judgeLane now lead l s) := by
  unfold Machine.judgeLane
  split
  · exact refl s
  next sc held =>
    split
    · exact endLane ..
    · split
      · exact endLane ..
      · split
        · refine (recorded held ?_).trans (post ..)
          exact .of_eq rfl rfl rfl
        · exact refl s

theorem stopTimeSweep (s : State) : Calm s (stopTimeSweep s) := foldl _ (fun t l => judgeLane _ _ l t) _ s

theorem windowSweep (s : State) : Calm s (windowSweep s) := of_intake (SameIntake.windowSweep s)

theorem bothSweeps (order : SweepOrder) (s : State) : Calm s (bothSweeps order s) := by
  cases order
  · exact (windowSweep s).trans (stopTimeSweep _)
  · exact (stopTimeSweep s).trans (windowSweep _)

theorem beginOperation (s : State) : Calm s (beginOperation s) := by
  unfold Machine.beginOperation
  split
  · exact (of_work {}).trans (bothSweeps ..)
  · exact refl s

end Calm

end Sys2Proof.Machine

/-! ## Grants and new jobs (O14) -/

namespace Sys2Proof.Machine

/-! ### The choice of a grant (R90) -/

/-- A presented job is queued, and its owner lets it be presented. -/
theorem mem_of_presented {s : State} {r : RequesterNo} {j : Job} (h : presented s r = some j) :
    j ∈ s.engine.queued ∧ mayPresent s j = true := by
  have found := mem_of_foldl_best (fun best k => ?_) h
  · obtain ⟨queued, tests⟩ := List.mem_filter.1 found
    exact ⟨queued, (Bool.and_eq_true_iff.1 tests).2⟩
  · split
    · exact .inr rfl
    · split
      · exact .inr rfl
      · exact .inl rfl

/-- A scan that always holds something after a turn finds something in a list that is not empty. -/
theorem foldl_ne_none {α β : Type} {f : Option β → α → Option β} (turn : ∀ best i, f best i ≠ none) {l : List α}
    (h : l ≠ []) : l.foldl f none ≠ none := by
  obtain nil | ⟨front, last, rfl⟩ := List.eq_nil_or_concat l
  · exact absurd nil h
  · rw [List.concat_eq_append, List.foldl_append]
    exact turn _ last

/-- A requester with a queued job that may be presented presents one. -/
theorem presented_ne_none {s : State} {j : Job} (queued : j ∈ s.engine.queued) (may : mayPresent s j = true) :
    presented s j.item.requester ≠ none := by
  refine foldl_ne_none (fun best k => ?_) (List.ne_nil_of_mem (List.mem_filter.2 ⟨queued, ?_⟩))
  · split
    · exact Option.some_ne_none _
    · split <;> exact Option.some_ne_none _
  · rw [may]
    simp

theorem presented_of_grantChoice {s : State} {r : RequesterNo} {j : Job} (h : grantChoice s = some (r, j)) :
    presented s r = some j := by
  have all : ∀ q ∈ grantChoice s, presented s q.1 = some q.2 := by
    refine
      List.foldlRecOn (motive := fun best : Option (RequesterNo × Job) => ∀ q ∈ best, presented s q.1 = some q.2) _ _
        (by simp) fun best found r _ => ?_
    split
    · exact found
    next j present =>
      split
      · rintro q ⟨⟩
        exact present
      · split
        · rintro q ⟨⟩
          exact present
        · exact found
  exact all _ h

/-- While a requester presents a job, a grant finds one. -/
theorem grantChoice_ne_none {s : State} {r : RequesterNo} (h : presented s r ≠ none) : grantChoice s ≠ none := by
  obtain ⟨before, after, all⟩ := List.append_of_mem (List.mem_finRange r)
  unfold grantChoice
  rw [all, List.foldl_append, List.foldl_cons]
  refine List.foldlRecOn (motive := fun best => best ≠ none) _ _ ?_ ?_
  · split
    next silent => exact absurd silent h
    · split
      · exact Option.some_ne_none _
      · split <;> exact Option.some_ne_none _
  · intro best found q _
    split
    · exact found
    · split
      · exact Option.some_ne_none _
      · split <;> exact Option.some_ne_none _

/-- A queued job that fits its owner's state may be presented. -/
theorem mayPresent_of_fits {s : State} {j : Job} (fits : queuedFits s j.item) : mayPresent s j = true := by
  unfold mayPresent
  cases item : j.item with
  | intake => rfl
  | rewrap l n p u =>
    rw [item] at fits
    obtain ⟨sc, held, running, -⟩ := fits
    rw [Option.mem_def] at held
    simp [laneRunning, held, running]
  | bind l =>
    rw [item] at fits
    exact Bool.and_eq_true_iff.2 ⟨by rw [fits.1]; rfl, fits.2⟩

/-- An engine that stays IDLE through a grant has no job queued. -/
theorem WorkFits.grant_idle {s : State} (work : WorkFits s) (idle : (grant s).engine.inService = none) :
    (grant s).engine.queued = [] := by
  obtain ⟨same, service | silent⟩ | ⟨r, j, -, -, e⟩ := grant_cases s
  · exact absurd (same ▸ idle) service
  · rw [same]
    refine List.eq_nil_iff_forall_not_mem.2 fun j queued => ?_
    have may := mayPresent_of_fits (work.queued j.item (List.mem_map_of_mem queued))
    exact grantChoice_ne_none (presented_ne_none queued may) silent
  · rw [e] at idle
    cases idle

/-! ### The job granted enters service (R90, R121) -/

theorem enterService_get (i : JobItem) (s : State) (m : LaneNo) :
    (enterService i s).lanes[m] =
      match i with
      | .rewrap l n _ _ => if l = m then (s.lanes[m]).map fun sc => sc.withSlot n (sc.slot n).granted else s.lanes[m]
      | _ => s.lanes[m] := by
  cases i with
  | intake | bind => rfl
  | rewrap l n p u => exact modifyLane_get ..

/-- A job at another place than the one granted still fits. -/
theorem queuedFits_enterService {i k : JobItem} {s : State} (apart : k.place ≠ i.place) (fits : queuedFits s k) :
    queuedFits (enterService i s) k := by
  cases i with
  | intake | bind => exact fits
  | rewrap l n p u =>
    cases k with
    | intake => exact fits
    | bind m =>
      simp only [queuedFits, enterService_get, enterService_screens, fits.1]
      exact ⟨by split <;> rfl, fits.2⟩
    | rewrap m c q v =>
      obtain ⟨sc, held, running, holds⟩ := fits
      rw [Option.mem_def] at held
      simp only [queuedFits, enterService_get, held]
      split
      next same =>
        have other : c ≠ n := by
          rintro rfl
          exact apart (by rw [same]; rfl)
        refine ⟨_, rfl, (Screening.withSlot_status ..).trans running, ?_⟩
        rw [Screening.slot_withSlot_other _ other, holds]
      · exact ⟨sc, rfl, running, holds⟩

/-- The job granted fits in service. -/
theorem serviceFits_enterService {i : JobItem} {s : State} (fits : queuedFits s i) : serviceFits (enterService i s) i := by
  cases i with
  | intake | bind => exact fits
  | rewrap l n p u =>
    obtain ⟨sc, held, running, holds⟩ := fits
    rw [Option.mem_def] at held
    simp only [serviceFits, enterService_get, held, if_true]
    refine ⟨_, rfl, (Screening.withSlot_status ..).trans running, ?_⟩
    rw [Screening.slot_withSlot, holds]
    rfl

theorem queuedItems_perm_erase {e : Engine} {j : Job} (queued : j ∈ e.queued) :
    (queuedItems e).Perm (j.item :: (e.queued.erase j).map (·.item)) :=
  (List.perm_cons_erase queued).map _

/-- A grant leaves the intake queue and the jobs as they stand between two events. -/
theorem GrantDue.grant {s : State} (due : GrantDue s) : Orderly (grant s) := by
  have keyring := grant_keyring s
  refine { intake := ?_, work := ?_, asked := ?_, granted := due.work.grant_idle }
  · exact (SameIntake.of_eq keyring).intakeOk (grant_powered s) due.intake
  · obtain ⟨same, -⟩ | ⟨r, j, idle, choice, e⟩ := grant_cases s
    · rw [same]
      exact due.work
    · obtain ⟨queued, -⟩ := mem_of_presented (presented_of_grantChoice choice)
      have perm := queuedItems_perm_erase queued
      have served : servedItems s.engine = [] := by rw [servedItems, idle]
      have distinct : ((j.item :: (s.engine.queued.erase j).map (·.item)).map JobItem.place).Nodup := by
        have before := due.work.distinct
        rw [wantedJobs_eq, served, List.append_nil] at before
        exact (perm.map _).nodup_iff.1 before
      have fits (i : JobItem) (hi : i ∈ j.item :: (s.engine.queued.erase j).map (·.item)) : queuedFits s i :=
        due.work.queued i (perm.mem_iff.2 hi)
      rw [List.map_cons, List.nodup_cons] at distinct
      rw [e]
      refine { distinct := ?_, queued := fun i hi => ?_, served := fun i hi => ?_ }
      · have wanted :
            ((s.engine.queued.erase j).map (·.item) ++ [j.item]).Perm
              (j.item :: (s.engine.queued.erase j).map (·.item)) := List.perm_append_singleton ..
        refine (wanted.map _).nodup_iff.2 ?_
        rw [List.map_cons, List.nodup_cons]
        exact distinct
      · have apart : i.place ≠ j.item.place := fun same => distinct.1 (same ▸ List.mem_map_of_mem hi)
        exact queuedFits_enterService apart (fits i (List.mem_cons_of_mem _ hi))
      · obtain rfl : i = j.item := by simpa [servedItems] using hi
        exact serviceFits_enterService (fits _ (List.mem_cons_self ..))
  · rw [keyring]
    intro waiting
    have before := due.asked waiting
    obtain ⟨same, -⟩ | ⟨r, j, idle, choice, e⟩ := grant_cases s
    · rw [same]
      exact before
    · obtain ⟨queued, -⟩ := mem_of_presented (presented_of_grantChoice choice)
      rw [intakeJobExists, idle, Option.any_none, Bool.or_false] at before
      rw [e, intakeJobExists, Option.any_some, Bool.or_eq_true]
      obtain ⟨k, hk, intake⟩ := List.any_eq_true.1 before
      by_cases same : k = j
      · exact .inr (same ▸ intake)
      · exact .inl (List.any_eq_true.2 ⟨k, (List.mem_erase_of_ne same).2 hk, intake⟩)

/-! ### New jobs (R87) -/

theorem queuedItems_createJob (i : JobItem) (s : State) :
    queuedItems (createJob i s).engine = queuedItems s.engine ++ [i] := by
  simp [queuedItems]

theorem servedItems_createJob (i : JobItem) (s : State) : servedItems (createJob i s).engine = servedItems s.engine := rfl

theorem WorkFits.createJob {s : State} {i : JobItem} (work : WorkFits s) (fits : queuedFits s i)
    (free : ∀ k ∈ wantedJobs s.engine, k.place ≠ i.place) : WorkFits (createJob i s) where
  distinct := by
    have perm :
        ((wantedJobs (Machine.createJob i s).engine).map JobItem.place).Perm
          (i.place :: (wantedJobs s.engine).map JobItem.place) := by
      rw [wantedJobs_eq, wantedJobs_eq, queuedItems_createJob, servedItems_createJob, List.append_assoc,
        List.singleton_append, ← List.map_cons]
      exact List.perm_middle.map _
    rw [perm.nodup_iff, List.nodup_cons]
    refine ⟨fun taken => ?_, work.distinct⟩
    obtain ⟨k, hk, same⟩ := List.mem_map.1 taken
    exact free k hk same
  queued k hk := by
    rw [queuedItems_createJob, List.mem_append, List.mem_singleton] at hk
    obtain old | rfl := hk
    · have before := work.queued k old
      cases k <;> exact before
    · cases k <;> exact fits
  served k hk := by
    have before := work.served k hk
    cases k <;> exact before

theorem intakeJobExists_createJob (i : JobItem) (s : State) (h : intakeJobExists s.engine = true) :
    intakeJobExists (createJob i s).engine = true := by
  unfold intakeJobExists at h ⊢
  rw [createJob_engine_queued, createJob_engine_inService, List.any_append]
  simp only [Bool.or_eq_true] at h ⊢
  exact h.imp .inl id

theorem GrantDue.createJob {s : State} {i : JobItem} (due : GrantDue s) (fits : queuedFits s i)
    (free : ∀ k ∈ wantedJobs s.engine, k.place ≠ i.place) : GrantDue (createJob i s) where
  intake := (SameIntake.of_eq (createJob_keyring i s)).intakeOk (createJob_powered i s) due.intake
  work := due.work.createJob fits free
  asked waiting := intakeJobExists_createJob i s (due.asked waiting)

/-- A wanted job fits its owner's state, queued or in service. -/
theorem WorkFits.fits {s : State} (work : WorkFits s) {i : JobItem} (wanted : i ∈ wantedJobs s.engine) :
    queuedFits s i ∨ serviceFits s i := by
  rw [wantedJobs_eq, List.mem_append] at wanted
  exact wanted.imp (work.queued i) (work.served i)

/-- A lane that is not CLOSED has no job at a slot that is EMPTY. -/
theorem WorkFits.slot_free {s : State} (work : WorkFits s) {l : LaneNo} {sc : Screening} {n : SlotName}
    (held : s.lanes[l] = some sc) (empty : sc.slot n = .empty) {k : JobItem} (wanted : k ∈ wantedJobs s.engine) :
    k.place ≠ .reelSlot l n := by
  cases k with
  | intake | bind => exact fun same => by cases same
  | rewrap m c p u =>
    rintro ⟨⟩
    obtain ⟨a, ha, -, holds⟩ | ⟨a, ha, -, holds⟩ := work.fits wanted
    all_goals
      obtain rfl : sc = a := Option.some.inj (held.symm.trans ha)
      rw [empty] at holds
      cases holds

/-- An EMPTY slot of a RUNNING lane is filled (R120). -/
theorem GrantDue.fillSlot {s : State} (due : GrantDue s) {l : LaneNo} {sc : Screening} {n : SlotName}
    (held : s.lanes[l] = some sc) (running : sc.status = .running) (empty : sc.slot n = .empty) (p : Position)
    (neededBy : Nat) : GrantDue (fillSlot l n p neededBy s) := by
  have placed : modifyLane l (fun sc => sc.withSlot n (.holds p neededBy .queued)) s =
      setLane l (some (sc.withSlot n (.holds p neededBy .queued))) s := by
    unfold modifyLane
    rw [held]
  have here : (s.lanes.set l (some (sc.withSlot n (.holds p neededBy .queued))))[l] =
      some (sc.withSlot n (.holds p neededBy .queued)) := lanes_set_same ..
  have calm : Calm s (setLane l (some (sc.withSlot n (.holds p neededBy .queued))) s) := by
    refine .replaced held (Screening.withSlot_status ..) fun c _ _ _ job => ?_
    refine Screening.slot_withSlot_other _ ?_ _
    rintro rfl
    simp [empty, ReelSlot.hasJob] at job
  unfold Machine.fillSlot
  rw [placed]
  refine (calm.grantDue due).createJob ?_ fun k wanted => due.work.slot_free held empty wanted
  exact ⟨_, here, (Screening.withSlot_status ..).trans running, Screening.slot_withSlot ..⟩

/-! ### The intake requester (R47) -/

/-- While no intake job exists, none is wanted. -/
theorem intake_free {e : Engine} (none : intakeJobExists e = false) {k : JobItem} (wanted : k ∈ wantedJobs e) :
    k.place ≠ .intake := by
  cases k with
  | rewrap | bind => exact fun same => by cases same
  | intake i reel =>
    exfalso
    rw [intakeJobExists, Bool.or_eq_false_iff] at none
    rw [wantedJobs_eq, List.mem_append] at wanted
    obtain queued | served := wanted
    · obtain ⟨j, hj, item⟩ := List.mem_map.1 queued
      exact List.any_eq_false.1 none.1 j hj (by rw [item]; rfl)
    · obtain ⟨j, hj, -, item⟩ := mem_servedItems.1 served
      rw [Option.mem_def] at hj
      simp [hj, item, JobItem.isIntake] at none

/-- The intake requester leaves an intake job for a queue that is not empty. -/
theorem GrantDue.presentIntake {s : State} (intake : IntakeOk s) (work : WorkFits s) : GrantDue (presentIntake s) := by
  have kept : IntakeOk (Machine.presentIntake s) :=
    (SameIntake.of_eq (presentIntake_keyring s)).intakeOk (presentIntake_powered s) intake
  refine { intake := kept, work := ?_, asked := ?_ }
  · unfold Machine.presentIntake
    split
    · exact work
    · split
      · exact work
      · split
        · exact work
        next none => exact work.createJob trivial fun k wanted => intake_free (by simpa using none) wanted
  · rw [presentIntake_keyring]
    intro waiting
    unfold Machine.presentIntake
    split
    next empty => exact absurd empty waiting
    next i rest queue =>
      obtain ⟨-, -, members, off⟩ := intake
      have on : s.powered = true := by
        cases power : s.powered with
        | true => rfl
        | false => exact absurd (off power) waiting
      obtain ⟨b, held, -⟩ := (members on i).1 (by rw [queue]; exact List.mem_cons_self ..)
      rw [Option.mem_def] at held
      rw [held]
      dsimp only
      split
      next exists_ => exact exists_
      · simp [intakeJobExists, JobItem.isIntake]

end Sys2Proof.Machine

/-! ## Every event keeps the jobs with their owners (O14) -/

namespace Sys2Proof.Machine

/-! ### Calm changes to screens and jobs -/

/-- Dropping jobs leaves what the others await. -/
theorem fits_dropJobs (p : JobItem → Bool) (s : State) (i : JobItem) :
    (queuedFits s i → queuedFits (dropJobs p s) i) ∧ (serviceFits s i → serviceFits (dropJobs p s) i) := by
  cases i with
  | intake => exact ⟨id, id⟩
  | rewrap | bind =>
    simp only [queuedFits, serviceFits, dropJobs_lanes, dropJobs_screens]
    exact ⟨id, id⟩

namespace Calm

theorem dropJobs {p : JobItem → Bool} (others : ∀ i : JobItem, i.isIntake = true → p i = false) (s : State) :
    Calm s (dropJobs p s) where
  powered := by simp
  intake := .of_eq (by simp)
  drops := .of_dropJobs rfl fun i _ => fits_dropJobs p s i
  asked := intakeJobExists_dropJobs others s

theorem snapshot (s : State) : Calm s { s with engine := s.engine.withSnapshot } := by
  have queued : queuedItems s.engine.withSnapshot = queuedItems s.engine := by
    simp [queuedItems, Engine.withSnapshot]
  have served : servedItems s.engine.withSnapshot = servedItems s.engine := by
    unfold servedItems Engine.withSnapshot
    cases s.engine.inService <;> rfl
  refine
    { powered := rfl, intake := .of_eq rfl
      drops :=
        { queued := by rw [queued], served := by rw [served], idle := fun none => ?_
          queuedFits := fun i _ fits => by cases i <;> exact fits
          serviceFits := fun i _ fits => by cases i <;> exact fits }
      asked := fun exists_ => ?_ }
  · simpa [Engine.withSnapshot] using none
  · unfold intakeJobExists at exists_ ⊢
    rw [Bool.or_eq_true] at exists_ ⊢
    refine exists_.imp (fun queued => ?_) fun served => ?_
    · simpa [Engine.withSnapshot] using queued
    · simpa [Engine.withSnapshot, Option.any_map] using served

theorem screens_set_get (s : State) (l m : LaneNo) (e : Screen) :
    (s.screens.set l e)[m] = if l = m then e else s.screens[m] := by
  split
  next same =>
    subst same
    simp
  next apart =>
    have other : l.val ≠ m.val := fun same => apart (Fin.ext same)
    exact Vector.getElem_set_ne _ _ other

/-- A screen entry replaced by one that is BINDING where a wanted job awaits that. -/
theorem setScreen {l : LaneNo} {s : State} {e : Screen}
    (kept : .bind l ∈ wantedJobs s.engine → e.binding.isBinding = (s.screens[l]).binding.isBinding) :
    Calm s (setScreen l e s) := by
  have bind (m : LaneNo) (wanted : .bind m ∈ wantedJobs s.engine) (fits : (s.screens[m]).binding.isBinding = true) :
      ((s.screens.set l e)[m]).binding.isBinding = true := by
    rw [screens_set_get]
    split
    next same =>
      subst same
      rw [kept wanted, fits]
    · exact fits
  refine
    { powered := rfl, intake := .of_eq rfl, asked := id
      drops :=
        { queued := .refl _, served := .refl _, idle := id, queuedFits := fun i hi fits => ?_
          serviceFits := fun i hi fits => ?_ } }
  · cases i with
    | intake | rewrap => exact fits
    | bind m => exact ⟨fits.1, bind m (List.mem_append_left _ hi) fits.2⟩
  · cases i with
    | intake | rewrap => exact fits
    | bind m => exact ⟨fits.1, bind m (List.mem_append_right _ hi) fits.2⟩

end Calm

/-- No job that the owner no longer wants is left. -/
theorem not_wanted_dropJobs {p : JobItem → Bool} {i : JobItem} (named : p i = true) (s : State) :
    i ∉ wantedJobs (dropJobs p s).engine := by
  rw [wantedJobs_eq, queuedItems_dropJobs, servedItems_dropJobs, ← List.filter_append, List.mem_filter, named]
  simp

theorem isBindOf_self (l : LaneNo) : (JobItem.bind l).isBindOf l = true := by simp [JobItem.isBindOf]

namespace Orderly

/-! ### Binds and opens -/

/-- A binding begins on a CLOSED lane (R103). -/
theorem bound {s : State} (ok : Orderly s) {l : LaneNo} (closed : s.lanes[l] = none) (unitId : Ident)
    (wrapped : WrappedLinkKey) (bias : Nat) :
    Orderly
      (grant
        (createJob (.bind l)
          (setScreen l { binding := .binding unitId wrapped, bias } (dropJobs (JobItem.isBindOf l) s)))) := by
  have gone := not_wanted_dropJobs (isBindOf_self l) s
  have entered :=
    (Calm.dropJobs isIntake_not_bindOf s).trans
      (Calm.setScreen (l := l) (e := { binding := .binding unitId wrapped, bias }) fun wanted => absurd wanted gone)
  have fits : queuedFits (setScreen l { binding := .binding unitId wrapped, bias } (dropJobs (JobItem.isBindOf l) s))
      (.bind l) := by
    refine ⟨?_, ?_⟩
    · rw [setScreen_lanes, dropJobs_lanes, closed]
    · rw [setScreen_screens, Calm.screens_set_get, if_pos rfl]
      rfl
  refine ((entered.grantDue ok.toGrantDue).createJob fits fun k wanted same => ?_).grant
  · cases k with
    | intake | rewrap => cases same
    | bind m =>
      obtain rfl : m = l := by
        cases same
        rfl
      exact gone wanted

theorem unbound {s : State} (ok : Orderly s) (l : LaneNo) :
    Orderly (setScreen l { s.screens[l] with binding := .unbound } (dropJobs (JobItem.isBindOf l) s)) := by
  have gone := not_wanted_dropJobs (isBindOf_self l) s
  exact ((Calm.dropJobs isIntake_not_bindOf s).trans (.setScreen fun wanted => absurd wanted gone)).orderly ok

theorem fillSlot_get (l : LaneNo) (n : SlotName) (p : Position) (neededBy : Nat) (s : State) :
    (fillSlot l n p neededBy s).lanes[l] =
      (s.lanes[l]).map fun sc => sc.withSlot n (.holds p neededBy .queued) := by
  rw [fillSlot, createJob_lanes, modifyLane_get, if_pos rfl]

/-- A screening begins on a CLOSED lane, its two slots filled (R108, R109). -/
theorem opened {s : State} (ok : Orderly s) {q : OpenRequest} (closed : s.lanes[q.lane] = none)
    (screen : (s.screens[q.lane]).binding.isBinding = false) (i : SlotNo) (b : Bundle) : Orderly (openOn q i b s) := by
  have used : Calm s (takeUse i s) := .of_intake (SameIntake.takeUse i s)
  have free : AwaitsNone q.lane (takeUse i s) :=
    awaitsNone_of_closed (by rw [takeUse_lanes, closed]) (by rw [takeUse_screens, screen])
  have begun := (used.trans (.setLane free (some (newScreening q i b s)))).grantDue ok.toGrantDue
  have here : (setLane q.lane (some (newScreening q i b s)) (takeUse i s)).lanes[q.lane] =
      some (newScreening q i b s) := lanes_set_same ..
  unfold openOn
  generalize setLane q.lane (some (newScreening q i b s)) (takeUse i s) = t at begun here
  refine GrantDue.grant ?_
  unfold fillAtOpen
  dsimp only
  have first := begun.fillSlot (n := .x) here rfl rfl { cycle := 1, reel := q.firstReel } t.clock.now
  split
  · let slotX : ReelSlot := .holds { cycle := 1, reel := q.firstReel } t.clock.now .queued
    refine first.fillSlot (n := .y) ?_ (sc := (newScreening q i b s).withSlot .x slotX) rfl rfl _ _
    rw [fillSlot_get, here]
    rfl
  · exact first

end Orderly

/-! ### Begins (R129, R139) -/

/-- A lane is RUNNING. -/
def RunningAt (l : LaneNo) (s : State) : Prop := ∃ sc, s.lanes[l] = some sc ∧ sc.status = .running

/-- What stands between a begin and its grant. -/
structure Beginning (l : LaneNo) (s : State) : Prop where
  due : GrantDue s
  running : RunningAt l s

namespace Beginning

variable {l : LaneNo} {s : State} (h : Beginning l s)
include h

theorem emptySlot (n : SlotName) : Beginning l (emptySlot l n s) where
  due := (Calm.emptySlot l n s).grantDue h.due
  running := by
    obtain ⟨sc, held, running⟩ := h.running
    exact ⟨sc.withSlot n .empty, by rw [emptySlot_get, held]; rfl, (Screening.withSlot_status ..).trans running⟩

theorem emptyStale (n : SlotName) (next : Option Position) : Beginning l (emptyStale l n next s) := by
  unfold Machine.emptyStale
  split
  · exact h
  · split
    · split
      · exact h.emptySlot n
      · exact h
    · exact h

theorem fillEmpty (next : Option Position) (neededBy : Nat) : Beginning l (fillEmpty l next neededBy s).1 := by
  obtain ⟨sc, held, running⟩ := h.running
  unfold Machine.fillEmpty
  rw [held]
  cases next with
  | none => exact h
  | some p =>
    dsimp only
    split
    · exact h
    · split
      next n free =>
        have empty : sc.slot n = .empty := by
          unfold Screening.emptySlotName at free
          split at free
          next x =>
            cases free
            exact x
          · split at free
            next y =>
              cases free
              exact y
            · cases free
        refine ⟨h.due.fillSlot held running empty p neededBy, sc.withSlot n (.holds p neededBy .queued), ?_, ?_⟩
        · rw [Orderly.fillSlot_get, held]
          rfl
        · exact (Screening.withSlot_status ..).trans running
      · exact h

theorem alignSlots (first : Bool) (next : Option Position) : Beginning l (alignSlots l first next s) := by
  have cleared := (h.emptyStale .x next).emptyStale .y next
  unfold Machine.alignSlots
  dsimp only
  split
  · exact cleared.fillEmpty ..
  · exact cleared

theorem refillAfter (first : Bool) (holder : SlotName) (next : Option Position) (neededBy : Nat) :
    Beginning l (refillAfter l first holder next neededBy s).1 := by
  unfold Machine.refillAfter
  split
  · exact h.fillEmpty ..
  · exact (h.emptySlot _).fillEmpty ..

end Beginning

theorem Orderly.answered {s : State} (ok : Orderly s) (r : Request) (status : Status) (body : List Byte) :
    Orderly (answer r status body s) := (Calm.of_work {}).orderly ok

theorem Orderly.begun {s : State} (ok : Orderly s) {q : BeginRequest} {sc : Screening} (n : Nat) (p : Position)
    (holder : SlotName) (r : Request) (held : s.lanes[q.lane] = some sc) (running : sc.status = .running) :
    Orderly (acceptBegin q sc n p holder r s) := by
  have moved (new : Screening) (status : new.status = sc.status) (x : new.slotX = sc.slotX) (y : new.slotY = sc.slotY) :
      Beginning q.lane (setLane q.lane (some new) s) :=
    { due := (Calm.recorded held (.of_eq status x y)).grantDue ok.toGrantDue
      running := ⟨new, lanes_set_same .., status.trans running⟩ }
  unfold acceptBegin
  dsimp only
  split
  · exact ((moved { sc with current := p } rfl rfl rfl).refillAfter ..).due.grant.answered ..
  next a _ =>
    have applied := moved (({ sc with current := p } : Screening).amended a s.keyring s.params.lateAllowance
      s.params.closingLead s.clock.now) rfl rfl rfl
    split
    · refine Orderly.answered ((Calm.endLane ..).orderly ((Calm.recorded held ?_).orderly ok)) ..
      exact .of_eq rfl rfl rfl
    · exact ((applied.alignSlots ..).refillAfter ..).due.grant.answered ..

/-! ### Bundles leaving intake -/

/-- A bundle leaves the queue and UNWRAPPING together. -/
theorem IntakeOk.left {s t : State} {i : SlotNo} (ok : IntakeOk s) (powered : t.powered = s.powered)
    (queue : t.keyring.intakeQueue = s.keyring.intakeQueue.filter fun j => j != i)
    (members : ∀ j : SlotNo, InIntake t.keyring j ↔ InIntake s.keyring j ∧ j ≠ i) : IntakeOk t := by
  obtain ⟨nodup, room, all, off⟩ := ok
  refine ⟨?_, ?_, fun on j => ?_, fun gone => ?_⟩
  · rw [queue]
    exact nodup.filter _
  · rw [queue]
    exact (List.length_filter_le ..).trans room
  · rw [queue, List.mem_filter, bne_iff_ne]
    exact (and_congr_left fun _ => all (powered ▸ on) j).trans (members j).symm
  · rw [queue, off (powered ▸ gone)]
    rfl

/-- The record of a slot replaced by one that is not in UNWRAPPING. -/
theorem inIntake_set {k m : Keyring} {i : SlotNo} {a : Bundle} (slots : m.slots = k.slots.set i (some a))
    (out : a.state ≠ .unwrapping) (j : SlotNo) : InIntake m j ↔ InIntake k j ∧ j ≠ i := by
  unfold InIntake
  rw [slots]
  by_cases same : i = j
  · subst same
    simp [out]
  · rw [slots_set_other k same]
    simp [Ne.symm same]

/-- With a bundle in intake the engine is at work. -/
theorem Orderly.busy {s : State} (ok : Orderly s) (waiting : s.keyring.intakeQueue ≠ []) : s.engine.inService ≠ none := by
  intro idle
  have exists_ := ok.asked waiting
  simp [intakeJobExists, idle, ok.granted idle] at exists_

theorem presentIntake_inService (s : State) : (presentIntake s).engine.inService = s.engine.inService := by
  unfold presentIntake
  split
  · rfl
  · split
    · rfl
    · split
      · rfl
      · exact createJob_engine_inService ..

/-- A bundle in intake is abandoned (R77). -/
theorem Orderly.abandoned {s : State} (ok : Orderly s) (on : s.powered = true) {i : SlotNo} {b : Bundle}
    (held : s.keyring.slots[i] = some b) (unwrapping : b.state = .unwrapping) : Orderly (abandonIntake i b s) := by
  have waiting : s.keyring.intakeQueue ≠ [] := by
    obtain ⟨-, -, members, -⟩ := ok.intake
    exact List.ne_nil_of_mem ((members on i).2 ⟨b, held, unwrapping⟩)
  have out : IntakeOk (dropJobs (JobItem.isIntakeOf i) (leaveQueue i (strikeUnused i b s))) := by
    refine ok.intake.left (i := i) (by rw [dropJobs_powered]; rfl) (by rw [dropJobs_keyring]; rfl) fun j => ?_
    rw [dropJobs_keyring]
    exact inIntake_set (a := { b with poolRefs := [], wrappedKeys := [] }.enter .revoked s.clock.now) rfl
      (by simp [Bundle.enter]) j
  have struck : Drops s (leaveQueue i (strikeUnused i b s)) := .of_eq rfl rfl rfl
  have dropped : Drops s (dropJobs (JobItem.isIntakeOf i) (leaveQueue i (strikeUnused i b s))) :=
    struck.trans (.of_dropJobs rfl fun k _ => fits_dropJobs _ _ k)
  refine { toGrantDue := .presentIntake out (dropped.workFits ok.work), granted := fun idle => ?_ }
  refine absurd (dropped.idle ?_) (ok.busy waiting)
  rw [abandonIntake, presentIntake_inService] at idle
  exact idle

theorem Orderly.struck {s : State} (ok : Orderly s) (on : s.powered = true) (o : Order) (i : SlotNo) :
    Orderly (strikeSlot o i s).1 := by
  unfold strikeSlot
  split
  · exact ok
  next b held =>
    have revoked (a : Bundle) (before : b.state ≠ .unwrapping) (after : a.state ≠ .unwrapping) :
        Calm s (setBundle i (some a) s) :=
      .of_intake (.revised held rfl rfl (by simp [before, after]))
    split
    · exact ok
    · split
      next st => exact ok.abandoned on held st
      iterate 3
        next st =>
          split
          · have out : SameIntake s (strikeUnused i b s) :=
              .revised held (a := { b with poolRefs := [], wrappedKeys := [] }.enter .revoked s.clock.now) rfl rfl
                (by simp [Bundle.enter, st])
            exact (Calm.of_intake out rfl rfl rfl rfl).orderly ok
          · dsimp only
            split
            · refine ((revoked _ (by simp [st]) ?_).trans (.stopLanes i _)).orderly ok
              simp [Bundle.enter]
            · refine (revoked _ (by simp [st]) ?_).orderly ok
              simp [Bundle.enter]
      next st =>
        split
        · refine ((revoked _ (by simp [st]) ?_).trans (.stopLanes i _)).orderly ok
          simp [st]
        · exact ok
      · exact ok
      · exact ok

theorem Orderly.ordered {s : State} (ok : Orderly s) (on : s.powered = true) (o : Order) : Orderly (applyOrder o s).1 := by
  rw [applyOrder_fst]
  have kept :=
    frame_of_foldl (fun t i => (strikeSlot o i t).1)
      (fun s t => s.powered = true ∧ Orderly s → t.powered = true ∧ Orderly t) (fun _ => id)
      (fun _ _ _ first second both => second (first both))
      (fun t i both => ⟨by rw [strikeSlot_frame]; exact both.1, both.2.struck both.1 o i⟩) (List.finRange 64) s
  exact (kept ⟨on, ok⟩).2

end Sys2Proof.Machine

/-! ## Completions, deliveries and starts keep the jobs with their owners (O14) -/

namespace Sys2Proof.Machine

/-! ### The job leaves service (R92) -/

theorem wantedJobs_offService (s : State) : wantedJobs s.offService.engine = queuedItems s.engine :=
  List.append_nil _

theorem WorkFits.offService {s : State} (work : WorkFits s) (tag : Option Byte) :
    WorkFits (s.offService.withSync tag) where
  distinct := by
    have queued : (queuedItems s.engine).Sublist (wantedJobs s.engine) := List.sublist_append_left ..
    have kept := work.distinct.sublist (queued.map _)
    rw [← wantedJobs_offService s] at kept
    exact kept
  queued i hi := by
    have before := work.queued i hi
    cases i <;> exact before
  served i hi := by
    obtain ⟨j, hj, -⟩ := mem_servedItems.1 hi
    cases hj

/-- No queued job is at the place of the job in service whose result is wanted. -/
theorem WorkFits.served_once {s : State} (work : WorkFits s) {j : ServiceJob} (service : s.engine.inService = some j)
    (wanted : j.discard = false) {k : JobItem} (queued : k ∈ queuedItems s.engine) : k.place ≠ j.job.item.place := by
  intro same
  have distinct := work.distinct
  rw [wantedJobs_eq, List.map_append] at distinct
  have served : j.job.item ∈ servedItems s.engine := mem_servedItems.2 ⟨j, service, wanted, rfl⟩
  exact List.disjoint_of_nodup_append distinct (List.mem_map_of_mem queued) (same ▸ List.mem_map_of_mem served)

/-- A pending SYNC set, and released where it is due. -/
theorem Calm.released (tag : Option Byte) (s : State) : Calm s (releaseSync (s.withSync tag)) :=
  .of_work { powered := by simp [State.withSync], keyring := by simp [State.withSync], engine := by simp [State.withSync],
             screens := by simp [State.withSync], lanes := by simp [State.withSync] }

/-- While the job in service is not the intake's, an intake job that exists is queued. -/
theorem GrantDue.offService {s : State} (ok : Orderly s) {j : ServiceJob} (service : s.engine.inService = some j)
    (other : j.job.item.isIntake = false) (tag : Option Byte) : GrantDue (s.offService.withSync tag) where
  intake := ok.intake
  work := ok.work.offService tag
  asked waiting := by
    have exists_ := ok.asked waiting
    rw [intakeJobExists, service, Option.any_some, other, Bool.or_false] at exists_
    rw [intakeJobExists, Bool.or_eq_true]
    exact .inl exists_

/-- A completion leaves things orderly when the grant at its end is due. -/
theorem Orderly.completed {s : State} (ok : Orderly s) {ofKind : JobItem → Bool} {deliver : ServiceJob → State → State}
    {present : State → State}
    (finished : ∀ j, s.engine.inService = some j → s.powered = true → ofKind j.job.item = true →
      GrantDue (present (finishJob deliver j s))) : Orderly (completeJob ofKind deliver present s) := by
  unfold completeJob
  split
  next j service =>
    split
    next goes =>
      obtain ⟨on, kind⟩ := Bool.and_eq_true_iff.1 goes
      exact (finished j service on kind).grant
    · exact ok
  · exact ok

/-! ### Intakes (R48, R49) -/

/-- A state whose queue and jobs stand as they do between two events, but that an intake job may be missing. -/
def IntakeAside (s : State) : Prop := IntakeOk s ∧ WorkFits s

theorem Calm.intakeAside {s t : State} (h : Calm s t) (aside : IntakeAside s) : IntakeAside t :=
  ⟨h.intake.intakeOk h.powered aside.1, h.drops.workFits aside.2⟩

/-- A record judged into a state of its window leaves UNWRAPPING; the queue stays as it is. -/
theorem enterWindow_leaves (i : SlotNo) (b : Bundle) {st : BundleState} (out : st ≠ .unwrapping) (s : State) :
    (enterWindow i b st s).keyring.intakeQueue = s.keyring.intakeQueue ∧
      ∃ a : Bundle, a.state ≠ .unwrapping ∧
        (enterWindow i b st s).keyring.slots = s.keyring.slots.set i (some a) := by
  unfold enterWindow
  rw [postEntry_frame]
  cases st with
  | unwrapping => exact absurd rfl out
  | expired =>
    exact ⟨rfl, { b with poolRefs := [], wrappedKeys := [] }.enter .expired s.clock.now, by simp [Bundle.enter], rfl⟩
  | waiting | live | closing | revoked | failed =>
    exact ⟨rfl, b.enter _ s.clock.now, by simp [Bundle.enter], rfl⟩

theorem IntakeAside.endIntake {s : State} (aside : IntakeAside s) (i : SlotNo) (b : Bundle) :
    IntakeAside (endIntake i b s) := by
  obtain ⟨intake, work⟩ := aside
  refine ⟨?_, Drops.workFits (.of_eq ?_ ?_ ?_) work⟩
  · obtain ⟨queue, a, out, slots⟩ := enterWindow_leaves i { b with wrappedKeys := [] }
      (windowCase_ne_unwrapping s.clock.now s.margin.margin { b with wrappedKeys := [] })
      (post (.bundleReady i) (leaveQueue i s))
    have taken : (Machine.endIntake i b s).keyring.slots = s.keyring.slots.set i (some a) := by
      rw [Machine.endIntake, slots]
      simp
    refine intake.left (i := i) ?_ ?_ (inIntake_set taken out)
    · simp [Machine.endIntake]
    · rw [Machine.endIntake, queue]
      simp
  · simp [Machine.endIntake]
  · simp [Machine.endIntake]
  · simp [Machine.endIntake]

theorem IntakeAside.failReel {s : State} (aside : IntakeAside s) (i : SlotNo) (b : Bundle) :
    IntakeAside (failReel i b s) := by
  obtain ⟨intake, work⟩ := aside
  refine ⟨(Calm.post ..).intake.intakeOk (post_powered ..) ?_, Drops.workFits (.of_eq ?_ ?_ ?_) work⟩
  · exact intake.left (i := i) rfl rfl
      (inIntake_set (a := { b with poolRefs := [], wrappedKeys := [] }.enter .failed s.clock.now) rfl
        (by simp [Bundle.enter]))
  · simp [Machine.failReel]
  · simp [Machine.failReel]
  · simp [Machine.failReel]

theorem IntakeAside.passReel {s : State} (aside : IntakeAside s) {i : SlotNo} {b : Bundle}
    (held : s.keyring.slots[i] = some b) (key : KeyMaterial) : IntakeAside (passReel i b key s) := by
  have grown : Calm s (setBundle i (some b.grown) (s.withPool (b.fillReel key s.keyring.pool))) :=
    .of_intake (.revised held rfl rfl .rfl) rfl rfl rfl rfl
  rw [passReel_eq]
  split
  · exact grown.intakeAside aside
  · exact (grown.intakeAside aside).endIntake i _

theorem IntakeAside.deliverIntake {s : State} (aside : IntakeAside s) (outcome : Option KeyMaterial) (j : ServiceJob) :
    IntakeAside (deliverIntake outcome j s) := by
  unfold Machine.deliverIntake
  split
  next i reel _ =>
    split
    · exact aside
    next b held =>
      split
      · cases outcome with
        | some key => exact aside.passReel held key
        | none => exact aside.failReel i b
      · exact aside
  · exact aside

theorem Orderly.unwrapped {s : State} (ok : Orderly s) (outcome : Option KeyMaterial) :
    Orderly (completeJob JobItem.isIntake (deliverIntake outcome) presentIntake s) := by
  refine ok.completed fun j service on kind => ?_
  have off : IntakeAside (s.offService.withSync none) := ⟨ok.intake, ok.work.offService none⟩
  have taken : IntakeAside (if j.discard then s.offService.withSync none
      else deliverIntake outcome j (s.offService.withSync none)) := by
    split
    · exact off
    · exact off.deliverIntake outcome j
  obtain ⟨intake, work⟩ := (Calm.released s.link.pendingSync _).intakeAside taken
  rw [finishJob_eq]
  exact .presentIntake intake work

/-! ### Re-wraps (R122) and binds (R104) -/

theorem Calm.deliverRewrap {s : State} (work : WorkFits s) (idle : s.engine.inService = none)
    (outcome : Option WrappedReelKey) (j : ServiceJob) : Calm s (deliverRewrap outcome j s) := by
  unfold Machine.deliverRewrap
  split
  next l n p neededBy _ =>
    split
    · exact refl s
    next sc held =>
      split
      next q u holds =>
        cases outcome with
        | none => exact endLane ..
        | some key =>
          refine (replaced held (Screening.withSlot_status ..) fun m p' u' wanted _ => ?_).trans (post ..)
          refine Screening.slot_withSlot_other _ ?_ _
          rintro rfl
          have served : servedItems s.engine = [] := by rw [servedItems, idle]
          rw [wantedJobs_eq, served, List.append_nil] at wanted
          obtain ⟨a, ha, -, queued⟩ := work.queued _ wanted
          obtain rfl : sc = a := Option.some.inj (held.symm.trans ha)
          rw [holds] at queued
          cases queued
      · exact refl s
  · exact refl s

theorem Orderly.rewrapped {s : State} (ok : Orderly s) (outcome : Option WrappedReelKey) :
    Orderly (completeJob JobItem.isRewrap (deliverRewrap outcome) id s) := by
  refine ok.completed fun j service on kind => ?_
  have other : j.job.item.isIntake = false := by
    cases item : j.job.item <;> simp_all [JobItem.isIntake, JobItem.isRewrap]
  have off := GrantDue.offService ok service other none
  have taken : Calm (s.offService.withSync none) (if j.discard then s.offService.withSync none
      else deliverRewrap outcome j (s.offService.withSync none)) := by
    split
    · exact .refl _
    · exact .deliverRewrap off.work rfl outcome j
  rw [finishJob_eq]
  exact (taken.trans (.released s.link.pendingSync _)).grantDue off

theorem Calm.deliverBind {s : State} (outcome : Option KeyMaterial) {j : ServiceJob}
    (once : ∀ k ∈ wantedJobs s.engine, k.place ≠ j.job.item.place) : Calm s (deliverBind outcome j s) := by
  unfold Machine.deliverBind
  split
  next l item =>
    have free : .bind l ∉ wantedJobs s.engine := fun wanted => once _ wanted (by rw [item])
    split
    · exact .setScreen fun wanted => absurd wanted free
    · exact (setScreen fun wanted => absurd wanted free).trans (post ..)
    · exact refl s
  · exact refl s

theorem Orderly.screenBound {s : State} (ok : Orderly s) (outcome : Option KeyMaterial) :
    Orderly (completeJob JobItem.isBind (deliverBind outcome) id s) := by
  refine ok.completed fun j service on kind => ?_
  have other : j.job.item.isIntake = false := by
    cases item : j.job.item <;> simp_all [JobItem.isIntake, JobItem.isBind]
  have off := GrantDue.offService ok service other none
  have taken : Calm (s.offService.withSync none) (if j.discard then s.offService.withSync none
      else deliverBind outcome j (s.offService.withSync none)) := by
    split
    · exact .refl _
    next wanted =>
      refine .deliverBind outcome fun k hk => ?_
      have queued : k ∈ queuedItems s.engine := wantedJobs_offService s ▸ hk
      exact ok.work.served_once service (by simpa using wanted) queued
  rw [finishJob_eq]
  exact (taken.trans (.released s.link.pendingSync _)).grantDue off

/-! ### Deliveries and deletions (R46, R53) -/

/-- The state with a delivered bundle placed, before its first reel is presented (R46). -/
def deliveryPlaced (d : Delivery) (i : SlotNo) (s : State) : State :=
  { s with
    keyring :=
      { s.keyring with
        slots := s.keyring.slots.set i (some (newRecord d ((freeNumbers s.keyring.pool).take d.reelCount) s.clock.now))
        pool := reserveCells ((freeNumbers s.keyring.pool).take d.reelCount) s.keyring.pool
        intakeQueue := s.keyring.intakeQueue ++ [i] } }

theorem acceptDelivery_eq (d : Delivery) (i : SlotNo) (s : State) :
    acceptDelivery d i s = grant (presentIntake (deliveryPlaced d i s)) := rfl

/-- A bundle delivered into a slot that is empty or a tombstone's joins the queue and UNWRAPPING together. -/
theorem IntakeOk.placed {s : State} (ok : IntakeOk s) (on : s.powered = true) {d : Delivery} {i : SlotNo}
    (fits : DeliveryFits s.keyring d i) : IntakeOk (deliveryPlaced d i s) := by
  obtain ⟨nodup, room, members, -⟩ := ok
  have free : ¬InIntake s.keyring i := by
    rintro ⟨b, hb, unwrapping⟩
    rw [Option.mem_def] at hb
    obtain none | ⟨a, ha, tombstone⟩ := fits.place
    · rw [hb] at none
      cases none
    · obtain rfl : b = a := Option.some.inj (hb.symm.trans ha)
      simp [Bundle.isTombstone, Bundle.holdsKeys, unwrapping] at tombstone
  have out : i ∉ s.keyring.intakeQueue := fun waiting => free ((members on i).1 waiting)
  refine ⟨?_, ?_, fun _ j => ?_, fun off => ?_⟩
  · exact List.nodup_append.2 ⟨nodup, by simp, fun a ha b hb => by
      obtain rfl : b = i := by simpa using hb
      rintro rfl
      exact out ha⟩
  · have short := fits.queue
    simp only [deliveryPlaced, List.length_append, List.length_singleton]
    omega
  · simp only [deliveryPlaced, List.mem_append, List.mem_singleton]
    by_cases same : i = j
    · subst same
      simp [newRecord]
    · rw [slots_set_other s.keyring same, members on j]
      simp [Ne.symm same]
  · cases on.symm.trans off

theorem Orderly.delivered {s : State} (ok : Orderly s) (on : s.powered = true) {d : Delivery} {i : SlotNo}
    (fits : DeliveryFits s.keyring d i) : Orderly (acceptDelivery d i s) := by
  rw [acceptDelivery_eq]
  have kept : Drops s (deliveryPlaced d i s) := .of_eq rfl rfl rfl
  exact (GrantDue.presentIntake (ok.intake.placed on fits) (kept.workFits ok.work)).grant

theorem Calm.deleted {s : State} {i : SlotNo} {b : Bundle} (held : s.keyring.slots[i] = some b)
    (out : b.state ≠ .unwrapping) :
    Calm s
      (setBundle i none { s with keyring := { s.keyring with pool := freeCells b.poolRefs s.keyring.pool } }) := by
  refine of_intake { queue := rfl, members := fun j => ?_ } rfl rfl rfl rfl
  unfold InIntake
  rw [setBundle_keyring_slots]
  by_cases same : i = j
  · subst same
    simp [held, out]
  · rw [slots_set_other s.keyring same]

/-! ### Starts and losses -/

/-- With no job wanted and no bundle in intake all is orderly. -/
theorem Orderly.of_quiet {s : State} (queued : queuedItems s.engine = []) (served : servedItems s.engine = [])
    (queue : s.keyring.intakeQueue = []) (out : s.powered = true → ∀ i, ¬InIntake s.keyring i) : Orderly s where
  intake := by
    refine ⟨by simp [queue], by simp [queue], fun on i => ?_, fun _ => queue⟩
    rw [queue]
    exact iff_of_false List.not_mem_nil (out on i)
  work := by
    refine { distinct := ?_, queued := fun i hi => ?_, served := fun i hi => ?_ }
    · rw [wantedJobs_eq, queued, served]
      exact List.nodup_nil
    · rw [queued] at hi
      cases hi
    · rw [served] at hi
      cases hi
  asked waiting := absurd queue waiting
  granted _ := List.map_eq_nil_iff.1 queued

/-- Without main power no job is left and no bundle waits (R172). -/
theorem Orderly.unpowered (s : State) : Orderly (withoutPower s) :=
  .of_quiet rfl rfl rfl fun on => by cases on

theorem Orderly.restarted (s : State) :
    Orderly
      (resetKeyring
        { s with
          link := s.link.restarted, engine := s.engine.restarted, lanes := lanesClosed
          screens := screensAfterStart s.screens }) := by
  refine .of_quiet ?_ ?_ rfl fun _ i => resetKeyring_intake _ i
  · rw [resetKeyring_engine]
    rfl
  · rw [resetKeyring_engine]
    unfold servedItems Engine.restarted
    cases s.engine.inService <;> rfl

theorem Orderly.of_quiet_powered {s : State} (queued : queuedItems s.engine = []) (served : servedItems s.engine = [])
    (queue : s.keyring.intakeQueue = []) (out : ∀ i, ¬InIntake s.keyring i) : Orderly { s with powered := true } :=
  .of_quiet queued served queue fun _ => out

theorem Orderly.started (s : State) : Orderly { beginOperation (startValid s) with powered := true } := by
  have calm := Calm.beginOperation (startValid s)
  have engine : (startValid s).engine = .idle := resetKeyring_engine _
  have queued := calm.drops.queued
  have served := calm.drops.served
  rw [engine, show queuedItems .idle = [] from rfl, List.sublist_nil] at queued
  rw [engine, show servedItems .idle = [] from rfl, List.sublist_nil] at served
  have queue : (startValid s).keyring.intakeQueue = [] := (resetKeyring_restarted s.restored).intakeQueue
  refine .of_quiet_powered queued served (calm.intake.queue.trans queue) fun i entered => ?_
  exact startValid_intake s i ((calm.intake.members i).1 entered)

theorem Orderly.lost (s : State) : Orderly { startLost s with powered := true } :=
  .of_quiet_powered rfl rfl rfl empty_intake

/-! ### Every step -/

/-- What the commands do keeps the jobs with their owners. -/
theorem regular_orderly : Regular fun s t => Orderly s → Orderly t where
  trans first second ok := second (first ok)
  aside same := (Calm.of_work same).orderly
  windowSweep s := (Calm.windowSweep s).orderly
  stopTimeSweep s := (Calm.stopTimeSweep s).orderly
  listed s cursor := Calm.orderly (.of_intake { queue := rfl, members := fun _ => .rfl } rfl rfl rfl rfl)
  delivered on fits ok := ok.delivered on fits
  deleted held out := (Calm.deleted held out).orderly
  ordered o _ on ok := ok.ordered on o
  snapshot s := (Calm.snapshot s).orderly
  bound unitId wrapped bias closed ok := ok.bound closed unitId wrapped bias
  unbound _ l ok := ok.unbound l
  biased s l bias := (Calm.setScreen (e := { s.screens[l] with bias }) fun _ => rfl).orderly
  opened closed screen _ _ ok := ok.opened closed screen _ _
  finished l cause s := (Calm.endLane ..).orderly
  closed held status := (Calm.setLane (awaitsNone_of_status held status) none).orderly
  recorded held same := (Calm.recorded held same).orderly
  begun n p holder r held running ok := ok.begun n p holder r held running
  unwrapped outcome _ ok := ok.unwrapped outcome
  rewrapped outcome _ ok := ok.rewrapped outcome
  screenBound outcome _ ok := ok.screenBound outcome
  restarted s _ := .restarted s
  unpowered s _ := .unpowered s
  started s _ := .started s
  startCut judged expired s _ := .unpowered _
  lost s _ := .lost s
  lostCut s _ := .unpowered _

/-- Settles O14: what the commands do to queue, jobs and their owners is taken case by case in `regular_orderly`, and
every step is made of such changes. -/
theorem jobsFitTheirOwners : Obligations.JobsFitTheirOwners := by
  intro s t intake jobs e
  exact (orderly_iff t).1 (regular_orderly.step e ((orderly_iff s).2 ⟨intake, jobs⟩))

end Sys2Proof.Machine

/-! ## Records read and deleted (O43, O44) -/

namespace Sys2Proof.Machine

/-- An answer given after a request has changed nothing of the link: the request is taken and the reply handed. -/
theorem answer_after {r : Request} {rest : List Request} {rt : Route} {s t : State} (h : Taking r rest rt s)
    (status : Status) (body : List Byte) (link : t.link = (withoutOldest s).link) (store : t.store = s.store) :
    answer r status body t = { t with link := (replied r rest rt status body s).link } := by
  have taken : (withoutOldest s).link = { s.link with receive := rest } := by rw [withoutOldest_eq h]
  rw [answer_eq h status body t (by rw [link, taken]) (by rw [link, taken]) (by rw [store])
    (by rw [link, taken]; exact h.sent) (by rw [link, taken]; exact h.noRestart), link, taken]
  rfl

/-! ### The record that holds an id -/

/-- With no record of an id, none is found. -/
theorem slotOfBundle_none {k : Keyring} {id : Ident} (absent : ∀ (i : SlotNo), ∀ b ∈ k.slots[i], b.bundleId ≠ id) :
    slotOfBundle k id = none := by
  cases found : slotOfBundle k id with
  | none => rfl
  | some i =>
    obtain ⟨b, held, same⟩ := slotOfBundle_some found
    exact absurd same (absent i b held)

/-- As no two records share an id, a record is found by its own. -/
theorem slotOfBundle_of_record {s : State} (records : RecordsOk s) {i : SlotNo} {b : Bundle}
    (held : s.keyring.slots[i] = some b) : slotOfBundle s.keyring b.bundleId = some i := by
  obtain ⟨distinct, -, -⟩ := records
  cases found : slotOfBundle s.keyring b.bundleId with
  | none =>
    have here : i ∈ slotsWhere s.keyring fun c => c.bundleId == b.bundleId := mem_slotsWhere_of held (by simp)
    rw [slotOfBundle, List.head?_eq_none_iff] at found
    rw [found] at here
    cases here
  | some j =>
    obtain ⟨a, ha, same⟩ := slotOfBundle_some found
    rw [distinct j i a ha b held same]

/-! ### DELETE_BUNDLE (R53) -/

theorem freeCells_eq (refs : List PoolNo) (pool : List PoolCell) :
    freeCells refs pool = pool.filter fun c => decide (c.number ∉ refs) := by
  unfold freeCells
  refine List.filter_congr fun c _ => ?_
  simp

section
variable {r : Request} {rest : List Request} {rt : Route} {s : State}

/-- What deleting a record of the keyring does. -/
theorem deleteBundle_record (serving : Serving .deleteBundle r rest rt s) (records : RecordsOk s) {i : SlotNo}
    {b : Bundle} (held : s.keyring.slots[i] = some b) :
    deleteBundle b.bundleId r (withoutOldest s) =
      if b.state = .unwrapping then replied r rest rt .busy [] s
      else if 0 < b.useCount then replied r rest rt .inUse [] s
      else
        { replied r rest rt .ok [BitVec.ofNat 8 i.val] s with
          keyring :=
            { s.keyring with
              slots := s.keyring.slots.set i none
              pool := s.keyring.pool.filter fun c => decide (c.number ∉ b.poolRefs) } } := by
  unfold deleteBundle
  rw [withoutOldest_keyring, slotOfBundle_of_record records held]
  dsimp only
  rw [held]
  dsimp only
  split
  · exact answer_withoutOldest serving.toTaking ..
  · split
    · exact answer_withoutOldest serving.toTaking ..
    · refine (answer_after serving.toTaking _ _ ?_ ?_).trans ?_
      · rfl
      · rfl
      · rw [← freeCells_eq]
        rfl

end

/-- Settles O44: the record found is the one that holds the id, as no two share one. -/
theorem deletionEmptiesTheSlot : Obligations.DeletionEmptiesTheSlot := by
  intro r rest rt s serving records
  refine ⟨fun malformed => congrArg Host.Outcome.next (serveWith_malformed serving malformed _), fun id read => ?_⟩
  have served : exec .deleteBundle s = .next (deleteBundle id r (withoutOldest s)) := by
    refine congrArg Host.Outcome.next ((serveWith_of_serving serving _ _).trans ?_)
    rw [read]
  rw [served]
  refine ⟨fun absent => congrArg Host.Outcome.next ?_, fun i b held same => congrArg Host.Outcome.next ?_⟩
  · unfold deleteBundle
    rw [withoutOldest_keyring, slotOfBundle_none absent]
    exact answer_withoutOldest serving.toTaking ..
  · subst same
    exact deleteBundle_record serving records held

/-! ### The status record (R51) -/

/-- The 71 bytes written out (section 12.5). -/
theorem statusRecord_eq (k : Keyring) (slot : SlotNo) (b : Bundle) :
    statusRecord k slot b =
      [BitVec.ofNat 8 slot.val,
        match b.state with
        | .unwrapping => (1 : Byte) | .waiting => 2 | .live => 3 | .closing => 4 | .expired => 5 | .revoked => 6
        | .failed => 7] ++
      beBytes 8 b.bundleId.toNat ++ beBytes 8 b.featureId.toNat ++ beBytes 4 b.notBefore ++ beBytes 4 b.notAfter ++
      beBytes 2 b.grace ++
      [BitVec.ofNat 8 b.allowance, BitVec.ofNat 8 b.useCount, BitVec.ofNat 8 b.reelCount,
        BitVec.ofNat 8 b.reelsUnwrapped,
        BitVec.ofNat 8 (match k.intakeQueue.findIdx? (· == slot) with | some i => i + 1 | none => 0),
        match b.revocationMode with
        | none => (0 : Byte) | some .immediate => 1 | some .afterScreening => 2] ++
      beBytes 4 b.entryTime ++
      match b.screens with
      | .all => List.replicate 33 (0 : Byte)
      | .only screens =>
        BitVec.ofNat 8 screens.length :: (screens.map fun l => BitVec.ofNat 8 (l.val + 1)) ++
          List.replicate (32 - screens.length) 0 := by
  have code : b.state.code =
      match b.state with
      | .unwrapping => (1 : Byte) | .waiting => 2 | .live => 3 | .closing => 4 | .expired => 5 | .revoked => 6
      | .failed => 7 := by
    cases b.state <;> rfl
  have mode : revocationModeCode b.revocationMode =
      match b.revocationMode with
      | none => (0 : Byte) | some .immediate => 1 | some .afterScreening => 2 := by
    cases b.revocationMode with
    | none => rfl
    | some m => cases m <;> rfl
  have screens : b.screens.bytes =
      match b.screens with
      | .all => List.replicate 33 (0 : Byte)
      | .only screens =>
        BitVec.ofNat 8 screens.length :: (screens.map fun l => BitVec.ofNat 8 (l.val + 1)) ++
          List.replicate (32 - screens.length) 0 := by
    cases b.screens <;> rfl
  unfold statusRecord
  rw [code, mode, screens]
  rfl

/-! ### The scan of LIST_BUNDLES (R52) -/

/-- So many slots from one on, wrapping. -/
def slotsFrom (start : SlotNo) (left : Nat) : List SlotNo := (List.range left).map fun i => start + Fin.ofNat 64 i

theorem add_ofNat_succ (start : SlotNo) (n : Nat) : start + Fin.ofNat 64 (n + 1) = start + 1 + Fin.ofNat 64 n := by
  have one : ((1 : Fin 64) : Nat) = 1 := rfl
  apply Fin.ext
  simp only [Fin.val_add, Fin.ofNat]
  omega

theorem slotsFrom_succ (start : SlotNo) (left : Nat) :
    slotsFrom start (left + 1) = start :: slotsFrom (start + 1) left := by
  unfold slotsFrom
  rw [List.range_succ_eq_map, List.map_cons, List.map_map]
  congr 1
  · exact add_zero start
  · exact List.map_congr_left fun i _ => add_ofNat_succ start i

theorem slotsFrom_all (start : SlotNo) : slotsFrom start 64 = (List.finRange 64).map fun i => start + i := by
  unfold slotsFrom
  rw [← List.map_coe_finRange_eq_range, List.map_map]
  refine List.map_congr_left fun i _ => ?_
  rw [Function.comp_apply, Fin.ofNat_val_eq_self]

theorem scanSlots_noRoom (k : Keyring) (start : SlotNo) (left : Nat) : scanSlots k start left 0 = ([], 0) := by
  cases left <;> rfl

theorem scanSlots_succ (k : Keyring) (start : SlotNo) (left room : Nat) :
    scanSlots k start (left + 1) (room + 1) =
      if (k.slots[start]).isSome then
        (start :: (scanSlots k (start + 1) left room).1, (scanSlots k (start + 1) left room).2 + 1)
      else ((scanSlots k (start + 1) left (room + 1)).1, (scanSlots k (start + 1) left (room + 1)).2 + 1) := by
  rw [scanSlots]
  split <;> rfl

/-- The scan finds the first occupied slots in order, as many as there is room for. -/
theorem scanSlots_found (k : Keyring) (left : Nat) (start : SlotNo) (room : Nat) :
    (scanSlots k start left room).1 = ((slotsFrom start left).filter fun i => (k.slots[i]).isSome).take room := by
  induction left generalizing start room with
  | zero => simp [scanSlots, slotsFrom]
  | succ left ih =>
    cases room with
    | zero => simp [scanSlots]
    | succ room =>
      rw [slotsFrom_succ, List.filter_cons, scanSlots_succ]
      split
      · rw [ih, List.take_succ_cons]
      · exact ih ..

theorem getLastD_of_ne_nil {α : Type} {l : List α} (h : l ≠ []) (a b : α) : l.getLastD a = l.getLastD b := by
  rw [List.getLastD_eq_getLast?, List.getLastD_eq_getLast?, List.getLast?_eq_some_getLast h]
  rfl

/-- The scan stops behind the slot that filled the room, or after all it had to examine. -/
theorem scanSlots_examined (k : Keyring) (left : Nat) (start : SlotNo) (room : Nat) :
    start + Fin.ofNat 64 (scanSlots k start left (room + 1)).2 =
      if (scanSlots k start left (room + 1)).1.length < room + 1 then start + Fin.ofNat 64 left
      else (scanSlots k start left (room + 1)).1.getLastD start + 1 := by
  induction left generalizing start room with
  | zero => rw [scanSlots, if_pos (by simp)]
  | succ left ih =>
    rw [scanSlots_succ]
    split
    next occupied =>
      cases room with
      | zero =>
        rw [scanSlots_noRoom, if_neg (by simp)]
        rfl
      | succ room =>
        dsimp only
        rw [add_ofNat_succ, add_ofNat_succ, ih (start + 1) room, List.length_cons, List.getLastD_cons]
        by_cases short : (scanSlots k (start + 1) left (room + 1)).1.length < room + 1
        · rw [if_pos short, if_pos (by omega)]
        · have some_ : (scanSlots k (start + 1) left (room + 1)).1 ≠ [] := by
            intro none
            simp [none] at short
          rw [if_neg short, if_neg (by omega), getLastD_of_ne_nil some_ (start + 1) start]
    next empty =>
      dsimp only
      rw [add_ofNat_succ, add_ofNat_succ, ih (start + 1) room]
      split
      · rfl
      next full =>
        have some_ : (scanSlots k (start + 1) left (room + 1)).1 ≠ [] := by
          intro none
          simp [none] at full
        rw [getLastD_of_ne_nil some_ (start + 1) start]

/-- The slot behind the last one examined, in a scan of all 64. -/
theorem scanSlots_cursor (k : Keyring) (start : SlotNo) :
    Fin.ofNat 64 (start.val + (scanSlots k start 64 16).2) =
      if (scanSlots k start 64 16).1.length < 16 then start
      else (scanSlots k start 64 16).1.getLastD start + 1 := by
  have whole : start + Fin.ofNat 64 64 = start := add_zero start
  have stopped : start + Fin.ofNat 64 (scanSlots k start 64 16).2 =
      if (scanSlots k start 64 16).1.length < 16 then start + Fin.ofNat 64 64
      else (scanSlots k start 64 16).1.getLastD start + 1 := scanSlots_examined k 64 start 15
  rw [whole] at stopped
  rw [← stopped]
  apply Fin.ext
  simp only [Fin.val_add, Fin.ofNat]
  omega

theorem occupied_eq (k : Keyring) :
    occupied k = ((List.finRange 64).filter fun i : SlotNo => (k.slots[i]).isSome).length := by
  refine congrArg List.length (List.filter_congr fun i _ => ?_)
  cases k.slots[i] <;> rfl

/-! ### BUNDLE_STATUS and LIST_BUNDLES -/

/-- Settles O43: BUNDLE_STATUS by the slot that the name gives, LIST_BUNDLES by `scanSlots_found` and
`scanSlots_cursor`. -/
theorem recordsAreReadAsTheyStand : Obligations.RecordsAreReadAsTheyStand := by
  intro r rest rt s one record
  have record_eq (i : SlotNo) (b : Bundle) : statusRecord s.keyring i b = record i b := statusRecord_eq ..
  refine ⟨fun serving => ?_, fun serving => ?_⟩
  · have served (name : BundleName) (read : parseBundleName r.body = some name) :
        exec .bundleStatus s =
          .next
            (match namedSlot s.keyring name with
            | none => replied r rest rt .noSuch [] s
            | some i =>
              match s.keyring.slots[i] with
              | none => replied r rest rt .noSuch [] s
              | some b => replied r rest rt .ok (record i b) s) := by
      refine congrArg Host.Outcome.next ((serveWith_of_serving serving _ _).trans ?_)
      rw [read]
      dsimp only
      rw [withoutOldest_keyring]
      cases namedSlot s.keyring name with
      | none => exact answer_withoutOldest serving.toTaking ..
      | some i =>
        dsimp only
        cases s.keyring.slots[i] with
        | none => exact answer_withoutOldest serving.toTaking ..
        | some b =>
          dsimp only
          rw [record_eq]
          exact answer_withoutOldest serving.toTaking ..
    refine ⟨fun malformed => congrArg Host.Outcome.next (serveWith_malformed serving malformed _),
      fun i read => served _ read, fun id read => ⟨fun absent => ?_, fun i b held same records => ?_⟩⟩
    · rw [served _ read, namedSlot, slotOfBundle_none absent]
    · subst same
      rw [Option.mem_def] at held
      rw [served _ read, namedSlot, slotOfBundle_of_record records held]
      dsimp only
      rw [held]
  · refine ⟨fun malformed => congrArg Host.Outcome.next (serveWith_malformed serving malformed _), fun given read => ?_⟩
    intro start inOrder found cursor
    have scanned : (scanSlots s.keyring start 64 16).1 = found := by
      rw [scanSlots_found, slotsFrom_all]
    have stopped : Fin.ofNat 64 (start.val + (scanSlots s.keyring start 64 16).2) = cursor := by
      rw [scanSlots_cursor, scanned]
    have records : (found.map (recordAt s.keyring)).flatten =
        found.flatMap fun i => match s.keyring.slots[i] with | some b => record i b | none => [] := by
      rw [List.flatMap_def]
      refine congrArg List.flatten (List.map_congr_left fun i _ => ?_)
      unfold recordAt
      cases s.keyring.slots[i] with
      | none => rfl
      | some b => exact record_eq i b
    refine congrArg Host.Outcome.next ((serveWith_of_serving serving _ _).trans ?_)
    rw [read]
    dsimp only
    refine (answer_after serving.toTaking _ _ ?_ ?_).trans ?_
    · rfl
    · rfl
    · rw [withoutOldest_keyring, Config.listRoom, scanned, stopped, records, occupied_eq]
      rfl

end Sys2Proof.Machine

/-! ## RESTART (O38) -/

namespace Sys2Proof.Machine

/-- The state at a RESTART, before the keyring's reset (R100, R117, R163). -/
def State.sessionReset (s : State) : State :=
  { s with
    link := s.link.restarted, engine := s.engine.restarted, lanes := lanesClosed
    screens := screensAfterStart s.screens }

theorem exec_restartReset_idle {s : State} (idle : s.powered = false ∨ s.link.restart ≠ .due) :
    exec .restartReset s = .next s := by
  refine congrArg Host.Outcome.next (if_neg fun both => ?_)
  obtain ⟨on, due⟩ := Bool.and_eq_true_iff.1 both
  obtain off | other := idle
  · cases on.symm.trans off
  · exact other (by simpa using due)

theorem exec_restartReset_due {s : State} (on : s.powered = true) (due : s.link.restart = .due) :
    exec .restartReset s = .next (resetKeyring s.sessionReset) :=
  congrArg Host.Outcome.next (if_pos (by simp [on, due]))

/-- A reply handed while nothing waits and no RESTART is due is being sent at once. -/
theorem handReply_first {t : State} {peer : Option Peer} {rt : Route} (role : FrameRole) (payload : List Byte)
    (routed : t.route peer = some rt) (sent : t.link.transmit = []) (goes : t.link.restart ≠ .due) :
    handReply role peer payload t =
      { t with link := { t.link with transmit := [{ role, payload }], sending := some rt } } := by
  simp [handReply, sendingAfter, routed, sent, goes]

/-- RESTART is answered alone, and taken when its reply has been sent. -/
theorem exec_restart {r : Request} {rest : List Request} {rt : Route} {s : State}
    (serving : Serving .restart r rest rt s) (bare : r.body = []) :
    exec .restart s =
      .next
        { s with
          link :=
            { s.link with
              receive := rest
              restart := .replying
              sending := some rt
              transmit := [{ role := .restartReply, payload := [0x87, r.tag, 0] }] } } := by
  refine congrArg Host.Outcome.next ((serveBare_of_serving serving _).trans ?_)
  have payload : replyPayload r.kind r.tag .ok [] = [0x87, r.tag, 0] := by
    rw [replyPayload, serving.kind]
    rfl
  rw [if_pos bare, payload, withoutOldest_eq serving.toTaking]
  refine (handReply_first (rt := rt) _ _ ?_ ?_ ?_).trans ?_
  · exact (route_congr (s := s) _ rfl rfl).trans serving.routed
  · exact serving.sent
  · exact RestartPhase.noConfusion
  · rfl

/-- Settles O38: the reply by `exec_restart`, and the restart by what the keyring's reset does to a slot and to the
pool. -/
theorem restartResetsTheSession : Obligations.RestartResetsTheSession := by
  refine ⟨fun r rest rt s serving => ?_, fun s => ⟨exec_restartReset_idle, fun on due => ?_⟩⟩
  · split
    next extra =>
      refine congrArg Host.Outcome.next ((serveBare_of_serving serving _).trans ?_)
      rw [if_neg extra]
      exact answer_withoutOldest serving.toTaking ..
    next bare => exact exec_restart serving (not_not.1 bare)
  · have frame : resetKeyring s.sessionReset =
        { s.sessionReset with keyring := (resetKeyring s.sessionReset).keyring } := resetKeyring_frame _
    have restarted : KeyringRestarted s.clock.now s.keyring (resetKeyring s.sessionReset).keyring :=
      resetKeyring_restarted s.sessionReset
    rw [exec_restartReset_due on due, frame]
    generalize (resetKeyring s.sessionReset).keyring = k at restarted
    refine ⟨_, rfl, restarted, fun l => ⟨by simp [State.sessionReset, lanesClosed], ?_⟩, fun q => tabulate_get _ q, rfl⟩
    exact tabulate_get _ l

end Sys2Proof.Machine

/-! ## DELIVER_BUNDLE (O42) -/

namespace Sys2Proof.Machine

/-! ### The checks (R42) -/

theorem slotsWhere_ne_nil {k : Keyring} {p : Bundle → Bool} :
    slotsWhere k p ≠ [] ↔ ∃ i : SlotNo, ∃ b ∈ k.slots[i], p b = true := by
  constructor
  · intro some_
    obtain ⟨i, hi⟩ := List.exists_mem_of_ne_nil _ some_
    exact ⟨i, mem_slotsWhere.1 hi⟩
  · rintro ⟨i, record⟩
    exact List.ne_nil_of_mem (mem_slotsWhere.2 record)

theorem countWhere_pos {k : Keyring} {p : Bundle → Bool} :
    0 < countWhere k p ↔ ∃ i : SlotNo, ∃ b ∈ k.slots[i], p b = true := by
  rw [countWhere, List.length_pos_iff, slotsWhere_ne_nil]

/-- All 64 slots are counted exactly when none is empty. -/
theorem occupied_all {k : Keyring} : occupied k = 64 ↔ ∀ i : SlotNo, k.slots[i] ≠ none := by
  have all : ((List.finRange 64).filter fun i : SlotNo => (k.slots[i]).isSome).length = 64 ↔
      ∀ i ∈ List.finRange 64, (k.slots[i]).isSome = true := by
    rw [← List.length_filter_eq_length_iff, List.length_finRange]
  rw [occupied_eq, all]
  simp [Option.isSome_iff_ne_none]

theorem deliveryVerifies_eq_false {tagOver : Option BundleTag} {d : Delivery} {st : Store} :
    deliveryVerifies tagOver d st = false ↔
      ¬∃ identity ∈ st.identity, tagOver = some { identity, covered := d.covered } := by
  unfold deliveryVerifies
  cases tagOver with
  | none => simp
  | some tag =>
    cases st.identity with
    | none => simp
    | some identity => simp

/-! ### The slot taken (R46, R70) -/

/-- The first of a rising list that satisfies a condition is the least. -/
theorem le_of_head?_filter {n : Nat} {l : List (Fin n)} (rising : l.Pairwise (· < ·)) {p : Fin n → Bool} {i j : Fin n}
    (first : (l.filter p).head? = some i) (here : j ∈ l) (holds : p j = true) : i ≤ j := by
  have mem : j ∈ l.filter p := List.mem_filter.2 ⟨here, holds⟩
  have kept := rising.filter p
  cases found : l.filter p with
  | nil => simp [found] at mem
  | cons k rest =>
    rw [found] at first mem kept
    obtain rfl : k = i := by simpa using first
    obtain rfl | later := List.mem_cons.1 mem
    · exact le_refl _
    · exact le_of_lt ((List.pairwise_cons.1 kept).1 j later)

/-- A scan of a rising list that takes the next on a smaller key only finds the least key, at the least place. -/
theorem foldl_least {n : Nat} (key : Fin n → Nat) {turn : Option (Fin n) → Fin n → Option (Fin n)}
    (turn_some : ∀ j i, turn (some j) i = if key i < key j then some i else some j) (l : List (Fin n)) (j : Fin n)
    (rising : (j :: l).Pairwise (· < ·)) :
    ∃ b, l.foldl turn (some j) = some b ∧ ∀ y ∈ j :: l, key b < key y ∨ key b = key y ∧ b ≤ y := by
  induction l generalizing j with
  | nil => exact ⟨j, rfl, by simp⟩
  | cons i rest ih =>
    obtain ⟨after, rest_rising⟩ := List.pairwise_cons.1 rising
    rw [List.foldl_cons, turn_some]
    split
    next smaller =>
      obtain ⟨b, found, least⟩ := ih i rest_rising
      refine ⟨b, found, fun y hy => ?_⟩
      obtain rfl | later := List.mem_cons.1 hy
      · have here := least i (List.mem_cons_self ..)
        omega
      · exact least y later
    next larger =>
      have ahead : (j :: rest).Pairwise (· < ·) :=
        List.pairwise_cons.2 ⟨fun y hy => after y (List.mem_cons_of_mem _ hy), (List.pairwise_cons.1 rest_rising).2⟩
      obtain ⟨b, found, least⟩ := ih j ahead
      refine ⟨b, found, fun y hy => ?_⟩
      obtain rfl | later := List.mem_cons.1 hy
      · exact least _ (List.mem_cons_self ..)
      · obtain rfl | behind := List.mem_cons.1 later
        · have here := least j (List.mem_cons_self ..)
          have before := after y (List.mem_cons_self ..)
          omega
        · exact least y (List.mem_cons_of_mem _ behind)

/-- The tombstone with the oldest state-entry time, the lowest-numbered on a tie (R70). -/
theorem oldestTombstone_least {k : Keyring} (some_ : ∃ i : SlotNo, ∃ b ∈ k.slots[i], b.isTombstone = true) :
    ∃ i : SlotNo, oldestTombstone k = some i ∧
      ∃ b ∈ k.slots[i], b.isTombstone = true ∧
        ∀ (j : SlotNo), ∀ c ∈ k.slots[j], c.isTombstone = true →
          b.entryTime < c.entryTime ∨ b.entryTime = c.entryTime ∧ i ≤ j := by
  have rising : (slotsWhere k Bundle.isTombstone).Pairwise (· < ·) := (List.pairwise_lt_finRange 64).filter _
  cases all : slotsWhere k Bundle.isTombstone with
  | nil => exact absurd all (slotsWhere_ne_nil.2 some_)
  | cons first rest =>
    rw [all] at rising
    have scan : ∃ turn : Option SlotNo → SlotNo → Option SlotNo,
        oldestTombstone k = (first :: rest).foldl turn none ∧ turn none first = some first ∧
          ∀ j i, turn (some j) i =
            if (k.slots[i]).elim 0 (·.entryTime) < (k.slots[j]).elim 0 (·.entryTime) then some i else some j :=
      ⟨_, by rw [oldestTombstone, all], rfl, fun _ _ => rfl⟩
    obtain ⟨turn, scanned, begins, turn_some⟩ := scan
    obtain ⟨i, found, least⟩ := foldl_least (fun i => (k.slots[i]).elim 0 (·.entryTime)) turn_some rest first rising
    have oldest : oldestTombstone k = some i := by rw [scanned, List.foldl_cons, begins, found]
    obtain ⟨b, held, tombstone⟩ := oldestTombstone_some oldest
    refine ⟨i, oldest, b, held, tombstone, fun j c hc buried => ?_⟩
    have entry := least j (all ▸ mem_slotsWhere_of hc buried)
    rw [Option.mem_def] at hc
    rw [held, hc] at entry
    exact entry

/-- The own tombstones of a delivery. -/
def ownTombstone (id : Ident) (b : Bundle) : Bool := b.bundleId == id && b.isTombstone

theorem deliverySlot_eq (k : Keyring) (id : Ident) :
    deliverySlot k id =
      ((slotsWhere k (ownTombstone id)).head?.orElse fun _ => emptySlotOf k).orElse fun _ => oldestTombstone k := rfl

theorem deliverySlot_own {k : Keyring} {id : Ident} (own : ∃ i : SlotNo, ∃ b ∈ k.slots[i], ownTombstone id b = true) :
    ∃ i : SlotNo, deliverySlot k id = some i ∧ ∃ b ∈ k.slots[i], b.bundleId = id ∧ b.isTombstone = true := by
  obtain ⟨i, rest, all⟩ := List.exists_cons_of_ne_nil (slotsWhere_ne_nil.2 own)
  obtain ⟨b, held, both⟩ := mem_slotsWhere.1 (all ▸ List.mem_cons_self .. : i ∈ slotsWhere k (ownTombstone id))
  refine ⟨i, ?_, b, held, ?_⟩
  · rw [deliverySlot_eq, all]
    rfl
  · simpa [ownTombstone] using both

theorem deliverySlot_of_not_own {k : Keyring} {id : Ident}
    (own : ¬∃ i : SlotNo, ∃ b ∈ k.slots[i], ownTombstone id b = true) :
    deliverySlot k id = (emptySlotOf k).orElse fun _ => oldestTombstone k := by
  rw [deliverySlot_eq, not_not.1 (mt slotsWhere_ne_nil.1 own)]
  rfl

theorem emptySlotOf_least {k : Keyring} (room : ∃ i : SlotNo, k.slots[i] = none) :
    ∃ i : SlotNo, emptySlotOf k = some i ∧ k.slots[i] = none ∧ ∀ j, k.slots[j] = none → i ≤ j := by
  obtain ⟨e, empty⟩ := room
  have some_ : ((List.finRange 64).filter fun i : SlotNo => (k.slots[i]).isNone) ≠ [] :=
    List.ne_nil_of_mem (List.mem_filter.2 ⟨List.mem_finRange e, by simp [empty]⟩)
  obtain ⟨i, rest, all⟩ := List.exists_cons_of_ne_nil some_
  have first : emptySlotOf k = some i := by rw [emptySlotOf, all]; rfl
  refine ⟨i, first, ?_, fun j none => ?_⟩
  · simpa using (List.mem_filter.1 (List.mem_of_head? first)).2
  · exact le_of_head?_filter (List.pairwise_lt_finRange 64) first (List.mem_finRange j) (by simp [none])

theorem emptySlotOf_none {k : Keyring} (full : ¬∃ i : SlotNo, k.slots[i] = none) : emptySlotOf k = none := by
  rw [emptySlotOf, List.head?_eq_none_iff, List.filter_eq_nil_iff]
  intro i _ none
  exact full ⟨i, by simpa using none⟩

/-- The slot that an accepted delivery takes, as R46 words it. -/
structure TakesSlot (k : Keyring) (id : Ident) (i : SlotNo) : Prop where
  own : (∃ i : SlotNo, ∃ b ∈ k.slots[i], ownTombstone id b = true) →
    ∃ b ∈ k.slots[i], b.bundleId = id ∧ b.isTombstone = true
  empty : (¬∃ i : SlotNo, ∃ b ∈ k.slots[i], ownTombstone id b = true) → (∃ i : SlotNo, k.slots[i] = none) →
    k.slots[i] = none ∧ ∀ j, k.slots[j] = none → i ≤ j
  oldest : (¬∃ i : SlotNo, ∃ b ∈ k.slots[i], ownTombstone id b = true) → (¬∃ i : SlotNo, k.slots[i] = none) →
    ∃ b ∈ k.slots[i], b.isTombstone = true ∧
      ∀ (j : SlotNo), ∀ c ∈ k.slots[j], c.isTombstone = true →
        b.entryTime < c.entryTime ∨ b.entryTime = c.entryTime ∧ i ≤ j

/-- While a slot is empty or holds a tombstone a delivery has a slot to take. -/
theorem deliverySlot_takes {k : Keyring} (id : Ident)
    (room : (∃ i : SlotNo, k.slots[i] = none) ∨ ∃ i : SlotNo, ∃ b ∈ k.slots[i], b.isTombstone = true) :
    ∃ i, deliverySlot k id = some i ∧ TakesSlot k id i := by
  by_cases own : ∃ i : SlotNo, ∃ b ∈ k.slots[i], ownTombstone id b = true
  · obtain ⟨i, taken, record⟩ := deliverySlot_own own
    exact ⟨i, taken, fun _ => record, fun no => absurd own no, fun no => absurd own no⟩
  · rw [deliverySlot_of_not_own own]
    by_cases empty : ∃ i : SlotNo, k.slots[i] = none
    · obtain ⟨i, taken, least⟩ := emptySlotOf_least empty
      exact ⟨i, by rw [taken]; rfl, fun yes => absurd yes own, fun _ _ => least, fun _ full => absurd empty full⟩
    · obtain ⟨i, taken, oldest⟩ := oldestTombstone_least (room.resolve_left empty)
      refine ⟨i, ?_, fun yes => absurd yes own, fun _ yes => absurd yes empty, fun _ _ => oldest⟩
      rw [emptySlotOf_none empty]
      exact taken

/-- A delivery that no check refuses has a slot to take. -/
theorem deliverySlot_of_passed {tagOver : Option BundleTag} {d : Delivery} {s : State}
    (passed : deliveryRefusal tagOver d s = none) :
    ∃ i, deliverySlot s.keyring d.bundleId = some i ∧ TakesSlot s.keyring d.bundleId i := by
  refine deliverySlot_takes d.bundleId ?_
  unfold deliveryRefusal at passed
  split_ifs at passed with tag barred duplicate feature expired full
  rw [occupied_all] at full
  by_cases empty : ∃ i : SlotNo, s.keyring.slots[i] = none
  · exact .inl empty
  · exact .inr (countWhere_pos.1 (Nat.pos_of_ne_zero fun none => full ⟨fun i h => empty ⟨i, h⟩, none⟩))

/-! ### The placing (R46, R47) -/

theorem freeNumbers_eq (pool : List PoolCell) :
    freeNumbers pool = (List.finRange 768).filter fun n : PoolNo => decide (n ∉ pool.map PoolCell.number) := by
  refine List.filter_congr fun n _ => ?_
  rw [Bool.eq_iff_iff]
  simp

theorem insertCell_perm (c : PoolCell) (pool : List PoolCell) : (insertCell c pool).Perm (c :: pool) := by
  induction pool with
  | nil => exact .refl _
  | cons d rest ih =>
    unfold insertCell
    split
    · exact .refl _
    · exact (ih.cons d).trans (.swap ..)

theorem reserveCells_perm (refs : List PoolNo) (pool : List PoolCell) :
    (reserveCells refs pool).Perm (pool ++ refs.map fun n => { number := n, key := none }) := by
  unfold reserveCells
  induction refs generalizing pool with
  | nil => simp
  | cons n rest ih =>
    rw [List.foldl_cons, List.map_cons]
    refine (ih _).trans ((List.Perm.append_right _ (insertCell_perm ..)).trans ?_)
    exact List.perm_middle.symm

/-- A grant has nothing to do with the link. -/
theorem grant_withLink (k : Link) (s : State) : grant { s with link := k } = { grant s with link := k } := by
  have entered (i : JobItem) : enterService i { s with link := k } = { enterService i s with link := k } := by
    unfold enterService modifyLane
    dsimp only
    split
    · split <;> rfl
    · rfl
  have choice : grantChoice { s with link := k } = grantChoice s := rfl
  unfold grant
  rw [choice]
  dsimp only
  split
  · rfl
  · split
    · rfl
    · rw [entered]
      rfl

theorem presentIntake_withLink (k : Link) (s : State) :
    presentIntake { s with link := k } = { presentIntake s with link := k } := by
  unfold presentIntake
  dsimp only
  split
  · rfl
  · split
    · rfl
    · split <;> rfl

/-- With an intake job for a queue that waits, the bundle just placed has its first reel presented exactly where no
intake job exists. -/
theorem presentIntake_placed {s : State} (jobs : JobsOk s) (d : Delivery) (i : SlotNo) :
    presentIntake (deliveryPlaced d i s) =
      { deliveryPlaced d i s with
        engine :=
          if intakeJobExists s.engine then s.engine
          else { s.engine with queued := s.engine.queued ++ [{ item := .intake i 1, inSnapshot := false }] } } := by
  obtain ⟨-, -, -, -, asked⟩ := jobs
  cases queue : s.keyring.intakeQueue with
  | nil =>
    have head : (deliveryPlaced d i s).keyring.intakeQueue = [i] := by simp [deliveryPlaced, queue]
    have record : (deliveryPlaced d i s).keyring.slots[i] =
        some (newRecord d ((freeNumbers s.keyring.pool).take d.reelCount) s.clock.now) := by
      simp [deliveryPlaced]
    have engine : (deliveryPlaced d i s).engine = s.engine := rfl
    unfold presentIntake
    rw [head]
    dsimp only
    rw [record, engine]
    dsimp only
    cases intakeJobExists s.engine <;> rfl
  | cons j rest =>
    have exists_ : intakeJobExists s.engine = true := asked (by simp [queue])
    have head : (deliveryPlaced d i s).keyring.intakeQueue = j :: (rest ++ [i]) := by simp [deliveryPlaced, queue]
    have engine : (deliveryPlaced d i s).engine = s.engine := rfl
    unfold presentIntake
    rw [head, exists_]
    dsimp only
    split
    · rfl
    · rw [engine, exists_]
      rfl

/-! ### The answers -/

section
variable {r : Request} {rest : List Request} {rt : Route} {s : State}

theorem exec_deliverBundle_running (serving : Serving .deliverBundle r rest rt s) (running : s.clock.state = .running)
    (tagOver : Option BundleTag) :
    exec (.deliverBundle tagOver) s =
      .next
        (match parseDelivery r.body with
        | none => replied r rest rt .badRequest [] s
        | some d =>
          match deliveryRefusal tagOver d s, deliverySlot s.keyring d.bundleId with
          | some status, _ => replied r rest rt status [] s
          | none, some i => answer r .ok [byteOf i.val] (acceptDelivery d i (withoutOldest s))
          | none, none => replied r rest rt .keyringFull [] s) := by
  refine congrArg Host.Outcome.next ((serve_of_serving serving _).trans ?_)
  have refusal (d : Delivery) : deliveryRefusal tagOver d (withoutOldest s) = deliveryRefusal tagOver d s := rfl
  rw [withoutOldest_clock, if_neg (by simp [running])]
  cases parseDelivery r.body with
  | none => exact answer_withoutOldest serving.toTaking ..
  | some d =>
    dsimp only
    rw [refusal, withoutOldest_keyring]
    cases deliveryRefusal tagOver d s with
    | some status => exact answer_withoutOldest serving.toTaking ..
    | none =>
      cases deliverySlot s.keyring d.bundleId with
      | none => exact answer_withoutOldest serving.toTaking ..
      | some i => rfl

/-- The answer to an accepted delivery. -/
theorem answer_acceptDelivery (serving : Serving .deliverBundle r rest rt s) (d : Delivery) (i : SlotNo) :
    answer r .ok [byteOf i.val] (acceptDelivery d i (withoutOldest s)) =
      { replied r rest rt .ok [BitVec.ofNat 8 i.val] s with
        keyring := (deliveryPlaced d i s).keyring
        engine := (grant (presentIntake (deliveryPlaced d i s))).engine
        lanes := (grant (presentIntake (deliveryPlaced d i s))).lanes } := by
  have aside : acceptDelivery d i (withoutOldest s) =
      { grant (presentIntake (deliveryPlaced d i s)) with link := (withoutOldest s).link } := by
    rw [acceptDelivery_eq, ← grant_withLink, ← presentIntake_withLink]
    rfl
  have left : grant (presentIntake (deliveryPlaced d i s)) =
      { deliveryPlaced d i s with
        engine := (grant (presentIntake (deliveryPlaced d i s))).engine
        lanes := (grant (presentIntake (deliveryPlaced d i s))).lanes } := by
    rw [grant_frame, presentIntake_frame]
  rw [answer_after serving.toTaking _ _ (by rw [aside]) (by rw [aside, left]; rfl), aside, left]
  rfl

end

/-- Settles O42: check by check what `deliveryRefusal` asks, and an accepted delivery by `deliverySlot_of_passed` and
`answer_acceptDelivery`. -/
theorem deliveriesAreCheckedAndPlaced : Obligations.DeliveriesAreCheckedAndPlaced := by
  intro tagOver r rest rt s serving jobs
  refine ⟨fun unset => exec_deliverBundle_unset serving unset tagOver,
    fun running => ⟨fun malformed => ?_, fun d read => ?_⟩⟩
  · rw [exec_deliverBundle_running serving running, malformed]
  intro held heldBy barredBy refused
  have served := exec_deliverBundle_running serving running tagOver
  rw [read] at served
  dsimp only at served
  have held_iff (p : Bundle → Bool) : held p = true ↔ ∃ i : SlotNo, ∃ b ∈ s.keyring.slots[i], p b = true :=
    decide_eq_true_iff
  have chain : deliveryRefusal tagOver d s = refused := by
    refine if_congr deliveryVerifies_eq_false rfl (if_congr .rfl rfl (if_congr ?_ rfl (if_congr .rfl rfl
      (if_congr .rfl rfl (if_congr (and_congr occupied_all ?_) rfl (if_congr .rfl rfl (if_congr .rfl rfl rfl)))))))
    · exact countWhere_pos.trans (held_iff _).symm
    · rw [← Bool.not_eq_true, held_iff, ← countWhere_pos]
      omega
  rw [chain] at served
  refine ⟨fun status refuses => by rw [served, refuses], fun passed => ?_⟩
  intro own room free refs
  obtain ⟨i, place, takes⟩ := deliverySlot_of_passed (chain.trans passed)
  rw [passed, place] at served
  dsimp only at served
  have own_iff : own = true ↔ ∃ i : SlotNo, ∃ b ∈ s.keyring.slots[i], ownTombstone d.bundleId b = true := held_iff _
  have room_iff : room = true ↔ ∃ i : SlotNo, s.keyring.slots[i] = none := decide_eq_true_iff
  refine ⟨i, _, served, fun yes => takes.own (own_iff.1 yes), fun no yes => ?_, fun no full => ?_, ?_⟩
  · exact takes.empty (fun some_ => by simp [own_iff.2 some_] at no) (room_iff.1 yes)
  · exact takes.oldest (fun some_ => by simp [own_iff.2 some_] at no) fun some_ => by simp [room_iff.2 some_] at full
  · have refs_eq : (freeNumbers s.keyring.pool).take d.reelCount = refs := by rw [freeNumbers_eq]
    rw [answer_acceptDelivery serving, presentIntake_placed jobs]
    unfold deliveryPlaced newRecord
    rw [refs_eq]
    exact ⟨reserveCells_perm .., rfl⟩

end Sys2Proof.Machine

/-! ## Intake completions (O56) -/

namespace Sys2Proof.Machine

/-! ### Notices posted in a row

What a completion does to the link is to post notices; posting has nothing to do with keyring, engine and pending
SYNC. -/

/-- The state with keyring, engine and pending SYNC replaced. -/
def State.beside (k : Keyring) (e : Engine) (tag : Option Byte) (s : State) : State :=
  { s with keyring := k, engine := e, link := { s.link with pendingSync := tag } }

theorem handFrame_beside (k : Keyring) (e : Engine) (tag : Option Byte) (role : FrameRole) (payload : List Byte)
    (s : State) : handFrame role payload (s.beside k e tag) = (handFrame role payload s).beside k e tag := by
  have route : (s.beside k e tag).route (s.beside k e tag).link.peer = s.route s.link.peer := rfl
  unfold handFrame
  rw [route]
  split <;> rfl

theorem post_beside (k : Keyring) (e : Engine) (tag : Option Byte) (n : Notice) (s : State) :
    post n (s.beside k e tag) = (post n s).beside k e tag := by
  have empty : noticesEmpty (s.beside k e tag).link.notices = noticesEmpty s.link.notices := rfl
  have added : addNotice n (s.beside k e tag) = (addNotice n s).beside k e tag := rfl
  unfold post
  rw [empty, added]
  split
  · have holds : attentionHolds ((addNotice n s).beside k e tag) = attentionHolds (addNotice n s) := rfl
    unfold judgeAttention
    rw [holds]
    split
    · exact handFrame_beside (s := { addNotice n s with link := { (addNotice n s).link with armed := false } }) ..
    · rfl
  · rfl

theorem post_withKeyring (k : Keyring) (n : Notice) (s : State) :
    post n { s with keyring := k } = { post n s with keyring := k } := by
  have beside := post_beside k s.engine s.link.pendingSync n s
  rw [← post_engine n s, ← post_link_pendingSync n s] at beside
  conv_lhs at beside => rw [post_engine, post_link_pendingSync]
  exact beside

/-- Notices posted one after the other. -/
def told (notices : List Notice) (s : State) : State := notices.foldl (fun t n => post n t) s

/-- The notice set after notices have been posted. -/
def withNotices (notices : List Notice) (pending : Vector KindSet 98) : Vector KindSet 98 :=
  notices.foldl (fun v n => withNotice n v) pending

theorem told_cons (n : Notice) (rest : List Notice) (s : State) : told (n :: rest) s = told rest (post n s) := rfl

theorem told_beside (k : Keyring) (e : Engine) (tag : Option Byte) (notices : List Notice) (s : State) :
    told notices (s.beside k e tag) = (told notices s).beside k e tag := by
  induction notices generalizing s with
  | nil => rfl
  | cons n rest ih => rw [told_cons, post_beside, ih, told_cons]

theorem told_frame (notices : List Notice) (s : State) : told notices s = { s with link := (told notices s).link } := by
  induction notices generalizing s with
  | nil => rfl
  | cons n rest ih => rw [told_cons, ih, post_frame]

theorem told_link_pendingSync (notices : List Notice) (s : State) :
    (told notices s).link.pendingSync = s.link.pendingSync := by
  induction notices generalizing s with
  | nil => rfl
  | cons n rest ih => rw [told_cons, ih, post_link_pendingSync]

theorem told_link_notices (notices : List Notice) (s : State) :
    (told notices s).link.notices = withNotices notices s.link.notices := by
  induction notices generalizing s with
  | nil => rfl
  | cons n rest ih =>
    rw [told_cons, ih, post_link_notices]
    rfl

/-! ### The session -/

namespace Stirred

variable {s t u : State}

theorem told (can : CanHand s) (h : Stirred s t) (notices : List Notice) : Stirred s (told notices t) :=
  Stirred.foldl (fun t n => Machine.post n t) (fun _ n h => h.post can n) notices h

/-- The engine's jobs may change while as many are left in the snapshot. -/
theorem requeued (h : Stirred s t) (left : snapshotLeft u.engine = snapshotLeft t.engine) (link : u.link = t.link)
    (store : u.store = t.store) : Stirred s u where
  pendingSync := by rw [link, left, ← h.pendingSync]
  armed := by rw [attentionDue_congr (t := t) (by rw [link]), ← h.armed, link]
  session := by
    rw [link]
    exact h.session
  received := by rw [link, ← h.received]
  sent := by
    have same : released s u = released s t := by
      unfold released
      rw [left]
    rw [same, attentionDue_congr (t := t) (by rw [link]), link]
    exact h.sent
  sending := by rw [link, ← h.sending]
  station := by rw [store, h.station]
  grows full := by
    rw [link]
    exact h.grows full

end Stirred

/-- A new job is in no snapshot (R96). -/
theorem snapshotLeft_presentIntake (s : State) : snapshotLeft (presentIntake s).engine = snapshotLeft s.engine := by
  unfold presentIntake
  split
  · rfl
  · split
    · rfl
    · split
      · rfl
      · simp [snapshotLeft, createJob]

/-- A granted job stays in the snapshot it belongs to. -/
theorem snapshotLeft_grant (s : State) : snapshotLeft (grant s).engine = snapshotLeft s.engine := by
  obtain ⟨same, -⟩ | ⟨r, j, idle, choice, e⟩ := grant_cases s
  · rw [same]
  · obtain ⟨queued, -⟩ := mem_of_presented (presented_of_grantChoice choice)
    rw [e]
    unfold snapshotLeft
    rw [idle, (List.perm_cons_erase queued).countP_eq, List.countP_cons]
    simp

/-! ### The result taken (R48 to R50) -/

/-- The keyring after a record has entered a state of its window, or EXPIRED with its keys erased (R61, R64). -/
def Keyring.entered (k : Keyring) (i : SlotNo) (b : Bundle) (st : BundleState) (now : Nat) : Keyring :=
  { k with
    slots :=
      k.slots.set i
        (some
          { b with
            state := st, entryTime := now
            poolRefs := if st == .expired then [] else b.poolRefs
            wrappedKeys := if st == .expired then [] else b.wrappedKeys })
    pool := if st == .expired then freeCells b.poolRefs k.pool else k.pool }

/-- The notice that entry to a state calls for (R61). -/
def entryNotices (i : SlotNo) : BundleState → List Notice
  | .live => [.bundleLive i]
  | .closing => [.bundleClosing i]
  | .expired => [.bundleExpired i]
  | _ => []

theorem enterWindow_told (i : SlotNo) (b : Bundle) (st : BundleState) (s : State) :
    enterWindow i b st s = told (entryNotices i st) { s with keyring := s.keyring.entered i b st s.clock.now } := by
  cases st <;> rfl

/-- The keyring after the last reel of a bundle has passed (R49). -/
def Keyring.finished (k : Keyring) (i : SlotNo) (b : Bundle) (st : BundleState) (now : Nat) : Keyring :=
  { k with intakeQueue := k.intakeQueue.filter fun t => t != i }.entered i { b with wrappedKeys := [] } st now

theorem endIntake_told (i : SlotNo) (b : Bundle) (s : State) :
    endIntake i b s =
      told (.bundleReady i :: entryNotices i (windowCase s.clock.now s.margin.margin b))
        { s with
          keyring := s.keyring.finished i b (windowCase s.clock.now s.margin.margin b) s.clock.now } := by
  have same : windowCase s.clock.now s.margin.margin { b with wrappedKeys := [] } =
      windowCase s.clock.now s.margin.margin b := rfl
  have late : { post (.bundleReady i) (leaveQueue i s) with
      keyring := (post (.bundleReady i) (leaveQueue i s)).keyring.entered i { b with wrappedKeys := [] }
        (windowCase s.clock.now s.margin.margin b) (post (.bundleReady i) (leaveQueue i s)).clock.now } =
      post (.bundleReady i)
        { s with keyring := s.keyring.finished i b (windowCase s.clock.now s.margin.margin b) s.clock.now } := by
    rw [← post_withKeyring, post_keyring, post_clock]
    rfl
  unfold endIntake
  dsimp only
  rw [same, enterWindow_told, late, told_cons]

theorem failReel_told (i : SlotNo) (b : Bundle) (s : State) :
    failReel i b s =
      told [.bundleFailed i]
        { s with
          keyring :=
            { s.keyring with
              slots :=
                s.keyring.slots.set i
                  (some { b with state := .failed, entryTime := s.clock.now, poolRefs := [], wrappedKeys := [] })
              pool := freeCells b.poolRefs s.keyring.pool
              intakeQueue := s.keyring.intakeQueue.filter fun t => t != i } } := rfl

/-- The pool with the next reel key of a bundle in its reserved entry (R48). -/
theorem fillReel_eq (b : Bundle) (key : KeyMaterial) (pool : List PoolCell) :
    b.fillReel key pool =
      pool.map fun c => if some c.number = b.poolRefs[b.reelsUnwrapped]? then { c with key := some key } else c := by
  unfold Bundle.fillReel
  split
  next number reserved =>
    refine List.map_congr_left fun c _ => ?_
    simp [reserved]
  next unreserved => simp [unreserved]

/-- A reel that is not the last of its bundle passes. -/
theorem passReel_more {b : Bundle} (more : b.reelsUnwrapped + 1 < b.reelCount) (i : SlotNo) (key : KeyMaterial)
    (s : State) :
    passReel i b key s =
      told []
        { s with
          keyring :=
            { s.keyring with
              slots := s.keyring.slots.set i (some b.grown), pool := b.fillReel key s.keyring.pool } } := by
  rw [passReel_eq, if_pos more]
  rfl

/-- The last reel of a bundle passes. -/
theorem passReel_last {b : Bundle} (last : b.reelCount ≤ b.reelsUnwrapped + 1) (i : SlotNo) (key : KeyMaterial)
    (s : State) :
    passReel i b key s =
      told (.bundleReady i :: entryNotices i (windowCase s.clock.now s.margin.margin b))
        { s with
          keyring :=
            { s.keyring with pool := b.fillReel key s.keyring.pool }.finished i b.grown
              (windowCase s.clock.now s.margin.margin b) s.clock.now } := by
  have same : windowCase s.clock.now s.margin.margin b.grown = windowCase s.clock.now s.margin.margin b := rfl
  rw [passReel_eq, if_neg (by omega), endIntake_told]
  simp only [setBundle_clock, setBundle_margin, State.withPool]
  rw [same]
  refine congrArg (told _) (congrArg (fun k => { s with keyring := k }) ?_)
  unfold Keyring.finished Keyring.entered
  simp only [setBundle_keyring_slots, Vector.set_set]
  rfl

/-! ### The completion (R92) -/

/-- The intake job that is presented with `queued` waiting and none in service (R47). -/
def askedJobs (k : Keyring) (queued : List Job) : List Job :=
  match k.intakeQueue with
  | [] => []
  | head :: _ =>
    match k.slots[head] with
    | none => []
    | some b =>
      if queued.any fun q => q.item.isIntake then []
      else [{ item := .intake head (b.reelsUnwrapped + 1), inSnapshot := false }]

theorem presentIntake_idle {s : State} (idle : s.engine.inService = none) :
    presentIntake s =
      { s with engine := { s.engine with queued := s.engine.queued ++ askedJobs s.keyring s.engine.queued } } := by
  have exists_ : intakeJobExists s.engine = s.engine.queued.any fun q => q.item.isIntake := by
    rw [intakeJobExists, idle, Option.any_none, Bool.or_false]
  have nothing : s = { s with engine := { s.engine with queued := s.engine.queued ++ [] } } := by
    rw [List.append_nil]
  unfold presentIntake askedJobs
  rw [exists_]
  cases s.keyring.intakeQueue with
  | nil => exact nothing
  | cons head rest =>
    dsimp only
    cases s.keyring.slots[head] with
    | none => exact nothing
    | some b =>
      dsimp only
      cases s.engine.queued.any fun q => q.item.isIntake with
      | true => exact nothing
      | false => rfl

/-- The state after an intake completion that has left the keyring `k`: the next reel is presented and a grant made. -/
def intakeFree (s : State) (k : Keyring) : State :=
  { s with
    keyring := k
    engine :=
      { s.engine with inService := none, queued := s.engine.queued ++ askedJobs k s.engine.queued } }

/-- What the result of an intake job makes of the state, the pending SYNC set aside (R48, R92, R97). -/
def intakeTaken (outcome : Option KeyMaterial) (j : ServiceJob) (s : State) : State :=
  if j.discard then s else deliverIntake outcome j s

theorem exec_intakeUnwrapComplete {s : State} {j : ServiceJob} (on : s.powered = true)
    (service : s.engine.inService = some j) (intake : j.job.item.isIntake = true) (outcome : Option KeyMaterial) :
    exec (.intakeUnwrapComplete outcome) s =
      .next (grant (presentIntake (finishJob (deliverIntake outcome) j s))) := by
  refine congrArg Host.Outcome.next ?_
  unfold completeJob
  rw [service]
  exact if_pos (by simp [on, intake])

section
variable {s : State} {j : ServiceJob} {outcome : Option KeyMaterial} {k : Keyring} {notices : List Notice}
  (taken : intakeTaken outcome j (s.offService.withSync none) =
    told notices { s.offService.withSync none with keyring := k })
include taken

/-- The SYNC that the completion releases is released after the notices of its result are posted. -/
theorem finishJob_intake :
    finishJob (deliverIntake outcome) j s =
      releaseSync { told notices { s with keyring := k } with engine := { s.engine with inService := none } } := by
  have off : { s.offService.withSync none with keyring := k } =
      ({ s with keyring := k } : State).beside k { s.engine with inService := none } none := rfl
  have finished : finishJob (deliverIntake outcome) j s =
      releaseSync ((intakeTaken outcome j (s.offService.withSync none)).withSync s.link.pendingSync) := rfl
  have keyring : (told notices { s with keyring := k }).keyring = k := by rw [told_frame]
  have pending : (told notices { s with keyring := k }).link.pendingSync = s.link.pendingSync :=
    told_link_pendingSync ..
  rw [finished, taken, off, told_beside]
  generalize told notices { s with keyring := k } = u at keyring pending
  rw [← keyring, ← pending]
  rfl

theorem intake_unasked (link : LinkOk s) (sync : SyncOk s) :
    Unasked s (grant (presentIntake (finishJob (deliverIntake outcome) j s))) := by
  have engine : (told notices { s with keyring := k }).engine = s.engine := by rw [told_frame]
  have placed : Stirred s { s with keyring := k } := (Stirred.refl sync).congr rfl rfl rfl
  have left : Stirred s (finishJob (deliverIntake outcome) j s) := by
    rw [finishJob_intake taken]
    refine (placed.told link.canHand notices).releaseSync link.canHand ?_
    rw [engine]
    exact Nat.le_add_right ..
  have presented : Stirred s (presentIntake (finishJob (deliverIntake outcome) j s)) :=
    left.requeued (snapshotLeft_presentIntake _) (by simp) (by simp)
  exact (presented.requeued (snapshotLeft_grant _) (by simp) (by simp)).toUnasked

/-- The state after the completion is that of a grant once the next reel is presented, but for the link. -/
theorem intake_completes :
    (grant (presentIntake (finishJob (deliverIntake outcome) j s))).link.notices =
        withNotices notices s.link.notices ∧
      grant (presentIntake (finishJob (deliverIntake outcome) j s)) =
        { intakeFree s k with
          engine := (grant (intakeFree s k)).engine
          lanes := (grant (intakeFree s k)).lanes
          link := (grant (presentIntake (finishJob (deliverIntake outcome) j s))).link } := by
  have posted : (finishJob (deliverIntake outcome) j s).link.notices = withNotices notices s.link.notices := by
    rw [finishJob_intake taken, releaseSync_link_notices, told_link_notices]
  have left : finishJob (deliverIntake outcome) j s =
      { s with
        keyring := k, engine := { s.engine with inService := none }
        link := (finishJob (deliverIntake outcome) j s).link } := by
    rw [finishJob_intake taken, releaseSync_frame, told_frame]
  refine ⟨by simpa using posted, ?_⟩
  generalize finishJob (deliverIntake outcome) j s = v at left
  have idle :
      ({ s with keyring := k, engine := { s.engine with inService := none } } : State).engine.inService = none := rfl
  have free : presentIntake v = { intakeFree s k with link := v.link } := by
    rw [left]
    exact (presentIntake_withLink v.link { s with keyring := k, engine := { s.engine with inService := none } }).trans
      (by rw [presentIntake_idle idle]; rfl)
  rw [free, grant_withLink]
  conv_lhs => rw [grant_frame]

end

/-! ### Each case of the result -/

/-- The result of the intake job leaves the keyring `k` and posts `notices`. -/
def IntakeTakes (outcome : Option KeyMaterial) (j : ServiceJob) (s : State) (k : Keyring) (notices : List Notice) :
    Prop :=
  intakeTaken outcome j (s.offService.withSync none) = told notices { s.offService.withSync none with keyring := k }

section
variable {s : State} {j : ServiceJob} {outcome : Option KeyMaterial} {i : SlotNo} {reel : Nat} {b : Bundle}

theorem intakeTakes_discard (discard : j.discard = true) : IntakeTakes outcome j s s.keyring [] := if_pos discard

/-- A result that is wanted goes to the bundle at the head of the queue, if its record is in UNWRAPPING. -/
theorem intakeTaken_wanted (wanted : j.discard = false) (item : j.job.item = .intake i reel) (u : State) :
    intakeTaken outcome j u =
      match u.keyring.slots[i] with
      | none => u
      | some b =>
        if b.state = .unwrapping ∧ u.keyring.intakeQueue.head? = some i then
          match outcome with
          | some key => passReel i b key u
          | none => failReel i b u
        else u := by
  unfold intakeTaken deliverIntake
  rw [if_neg (by simp [wanted]), item] <;> rfl

theorem intakeTakes_absent (wanted : j.discard = false) (item : j.job.item = .intake i reel)
    (absent : s.keyring.slots[i] = none) : IntakeTakes outcome j s s.keyring [] := by
  have empty : (s.offService.withSync none).keyring.slots[i] = none := absent
  unfold IntakeTakes
  rw [intakeTaken_wanted wanted item, empty]
  rfl

section
variable (wanted : j.discard = false) (item : j.job.item = .intake i reel) (held : s.keyring.slots[i] = some b)
include wanted item held

theorem intakeTakes_elsewhere (other : ¬(b.state = .unwrapping ∧ s.keyring.intakeQueue.head? = some i)) :
    IntakeTakes outcome j s s.keyring [] := by
  have record : (s.offService.withSync none).keyring.slots[i] = some b := held
  unfold IntakeTakes
  rw [intakeTaken_wanted wanted item, record]
  exact if_neg other

theorem intakeTaken_head (unwrapping : b.state = .unwrapping) (head : s.keyring.intakeQueue.head? = some i) :
    intakeTaken outcome j (s.offService.withSync none) =
      match outcome with
      | some key => passReel i b key (s.offService.withSync none)
      | none => failReel i b (s.offService.withSync none) := by
  have record : (s.offService.withSync none).keyring.slots[i] = some b := held
  rw [intakeTaken_wanted wanted item, record]
  exact if_pos ⟨unwrapping, head⟩

theorem intakeTakes_failed (unwrapping : b.state = .unwrapping) (head : s.keyring.intakeQueue.head? = some i)
    (failed : outcome = none) :
    IntakeTakes outcome j s
      { s.keyring with
        slots :=
          s.keyring.slots.set i
            (some { b with state := .failed, entryTime := s.clock.now, poolRefs := [], wrappedKeys := [] })
        pool := s.keyring.pool.filter fun c => decide (c.number ∉ b.poolRefs)
        intakeQueue := s.keyring.intakeQueue.filter fun t => t != i }
      [.bundleFailed i] := by
  unfold IntakeTakes
  rw [intakeTaken_head wanted item held unwrapping head, failed, ← freeCells_eq]
  exact failReel_told ..

theorem intakeTakes_more (unwrapping : b.state = .unwrapping) (head : s.keyring.intakeQueue.head? = some i)
    {key : KeyMaterial} (passed : outcome = some key) (more : b.reelsUnwrapped + 1 < b.reelCount) :
    IntakeTakes outcome j s
      { s.keyring with
        slots := s.keyring.slots.set i (some b.grown)
        pool :=
          s.keyring.pool.map fun c =>
            if some c.number = b.poolRefs[b.reelsUnwrapped]? then { c with key := some key } else c }
      [] := by
  unfold IntakeTakes
  rw [intakeTaken_head wanted item held unwrapping head, passed, ← fillReel_eq]
  exact passReel_more more ..

theorem intakeTakes_last (unwrapping : b.state = .unwrapping) (head : s.keyring.intakeQueue.head? = some i)
    {key : KeyMaterial} (passed : outcome = some key) (last : b.reelCount ≤ b.reelsUnwrapped + 1) :
    IntakeTakes outcome j s
      (({ s.keyring with
          pool :=
            s.keyring.pool.map fun c =>
              if some c.number = b.poolRefs[b.reelsUnwrapped]? then { c with key := some key } else c } : Keyring).finished
        i b.grown (windowCase s.clock.now s.margin.margin b) s.clock.now)
      (.bundleReady i :: entryNotices i (windowCase s.clock.now s.margin.margin b)) := by
  unfold IntakeTakes
  rw [intakeTaken_head wanted item held unwrapping head, passed, ← fillReel_eq]
  exact passReel_last last ..

end

/-- Every result leaves some keyring and posts some notices. -/
theorem intakeTakes_some (item : j.job.item = .intake i reel) : ∃ k notices, IntakeTakes outcome j s k notices := by
  cases wanted : j.discard with
  | true => exact ⟨_, _, intakeTakes_discard wanted⟩
  | false =>
    cases held : s.keyring.slots[i] with
    | none => exact ⟨_, _, intakeTakes_absent wanted item held⟩
    | some b =>
      by_cases here : b.state = .unwrapping ∧ s.keyring.intakeQueue.head? = some i
      · obtain ⟨unwrapping, head⟩ := here
        cases result : outcome with
        | none =>
          rw [← result]
          exact ⟨_, _, intakeTakes_failed wanted item held unwrapping head result⟩
        | some key =>
          rw [← result]
          by_cases more : b.reelsUnwrapped + 1 < b.reelCount
          · exact ⟨_, _, intakeTakes_more wanted item held unwrapping head result more⟩
          · exact ⟨_, _, intakeTakes_last wanted item held unwrapping head result (not_lt.1 more)⟩
      · exact ⟨_, _, intakeTakes_elsewhere wanted item held here⟩

end

theorem Keyring.finished_eq (k : Keyring) (i : SlotNo) (b : Bundle) (st : BundleState) (now : Nat) :
    k.finished i b st now =
      { k with
        slots :=
          k.slots.set i
            (some
              { b with
                state := st, entryTime := now, wrappedKeys := []
                poolRefs := if st == .expired then [] else b.poolRefs })
        pool := if st == .expired then k.pool.filter fun c => decide (c.number ∉ b.poolRefs) else k.pool
        intakeQueue := k.intakeQueue.filter fun t => t != i } := by
  unfold finished entered
  rw [ite_self, freeCells_eq]

theorem withNotices_entry (i : SlotNo) (st : BundleState) (pending : Vector KindSet 98) :
    withNotices (entryNotices i st) pending =
      match st with
      | .live => withNotice (.bundleLive i) pending
      | .closing => withNotice (.bundleClosing i) pending
      | .expired => withNotice (.bundleExpired i) pending
      | _ => pending := by
  cases st <;> rfl

theorem exec_intakeUnwrapComplete_idle {s : State}
    (idle : s.powered = false ∨ ∀ j ∈ s.engine.inService, ∀ i reel, j.job.item ≠ .intake i reel)
    (outcome : Option KeyMaterial) : exec (.intakeUnwrapComplete outcome) s = .next s := by
  refine congrArg Host.Outcome.next ?_
  unfold completeJob
  cases service : s.engine.inService with
  | none => rfl
  | some j =>
    refine if_neg fun goes => ?_
    obtain ⟨on, intake⟩ := Bool.and_eq_true_iff.1 goes
    obtain off | other := idle
    · cases on.symm.trans off
    · cases item : j.job.item with
      | intake i reel => exact other j service i reel item
      | rewrap | bind => simp [item, JobItem.isIntake] at intake

/-- Settles O56: the result leaves a keyring and posts notices, case by case as `IntakeTakes` has it; the session then
shows what posts and one release may, and the rest is a grant's. -/
theorem intakeCompletes : Obligations.IntakeCompletes := by
  refine ⟨fun outcome s idle => exec_intakeUnwrapComplete_idle idle outcome, ?_⟩
  intro outcome s j slot reel on link sync service item now m judgedState after
  have intake : j.job.item.isIntake = true := by
    rw [item]
    rfl
  have completes {k : Keyring} {notices : List Notice} (taken : IntakeTakes outcome j s k notices) :
      after (grant (presentIntake (finishJob (deliverIntake outcome) j s))) k
        (withNotices notices s.link.notices) := intake_completes taken
  have judged (b : Bundle) : windowCase s.clock.now s.margin.margin b = judgedState b := rfl
  obtain ⟨k, notices, taken⟩ := intakeTakes_some (outcome := outcome) (s := s) item
  refine ⟨_, exec_intakeUnwrapComplete on service intake outcome, intake_unasked taken link sync, fun quiet => ?_,
    fun wanted b held => ⟨fun other => completes (intakeTakes_elsewhere wanted item held other),
      fun unwrapping head => ⟨fun failed => ?_, fun key passed => ⟨fun more => ?_, fun last => ?_⟩⟩⟩⟩
  · cases wanted : j.discard with
    | true => exact completes (intakeTakes_discard wanted)
    | false => exact completes (intakeTakes_absent wanted item (quiet.resolve_left (by simp [wanted])))
  · exact completes (intakeTakes_failed wanted item held unwrapping head failed)
  · exact completes (intakeTakes_more wanted item held unwrapping head passed more)
  · have done := completes (intakeTakes_last wanted item held unwrapping head passed last)
    rw [judged, Keyring.finished_eq] at done
    have posted : withNotices (.bundleReady slot :: entryNotices slot (judgedState b)) s.link.notices = _ :=
      withNotices_entry slot (judgedState b) (withNotice (.bundleReady slot) s.link.notices)
    rw [posted] at done
    exact done

end Sys2Proof.Machine

/-! ## How a screening ends (O50) -/

namespace Sys2Proof.Machine

/-! ### Jobs dropped -/

/-- The engine once the jobs on the items `p` names are no longer wanted: withdrawn, or marked in service (R93, R94). -/
def Engine.without (p : JobItem → Bool) (e : Engine) : Engine :=
  { e with
    inService := e.inService.map fun j => if p j.job.item then { j with discard := true } else j
    queued := e.queued.filter fun j => !p j.item }

theorem dropJobs_engine_without (p : JobItem → Bool) (s : State) : (dropJobs p s).engine = s.engine.without p :=
  dropJobs_engine_eq p s

theorem Engine.without_without (p q : JobItem → Bool) (e : Engine) :
    (e.without p).without q = e.without fun i => p i || q i := by
  unfold without
  rw [Option.map_map, List.filter_filter]
  congr 1
  · refine Option.map_congr fun j _ => ?_
    cases hp : p j.job.item <;> cases hq : q j.job.item <;> simp [hp, hq]
  · exact List.filter_congr fun j _ => by rw [Bool.not_or, Bool.and_comm]

/-- Whether a job is a rewrap for a lane. -/
def JobItem.isRewrapOn (l : LaneNo) : JobItem → Bool
  | .rewrap m _ _ _ => decide (m = l)
  | _ => false

/-- A lane's rewraps are those of its two slots. -/
theorem JobItem.isRewrapOf_or (l : LaneNo) (i : JobItem) :
    (i.isRewrapOf l .x || i.isRewrapOf l .y) = i.isRewrapOn l := by
  cases i with
  | rewrap m n p t =>
    cases n with
    | x | y => by_cases same : m = l <;> simp [isRewrapOf, isRewrapOn, same]
  | intake | bind => rfl

/-! ### Lanes and uses -/

theorem modifyLane_of_held {l : LaneNo} {s : State} {sc : Screening} (held : s.lanes[l] = some sc)
    (f : Screening → Screening) : modifyLane l f s = setLane l (some (f sc)) s := by
  unfold modifyLane
  rw [held]

theorem emptySlot_lanes_of_held {l : LaneNo} {s : State} {sc : Screening} (held : s.lanes[l] = some sc)
    (n : SlotName) : (emptySlot l n s).lanes = s.lanes.set l (some (sc.withSlot n .empty)) := by
  rw [emptySlot, dropJobs_lanes, modifyLane_of_held held, setLane_lanes]

theorem emptySlot_engine_without (l : LaneNo) (n : SlotName) (s : State) :
    (emptySlot l n s).engine = s.engine.without (JobItem.isRewrapOf l n) := by
  rw [emptySlot, dropJobs_engine_without, modifyLane_engine]

/-- The keyring once a use of the bundle in a slot has been returned (R67). -/
def Keyring.returned (k : Keyring) (i : SlotNo) (now : Nat) : Keyring :=
  match k.slots[i] with
  | none => k
  | some b =>
    if b.state = .revoked ∧ b.useCount ≤ 1 then
      { k with
        slots :=
          k.slots.set i
            (some { b with useCount := 0, revocationMode := none, entryTime := now, poolRefs := [], wrappedKeys := [] })
        pool := k.pool.filter fun c => decide (c.number ∉ b.poolRefs) }
    else { k with slots := k.slots.set i (some { b with useCount := b.useCount - 1 }) }

theorem returnUse_keyring (i : SlotNo) (s : State) :
    (returnUse i s).keyring = s.keyring.returned i s.clock.now := by
  unfold returnUse Keyring.returned
  cases s.keyring.slots[i] with
  | none => rfl
  | some b =>
    have last : b.state = .revoked ∧ b.useCount - 1 = 0 ↔ b.state = .revoked ∧ b.useCount ≤ 1 := by
      rw [Nat.sub_eq_zero_iff_le]
    dsimp only
    by_cases buried : b.state = .revoked ∧ b.useCount ≤ 1
    · rw [if_pos (last.2 buried), if_pos buried, ← freeCells_eq]
      rfl
    · rw [if_neg (mt last.1 buried), if_neg buried]
      rfl

/-! ### The end -/

/-- The record of a lane that has ended (R112). -/
def Screening.ended (sc : Screening) (status : LaneStatus) (cause : EndCause) (now : Nat) : Screening :=
  { sc with status, slotX := .empty, slotY := .empty, amendment := none, ending := some (cause, now) }

section
variable {l : LaneNo} {s : State} {sc : Screening} (held : s.lanes[l] = some sc) (status : LaneStatus)
  (cause : EndCause) (notice : Notice)
include held

theorem endLane_lanes_of_held :
    (endLane l status cause notice s).lanes = s.lanes.set l (some (sc.ended status cause s.clock.now)) := by
  have first : (emptySlot l .x s).lanes[l] = some (sc.withSlot .x .empty) := by
    rw [emptySlot_lanes_of_held held]
    exact lanes_set_same ..
  have second : (emptySlot l .y (emptySlot l .x s)).lanes[l] = some ((sc.withSlot .x .empty).withSlot .y .empty) := by
    rw [emptySlot_lanes_of_held first]
    exact lanes_set_same ..
  unfold endLane
  rw [held]
  dsimp only
  rw [post_lanes, returnUse_lanes, modifyLane_of_held second, setLane_lanes, emptySlot_lanes_of_held first,
    emptySlot_lanes_of_held held, Vector.set_set, Vector.set_set]
  rfl

theorem endLane_engine_of_held :
    (endLane l status cause notice s).engine = s.engine.without (JobItem.isRewrapOn l) := by
  unfold endLane
  rw [held]
  dsimp only
  rw [post_engine, returnUse_engine, modifyLane_engine, emptySlot_engine_without, emptySlot_engine_without,
    Engine.without_without]
  simp only [JobItem.isRewrapOf_or]

theorem endLane_keyring_of_held :
    (endLane l status cause notice s).keyring = s.keyring.returned sc.bundleSlot s.clock.now := by
  unfold endLane
  rw [held]
  dsimp only
  rw [post_keyring, returnUse_keyring]
  simp

theorem endLane_notices_of_held :
    (endLane l status cause notice s).link.notices = withNotice notice s.link.notices := by
  unfold endLane
  rw [held]
  simp

/-- What ending a lane does is what R112 gives. -/
theorem endLane_ends : LaneEnds l sc status cause notice s (endLane l status cause notice s) where
  lanes := endLane_lanes_of_held held ..
  engine := by
    rw [endLane_engine_of_held held]
    unfold Engine.without
    congr 1
    · refine Option.map_congr fun j _ => ?_
      cases j.job.item <;> simp [JobItem.isRewrapOn]
    · refine List.filter_congr fun j _ => ?_
      cases j.item <;> simp [JobItem.isRewrapOn]
  keyring := endLane_keyring_of_held held ..
  notices := endLane_notices_of_held held ..

end

/-- What a lane's end shows is shown as well where the link differs in more than the notices. -/
theorem LaneEnds.of_link {l : LaneNo} {sc : Screening} {status : LaneStatus} {cause : EndCause} {notice : Notice}
    {s t u : State} (h : LaneEnds l sc status cause notice (withoutOldest s) t)
    (same : u = { t with link := u.link }) (notices : u.link.notices = t.link.notices) :
    LaneEnds l sc status cause notice s u where
  lanes := by
    rw [same]
    exact h.lanes
  engine := by
    rw [same]
    exact h.engine
  keyring := by
    rw [same]
    exact h.keyring
  notices := notices.trans h.notices

/-! ### END_SCREENING and CLOSE_LANE (R113, R114) -/

section
variable {r : Request} {rest : List Request} {rt : Route} {s : State} {l : LaneNo}

theorem exec_endScreening_of_parsed (serving : Serving .endScreening r rest rt s) (read : parseLane r.body = some l) :
    exec .endScreening s = .next (endScreening l r (withoutOldest s)) := by
  refine congrArg Host.Outcome.next ((serveWith_of_serving serving _ _).trans ?_)
  rw [read]

theorem exec_closeLane_of_parsed (serving : Serving .closeLane r rest rt s) (read : parseLane r.body = some l) :
    exec .closeLane s = .next (closeLane l r (withoutOldest s)) := by
  refine congrArg Host.Outcome.next ((serveWith_of_serving serving _ _).trans ?_)
  rw [read]

/-- A lane that runs no screening is not ended. -/
theorem endScreening_refused (taking : Taking r rest rt s)
    (past : ∀ sc ∈ s.lanes[l], sc.status = .ended ∨ sc.status = .faulted) :
    endScreening l r (withoutOldest s) = replied r rest rt .notRunning [] s := by
  rw [← answer_withoutOldest taking]
  unfold endScreening
  rw [withoutOldest_lanes]
  cases held : s.lanes[l] with
  | none => rfl
  | some sc =>
    obtain status | status := past sc held
    · simp only [status]
    · simp only [status]

/-- The end of a screening that a request asks for, and its answer. -/
theorem answer_finishLane (taking : Taking r rest rt s) (sync : SyncOk s) {sc : Screening} (held : s.lanes[l] = some sc)
    (cause : EndCause) (body : List Byte) :
    let t := answer r .ok body (finishLane l cause (withoutOldest s))
    LaneEnds l sc .ended cause (.laneEnded l) s t ∧
      t = { s with keyring := t.keyring, engine := t.engine, lanes := t.lanes, link := t.link } ∧
      Answered r rest rt .ok body s t := by
  intro t
  have can : CanHand (withoutOldest s) := fun _ => ⟨rt, taking.routed⟩
  have start : Stirred (withoutOldest s) (withoutOldest s) := Stirred.refl sync
  have ends : LaneEnds l sc .ended cause (.laneEnded l) (withoutOldest s) (finishLane l cause (withoutOldest s)) :=
    endLane_ends (s := withoutOldest s) held ..
  refine ⟨ends.of_link (answer_frame ..) (answer_link_notices ..), ?_, (start.endLane can l ..).answered taking ..⟩
  have framed := finishLane_frame l cause (withoutOldest s)
  dsimp only [t]
  rw [answer_keyring, answer_engine, answer_lanes]
  generalize finishLane l cause (withoutOldest s) = done at framed ⊢
  exact answer_over (s := { s with keyring := done.keyring, engine := done.engine, lanes := done.lanes }) framed ..

theorem endScreening_of_active {sc : Screening} (held : s.lanes[l] = some sc)
    (active : sc.status = .running ∨ sc.status = .stopping) :
    endScreening l r (withoutOldest s) =
      answer r .ok ((if sc.status = .running then 1 else 3) :: beBytes 4 s.clock.now)
        (finishLane l (if sc.status = .running then .completed else .revoked) (withoutOldest s)) := by
  unfold endScreening
  rw [withoutOldest_lanes, held]
  obtain status | status := active
  · simp only [status]
    rfl
  · simp only [status]
    rfl

theorem closeLane_answers (taking : Taking r rest rt s) :
    closeLane l r (withoutOldest s) =
      match s.lanes[l] with
      | none => replied r rest rt .notEnded [] s
      | some sc =>
        if sc.status = .ended ∨ sc.status = .faulted then
          { replied r rest rt .ok [] s with lanes := s.lanes.set l none }
        else replied r rest rt .notEnded [] s := by
  have refused := answer_withoutOldest taking .notEnded []
  have closed : answer r .ok [] (setLane l none (withoutOldest s)) =
      { replied r rest rt .ok [] s with lanes := s.lanes.set l none } := by
    rw [answer_after taking .ok [] (by rfl) (by rfl)]
    rfl
  unfold closeLane
  rw [withoutOldest_lanes]
  cases s.lanes[l] with
  | none => exact refused
  | some sc =>
    cases status : sc.status with
    | running | stopping => simpa [status] using refused
    | ended | faulted => simpa [status] using closed

end

/-- Settles O50: a request ends its lane as `endLane_ends` has it, and the session shows what such an event may. -/
theorem lanesEndAndClose : Obligations.LanesEndAndClose := by
  intro r rest rt s
  refine ⟨fun serving => ⟨fun malformed => ?_, fun l read => ⟨fun past => ?_, fun sc held active sync => ?_⟩⟩,
    fun serving => ⟨fun malformed => ?_, fun l read => ?_⟩⟩
  · exact congrArg Host.Outcome.next (serveWith_malformed serving malformed _)
  · rw [exec_endScreening_of_parsed serving read, endScreening_refused serving.toTaking past]
  · rw [exec_endScreening_of_parsed serving read, endScreening_of_active held active]
    exact ⟨_, rfl, answer_finishLane serving.toTaking sync held ..⟩
  · exact congrArg Host.Outcome.next (serveWith_malformed serving malformed _)
  · exact (exec_closeLane_of_parsed serving read).trans (congrArg _ (closeLane_answers serving.toTaking))

end Sys2Proof.Machine


/-! ## The uses that the lanes hold (O11)

The use count of a record is compared with the lanes through `State.useAt`: the slot whose bundle a lane uses, if it uses
any. -/

namespace Sys2Proof.Machine

/-! ### Counting uses (R65) -/

/-- The slot whose bundle a screening uses, while it is RUNNING or STOPPING. -/
def Screening.use (sc : Screening) : Option SlotNo := if sc.active then some sc.bundleSlot else none

/-- The slot whose bundle a lane uses. -/
def State.useAt (s : State) (l : LaneNo) : Option SlotNo := (s.lanes[l]).bind Screening.use

theorem useAt_of_held {s : State} {l : LaneNo} {sc : Screening} (held : s.lanes[l] = some sc) : s.useAt l = sc.use := by
  rw [State.useAt, held, Option.bind_some]

theorem useAt_of_closed {s : State} {l : LaneNo} (closed : s.lanes[l] = none) : s.useAt l = none := by
  rw [State.useAt, closed, Option.bind_none]

theorem useAt_setLane_same (l : LaneNo) (sc : Option Screening) (s : State) :
    (setLane l sc s).useAt l = sc.bind Screening.use := by
  rw [State.useAt, setLane_lanes, lanes_set_same]

theorem Screening.use_of_active {sc : Screening} (active : sc.active = true) : sc.use = some sc.bundleSlot :=
  if_pos active

theorem Screening.use_of_not_active {sc : Screening} (idle : sc.active = false) : sc.use = none := by
  simp [use, idle]

theorem Screening.active_iff {sc : Screening} : sc.active = true ↔ sc.status = .running ∨ sc.status = .stopping := by
  simp [active]

theorem usesOf_eq (s : State) (i : SlotNo) : usesOf s i = (List.finRange 32).countP fun l => s.useAt l == some i := by
  refine List.countP_congr fun l _ => ?_
  unfold State.useAt
  cases s.lanes[l] with
  | none => simp
  | some sc => cases active : sc.active <;> simp [Screening.use, active]

theorem usesOf_congr {s t : State} (same : ∀ l, t.useAt l = s.useAt l) (i : SlotNo) : usesOf t i = usesOf s i := by
  simp only [usesOf_eq, same]

/-- Where one lane changes its use, the counts change by that lane's. -/
theorem usesOf_changed {s t : State} {l : LaneNo} (others : ∀ m, m ≠ l → t.useAt m = s.useAt m) (i : SlotNo) :
    usesOf t i + (if s.useAt l = some i then 1 else 0) = usesOf s i + if t.useAt l = some i then 1 else 0 := by
  have split (u : State) : usesOf u i =
      ((List.finRange 32).erase l).countP (fun m => u.useAt m == some i) + if u.useAt l = some i then 1 else 0 := by
    rw [usesOf_eq, (List.perm_cons_erase (List.mem_finRange l)).countP_eq, List.countP_cons]
    simp
  have rest : ((List.finRange 32).erase l).countP (fun m => t.useAt m == some i) =
      ((List.finRange 32).erase l).countP fun m => s.useAt m == some i := by
    refine List.countP_congr fun m hm => ?_
    rw [others m ((List.nodup_finRange 32).mem_erase_iff.1 hm).1]
  rw [split s, split t, rest]
  omega

/-- A slot that some lane uses has a use. -/
theorem usesOf_pos {s : State} {l : LaneNo} {i : SlotNo} (use : s.useAt l = some i) : 0 < usesOf s i := by
  rw [usesOf_eq, List.countP_pos_iff]
  exact ⟨l, List.mem_finRange l, by simp [use]⟩

theorem usesOf_of_closed {s : State} (closed : ∀ l : LaneNo, s.lanes[l] = none) (i : SlotNo) : usesOf s i = 0 := by
  rw [usesOf_eq, List.countP_eq_zero]
  intro l _
  simp [useAt_of_closed (closed l)]

/-! ### What records and lanes keep -/

/-- Only a RUNNING lane has slots that are QUEUED or UNWRAPPING (R88). -/
def Screening.Settled (sc : Screening) : Prop := sc.status ≠ .running → ∀ n, (sc.slot n).hasJob = false

/-- A record fits `n` uses: it counts them and allows for them, and has none in a state of no use (R39, R65). -/
structure Bundle.FitsUses (b : Bundle) (n : Nat) : Prop where
  counted : b.useCount = n
  allowed : b.useCount ≤ b.allowance
  unused : b.state = .unwrapping ∨ b.state = .waiting ∨ b.state = .expired ∨ b.state = .failed → b.useCount = 0

/-- A slot's record, or its lack of one, fits `n` uses. -/
def RecordFits : Option Bundle → Nat → Prop
  | none, n => n = 0
  | some b, n => b.FitsUses n

/-- The records fit the uses of the lanes, and the lanes are settled. -/
structure UsesFit (s : State) : Prop where
  records : ∀ i : SlotNo, RecordFits s.keyring.slots[i] (usesOf s i)
  settled : ∀ l : LaneNo, ∀ sc ∈ s.lanes[l], sc.Settled

theorem UsesFit.record {s : State} (h : UsesFit s) {i : SlotNo} {b : Bundle} (held : s.keyring.slots[i] = some b) :
    b.FitsUses (usesOf s i) := by
  have fits := h.records i
  rwa [held] at fits

theorem UsesFit.empty {s : State} (h : UsesFit s) {i : SlotNo} (empty : s.keyring.slots[i] = none) :
    usesOf s i = 0 := by
  have fits := h.records i
  rwa [empty] at fits

/-- With every lane CLOSED, records with no use fit. -/
theorem UsesFit.of_closed {s : State} (closed : ∀ l : LaneNo, s.lanes[l] = none)
    (unused : ∀ (i : SlotNo) (b : Bundle), s.keyring.slots[i] = some b → b.useCount = 0) : UsesFit s where
  records i := by
    rw [usesOf_of_closed closed]
    cases held : s.keyring.slots[i] with
    | none => rfl
    | some b =>
      have zero := unused i b held
      exact { counted := zero, allowed := zero ▸ Nat.zero_le _, unused := fun _ => zero }
  settled l sc held := by simp [closed l] at held

theorem Screening.settled_iff {sc : Screening} :
    sc.Settled ↔ (sc.status ≠ .running → sc.slotX.hasJob = false ∧ sc.slotY.hasJob = false) := by
  refine imp_congr_right fun _ => ⟨fun free => ⟨free .x, free .y⟩, fun free n => ?_⟩
  cases n
  · exact free.1
  · exact free.2

/-- With main power on the condition on uses is `UsesFit`, and with it off that every lane is CLOSED. -/
theorem usesOk_iff (s : State) :
    UsesOk s ↔ (s.powered = true → UsesFit s) ∧ (s.powered = false → ∀ l : LaneNo, s.lanes[l] = none) := by
  have record (i : SlotNo) : RecordFits s.keyring.slots[i] (usesOf s i) ↔
      match s.keyring.slots[i] with
      | none => usesOf s i = 0
      | some b =>
        b.useCount = usesOf s i ∧ b.useCount ≤ b.allowance ∧
          (b.state = .unwrapping ∨ b.state = .waiting ∨ b.state = .expired ∨ b.state = .failed → b.useCount = 0) := by
    cases s.keyring.slots[i] with
    | none => exact .rfl
    | some b =>
      exact ⟨fun h => ⟨h.counted, h.allowed, h.unused⟩, fun ⟨counted, allowed, unused⟩ => { counted, allowed, unused }⟩
  constructor
  · rintro ⟨on, off, settled⟩
    have fit (power : s.powered = true) : UsesFit s :=
      ⟨fun i => (record i).2 (on power i), fun l sc held => Screening.settled_iff.2 (settled l sc held)⟩
    exact ⟨fit, off⟩
  · rintro ⟨on, off⟩
    refine ⟨fun power i => (record i).1 ((on power).records i), off, fun l sc held => ?_⟩
    cases power : s.powered with
    | true => exact Screening.settled_iff.1 ((on power).settled l sc held)
    | false => simp [off power l] at held

/-! ### Operations that leave every use alone -/

/-- Records and uses are left alone, and lanes stay settled. -/
structure SameUses (s t : State) : Prop where
  powered : t.powered = s.powered
  slots : t.keyring.slots = s.keyring.slots
  uses : ∀ l, t.useAt l = s.useAt l
  settled : (∀ l : LaneNo, ∀ sc ∈ s.lanes[l], sc.Settled) → ∀ l : LaneNo, ∀ sc ∈ t.lanes[l], sc.Settled

namespace SameUses

theorem of_eq {s t : State} (powered : t.powered = s.powered := by simp)
    (slots : t.keyring.slots = s.keyring.slots := by simp) (lanes : t.lanes = s.lanes := by simp) : SameUses s t where
  powered := powered
  slots := slots
  uses l := by rw [State.useAt, State.useAt, lanes]
  settled h := by rwa [lanes]

theorem refl (s : State) : SameUses s s := of_eq rfl rfl rfl

theorem trans {a b c : State} (h : SameUses a b) (k : SameUses b c) : SameUses a c where
  powered := k.powered.trans h.powered
  slots := k.slots.trans h.slots
  uses l := (k.uses l).trans (h.uses l)
  settled start := k.settled (h.settled start)

theorem overlooks : Overlooks SameUses := ⟨trans, fun _ _ _ => of_eq rfl rfl rfl⟩

/-- A lane's record replaced by one of the same use. -/
theorem setLane {l : LaneNo} {s : State} {sc : Screening} (held : s.lanes[l] = some sc) {new : Option Screening}
    (use : new.bind Screening.use = sc.use) (settled : sc.Settled → ∀ a ∈ new, a.Settled) :
    SameUses s (setLane l new s) where
  powered := rfl
  slots := rfl
  uses m := by
    by_cases same : l = m
    · subst same
      rw [useAt_setLane_same, use, useAt_of_held held]
    · rw [State.useAt, State.useAt, setLane_lanes, lanes_set_other s same]
  settled start m a ha := by
    by_cases same : l = m
    · subst same
      rw [setLane_lanes, lanes_set_same] at ha
      exact settled (start l sc held) a ha
    · rw [setLane_lanes, lanes_set_other s same] at ha
      exact start m a ha

theorem modifyLane (l : LaneNo) {f : Screening → Screening} (s : State) (use : ∀ sc, (f sc).use = sc.use)
    (settled : ∀ sc, sc.Settled → (f sc).Settled) : SameUses s (modifyLane l f s) := by
  cases held : s.lanes[l] with
  | none =>
    unfold Machine.modifyLane
    rw [held]
    exact refl s
  | some sc =>
    rw [modifyLane_of_held held]
    refine setLane held (use sc) fun start a ha => ?_
    cases ha
    exact settled sc start

theorem withSlot_use (sc : Screening) (n : SlotName) (slot : ReelSlot) : (sc.withSlot n slot).use = sc.use := by
  cases n <;> rfl

/-- A slot replaced by one that has a job only where it had one. -/
theorem withSlot_settled {sc : Screening} {n : SlotName} {slot : ReelSlot}
    (job : sc.status ≠ .running → (sc.slot n).hasJob = false → slot.hasJob = false) (start : sc.Settled) :
    (sc.withSlot n slot).Settled := by
  rw [Screening.Settled, Screening.withSlot_status]
  intro out m
  by_cases same : m = n
  · subst same
    rw [Screening.slot_withSlot]
    exact job out (start out m)
  · rw [Screening.slot_withSlot_other _ same]
    exact start out m

theorem emptySlot (l : LaneNo) (n : SlotName) (s : State) : SameUses s (emptySlot l n s) :=
  overlooks.dropJobs
    (modifyLane l s (fun sc => withSlot_use sc n .empty) fun _ start => withSlot_settled (fun _ _ => rfl) start) _

theorem emptyWorking (l : LaneNo) (n : SlotName) (s : State) : SameUses s (emptyWorking l n s) := by
  unfold Machine.emptyWorking
  split
  · split
    · exact emptySlot ..
    · exact refl s
  · exact refl s

theorem emptyStale (l : LaneNo) (n : SlotName) (next : Option Position) (s : State) :
    SameUses s (emptyStale l n next s) := by
  unfold Machine.emptyStale
  split
  · exact refl s
  · split
    · split
      · exact emptySlot ..
      · exact refl s
    · exact refl s

/-- A slot is granted a job only where it had one. -/
theorem granted_hasJob (slot : ReelSlot) : slot.granted.hasJob = slot.hasJob := by
  cases slot with
  | empty => rfl
  | holds p t phase => cases phase <;> rfl

theorem grant (s : State) : SameUses s (grant s) := by
  have entered (i : JobItem) : SameUses s (enterService i s) := by
    cases i with
    | intake | bind => exact refl s
    | rewrap l n p t =>
      refine modifyLane l s (fun sc => withSlot_use ..) fun sc start => withSlot_settled (fun _ free => ?_) start
      rwa [granted_hasJob]
  obtain ⟨same, -⟩ | ⟨r, j, -, -, e⟩ := grant_cases s
  · rw [same]
    exact refl s
  · rw [e]
    exact (entered j.item).trans (of_eq rfl rfl rfl)

/-- A lane in use is stopped (R79). -/
theorem stopLane {l : LaneNo} {s : State} {i : SlotNo} (used : s.useAt l = some i) : SameUses s (stopLane l s) := by
  have emptied := (emptyWorking l .x s).trans (emptyWorking l .y _)
  cases held : s.lanes[l] with
  | none => simp [useAt_of_closed held] at used
  | some sc =>
    obtain ⟨a, ha, freeX, -⟩ := Calm.emptyWorking_get l .x held
    obtain ⟨b, hb, freeY, same⟩ := Calm.emptyWorking_get l .y ha
    have use : b.use = some i := by rw [← useAt_of_held hb, emptied.uses l, used]
    have active : b.active = true := by
      by_contra idle
      simp [Screening.use, idle] at use
    unfold Machine.stopLane
    rw [modifyLane_of_held hb]
    refine emptied.trans (setLane hb ?_ fun _ c hc => ?_)
    · rw [Screening.use_of_active active]
      rfl
    · cases hc
      intro _ n
      cases n with
      | x => exact (congrArg ReelSlot.hasJob (same .x (by simp))).trans freeX
      | y => exact freeY

theorem stopLanes (i : SlotNo) (s : State) : SameUses s (stopLanes i s).1 := by
  have used (l : LaneNo) (hl : l ∈ lanesOn i s) : s.useAt l = some i := by
    obtain ⟨-, on⟩ := List.mem_filter.1 hl
    obtain ⟨sc, held, both⟩ := (Option.any_eq_true ..).1 on
    rw [useAt_of_held held]
    simp_all [Screening.use, Screening.active]
  unfold Machine.stopLanes
  dsimp only
  generalize lanesOn i s = lanes at used
  induction lanes generalizing s with
  | nil => exact refl s
  | cons l rest ih =>
    have first := stopLane (used l (List.mem_cons_self ..))
    exact first.trans (ih _ fun m hm => (first.uses m).trans (used m (List.mem_cons_of_mem _ hm)))

end SameUses

/-! ### Operations that keep the uses -/

/-- Main power stays on or off, and records that fit the uses still do. -/
structure UsesKept (s t : State) : Prop where
  powered : t.powered = s.powered
  fits : UsesFit s → UsesFit t

theorem SameUses.kept {s t : State} (h : SameUses s t) : UsesKept s t where
  powered := h.powered
  fits fit :=
    { records := fun i => by
        rw [h.slots, usesOf_congr h.uses]
        exact fit.records i
      settled := h.settled fit.settled }

namespace UsesKept

theorem trans {a b c : State} (h : UsesKept a b) (k : UsesKept b c) : UsesKept a c where
  powered := k.powered.trans h.powered
  fits fit := k.fits (h.fits fit)

theorem of_eq {s t : State} (powered : t.powered = s.powered := by simp)
    (slots : t.keyring.slots = s.keyring.slots := by simp) (lanes : t.lanes = s.lanes := by simp) : UsesKept s t :=
  (SameUses.of_eq powered slots lanes).kept

theorem refl (s : State) : UsesKept s s := of_eq rfl rfl rfl

theorem overlooks : Overlooks UsesKept := ⟨trans, fun _ _ _ => of_eq rfl rfl rfl⟩

theorem foldl {α : Type} (f : State → α → State) (one : ∀ t i, UsesKept t (f t i)) (l : List α) (s : State) :
    UsesKept s (l.foldl f s) :=
  frame_of_foldl f UsesKept refl (fun _ _ _ => trans) one l s

/-- What a fit state keeps may be shown from that fit. -/
theorem of_fit {s t : State} (powered : t.powered = s.powered) (kept : UsesFit s → UsesKept s t) : UsesKept s t where
  powered := powered
  fits fit := (kept fit).fits fit

/-! #### Records -/

/-- A slot's record replaced, where lanes are left alone. -/
theorem replaced {s t : State} {i : SlotNo} {new : Option Bundle}
    (fits : RecordFits s.keyring.slots[i] (usesOf s i) → RecordFits new (usesOf s i))
    (slots : t.keyring.slots = s.keyring.slots.set i new := by rfl) (powered : t.powered = s.powered := by rfl)
    (lanes : t.lanes = s.lanes := by rfl) : UsesKept s t where
  powered := powered
  fits fit :=
    { records := fun j => by
        rw [slots, usesOf_congr (s := s) fun l => by rw [State.useAt, State.useAt, lanes]]
        by_cases same : i = j
        · subst same
          rw [slots_set_same]
          exact fits (fit.records i)
        · rw [slots_set_other _ same]
          exact fit.records j
      settled := by
        rw [lanes]
        exact fit.settled }

/-- A record replaced by a version of it. -/
theorem revised {s t : State} {i : SlotNo} {b a : Bundle} (held : s.keyring.slots[i] = some b)
    (fits : ∀ n, b.FitsUses n → a.FitsUses n)
    (slots : t.keyring.slots = s.keyring.slots.set i (some a) := by rfl) (powered : t.powered = s.powered := by rfl)
    (lanes : t.lanes = s.lanes := by rfl) : UsesKept s t := by
  refine replaced (fun before => ?_) slots powered lanes
  rw [held] at before
  exact fits _ before

theorem setBundle {i : SlotNo} {s : State} {b a : Bundle} (held : s.keyring.slots[i] = some b)
    (fits : ∀ n, b.FitsUses n → a.FitsUses n) : UsesKept s (setBundle i (some a) s) :=
  revised held fits rfl rfl rfl

/-- A record is judged WAITING or EXPIRED only where it has no use (R60). -/
theorem windowCase_unused {now m : Nat} {b : Bundle}
    (h : windowCase now m b = .waiting ∨ windowCase now m b = .expired) : b.useCount = 0 := by
  unfold windowCase at h
  split_ifs at h with expired _ _ used
  · exact expired.2
  all_goals simp_all

/-- A record that its window case is entered for fits as before. -/
theorem windowCase_fits {now m n : Nat} {b a : Bundle} (fits : b.FitsUses n) (use : a.useCount = b.useCount)
    (allowance : a.allowance = b.allowance) (state : a.state = windowCase now m b) : a.FitsUses n where
  counted := use.trans fits.counted
  allowed := by
    rw [use, allowance]
    exact fits.allowed
  unused idle := by
    rw [use]
    rw [state] at idle
    obtain judged | judged := windowCase_cases now m b
    · exact windowCase_unused (.inr judged)
    · obtain st | st | st | st := idle
      · exact absurd st (windowCase_ne_unwrapping now m b)
      · exact windowCase_unused (.inl st)
      · exact windowCase_unused (.inr st)
      · simp [st, BundleState.inWindow] at judged

theorem enterWindow {i : SlotNo} {s : State} {b : Bundle} (held : s.keyring.slots[i] = some b) (now m : Nat)
    (keys : List WrappedReelKey) :
    UsesKept s
      (enterWindow i { b with wrappedKeys := keys } (windowCase now m { b with wrappedKeys := keys }) s) := by
  have entered (a : Bundle) (use : a.useCount = b.useCount) (allowance : a.allowance = b.allowance)
      (state : a.state = windowCase now m b) (n : Nat) (fits : b.FitsUses n) : a.FitsUses n :=
    windowCase_fits fits use allowance state
  have same : windowCase now m { b with wrappedKeys := keys } = windowCase now m b := rfl
  unfold Machine.enterWindow
  rw [postEntry_frame, same]
  refine trans ?_ (overlooks.link _ _)
  generalize windowCase now m b = st at entered
  cases st with
  | expired =>
    exact revised (a := ({ b with wrappedKeys := [], poolRefs := [] } : Bundle).enter .expired s.clock.now) held
      (entered _ rfl rfl rfl)
  | unwrapping | waiting | live | closing | revoked | failed =>
    exact revised (a := ({ b with wrappedKeys := keys } : Bundle).enter _ s.clock.now) held (entered _ rfl rfl rfl)

theorem judgeSlot (now m : Nat) (i : SlotNo) (s : State) : UsesKept s (judgeSlot now m i s) := by
  unfold Machine.judgeSlot
  split
  · exact refl s
  next b held =>
    split
    · exact enterWindow held now m b.wrappedKeys
    · exact refl s

theorem windowSweep (s : State) : UsesKept s (windowSweep s) := foldl _ (fun t i => judgeSlot _ _ i t) _ s

/-- A record that becomes REVOKED, its use count and allowance kept, fits as before. -/
theorem fits_of_revoked {b a : Bundle} (use : a.useCount = b.useCount) (allowance : a.allowance = b.allowance)
    (revoked : a.state = .revoked) (n : Nat) (fits : b.FitsUses n) : a.FitsUses n where
  counted := use.trans fits.counted
  allowed := by
    rw [use, allowance]
    exact fits.allowed
  unused idle := by simp [revoked] at idle

/-- A record in UNWRAPPING has no use, whatever it becomes. -/
theorem fits_of_unwrapping {b a : Bundle} (unwrapping : b.state = .unwrapping) (use : a.useCount = b.useCount) (n : Nat)
    (fits : b.FitsUses n) : a.FitsUses n where
  counted := use.trans fits.counted
  allowed := by
    rw [use, fits.unused (.inl unwrapping)]
    exact Nat.zero_le _
  unused _ := use.trans (fits.unused (.inl unwrapping))

/-! #### Lanes -/

/-- A lane in use ends, and its use is returned (R67, R112). -/
theorem endLane {l : LaneNo} {s : State} {sc : Screening} (held : s.lanes[l] = some sc) (active : sc.active = true)
    {status : LaneStatus} (done : status = .ended ∨ status = .faulted) (cause : EndCause) (notice : Notice) :
    UsesKept s (endLane l status cause notice s) := by
  have lanes := endLane_lanes_of_held held status cause notice
  have keyring := endLane_keyring_of_held held status cause notice
  refine ⟨endLane_powered .., fun fit => ?_⟩
  generalize Machine.endLane l status cause notice s = t at lanes keyring
  have before : s.useAt l = some sc.bundleSlot := (useAt_of_held held).trans (Screening.use_of_active active)
  have ended : t.lanes[l] = some (sc.ended status cause s.clock.now) := by rw [lanes, lanes_set_same]
  have after : t.useAt l = none := by
    rw [useAt_of_held ended]
    refine Screening.use_of_not_active ?_
    obtain rfl | rfl := done <;> rfl
  have fewer (i : SlotNo) : usesOf t i + (if sc.bundleSlot = i then 1 else 0) = usesOf s i := by
    have changed := usesOf_changed (s := s) (t := t) (l := l) (fun m other => by
      rw [State.useAt, State.useAt, lanes, lanes_set_other s (Ne.symm other)]) i
    simpa [before, after] using changed
  constructor
  · intro i
    have count := fewer i
    cases record : s.keyring.slots[sc.bundleSlot] with
    | none =>
      have none := fit.empty record
      have some := usesOf_pos before
      omega
    | some b =>
      have fits := fit.record record
      obtain ⟨counted, allowed, unused⟩ := fits
      unfold Keyring.returned at keyring
      rw [record] at keyring
      dsimp only at keyring
      by_cases same : sc.bundleSlot = i
      · subst same
        rw [if_pos rfl] at count
        split at keyring
        next buried =>
          rw [keyring, slots_set_same]
          refine { counted := ?_, allowed := Nat.zero_le _, unused := fun _ => rfl }
          dsimp only
          omega
        · rw [keyring, slots_set_same]
          refine { counted := ?_, allowed := ?_, unused := fun idle => ?_ }
          · dsimp only
            omega
          · exact (Nat.sub_le ..).trans allowed
          · dsimp only at idle ⊢
            rw [unused idle]
      · rw [if_neg same, Nat.add_zero] at count
        rw [count]
        split at keyring
        · rw [keyring, slots_set_other _ same]
          exact fit.records i
        · rw [keyring, slots_set_other _ same]
          exact fit.records i
  · intro m a ha
    by_cases same : l = m
    · subst same
      rw [ended] at ha
      cases ha
      intro _ n
      cases n <;> rfl
    · rw [lanes, lanes_set_other s same] at ha
      exact fit.settled m a ha

theorem judgeLane (now lead : Nat) (l : LaneNo) (s : State) : UsesKept s (judgeLane now lead l s) := by
  unfold Machine.judgeLane
  split
  · exact refl s
  next sc held =>
    split
    next ends => exact endLane held (Screening.active_iff.2 (.inl ends.1)) (.inl rfl) ..
    · split
      next ends => exact endLane held (Screening.active_iff.2 (.inr ends.1)) (.inl rfl) ..
      · split
        · refine overlooks.post (SameUses.setLane held rfl fun start a ha => ?_).kept _
          cases ha
          exact start
        · exact refl s

theorem stopTimeSweep (s : State) : UsesKept s (stopTimeSweep s) := foldl _ (fun t l => judgeLane _ _ l t) _ s

theorem bothSweeps (order : SweepOrder) (s : State) : UsesKept s (bothSweeps order s) := by
  cases order
  · exact trans (windowSweep _) (stopTimeSweep _)
  · exact trans (stopTimeSweep _) (windowSweep _)

end UsesKept

end Sys2Proof.Machine

namespace Sys2Proof.Machine

namespace UsesKept

/-! #### Deliveries, deletions and intake -/

theorem leaveQueue (i : SlotNo) (s : State) : UsesKept s (leaveQueue i s) := of_eq rfl rfl rfl

/-- A tombstone has no use (R38). -/
theorem unused_of_tombstone {b : Bundle} {n : Nat} (tombstone : b.isTombstone = true) (fits : b.FitsUses n) : n = 0 := by
  rw [← fits.counted]
  unfold Bundle.isTombstone Bundle.holdsKeys at tombstone
  cases st : b.state with
  | unwrapping | waiting | live | closing => simp [st] at tombstone
  | revoked => simpa [st] using tombstone
  | expired => exact fits.unused (.inr (.inr (.inl st)))
  | failed => exact fits.unused (.inr (.inr (.inr st)))

theorem acceptDelivery {d : Delivery} {i : SlotNo} {s : State} (fits : DeliveryFits s.keyring d i) :
    UsesKept s (acceptDelivery d i s) := by
  unfold Machine.acceptDelivery
  dsimp only
  refine trans (overlooks.presentIntake (t := { s with keyring := _ }) ?_) (SameUses.grant _).kept
  refine replaced (i := i) (new := some (newRecord d ((freeNumbers s.keyring.pool).take d.reelCount) s.clock.now))
    fun before => ?_
  have none : usesOf s i = 0 := by
    obtain empty | ⟨b, held, tombstone⟩ := fits.place
    · rwa [empty] at before
    · rw [held] at before
      exact unused_of_tombstone tombstone before
  exact { counted := none.symm, allowed := Nat.zero_le _, unused := fun _ => rfl }

theorem deleteBundle (id : Ident) (r : Request) (s : State) : UsesKept s (deleteBundle id r s) := by
  unfold Machine.deleteBundle
  split
  · exact overlooks.answer (refl s) ..
  next i _ =>
    split
    · exact overlooks.answer (refl s) ..
    next b held =>
      split_ifs with unwrapping used
      · exact overlooks.answer (refl s) ..
      · exact overlooks.answer (refl s) ..
      · refine overlooks.answer (replaced (i := i) (new := none) fun before => ?_) ..
        rw [held] at before
        exact before.counted.symm.trans (Nat.eq_zero_of_not_pos used)

theorem endIntake {i : SlotNo} {s : State} {b : Bundle} (held : s.keyring.slots[i] = some b) :
    UsesKept s (endIntake i b s) := by
  refine (overlooks.post (leaveQueue i s) (.bundleReady i)).trans (enterWindow ?_ _ _ [])
  rwa [post_keyring, leaveQueue_keyring_slots]

theorem passReel {i : SlotNo} {s : State} {b : Bundle} (held : s.keyring.slots[i] = some b)
    (unwrapping : b.state = .unwrapping) (key : KeyMaterial) : UsesKept s (passReel i b key s) := by
  have grown (pool : List PoolCell) :
      UsesKept s
        (Machine.setBundle i
          (some { b with reelsUnwrapped := b.reelsUnwrapped + 1, wrappedKeys := b.wrappedKeys.tail })
          { s with keyring := { s.keyring with pool } }) :=
    revised (a := { b with reelsUnwrapped := b.reelsUnwrapped + 1, wrappedKeys := b.wrappedKeys.tail }) held
      (fits_of_unwrapping unwrapping rfl)
  unfold Machine.passReel
  dsimp only
  split
  · exact grown _
  · exact (grown _).trans (endIntake (slots_set_same ..))

theorem failReel {i : SlotNo} {s : State} {b : Bundle} (held : s.keyring.slots[i] = some b)
    (unwrapping : b.state = .unwrapping) : UsesKept s (failReel i b s) := by
  have erased : UsesKept s (Machine.eraseKeys i b (fun b => b.enter .failed s.clock.now) s) :=
    revised (a := ({ b with poolRefs := [], wrappedKeys := [] } : Bundle).enter .failed s.clock.now) held
      (fits_of_unwrapping unwrapping rfl)
  exact overlooks.post (erased.trans (leaveQueue ..)) _

theorem deliverIntake (outcome : Option KeyMaterial) (j : ServiceJob) (s : State) :
    UsesKept s (deliverIntake outcome j s) := by
  unfold Machine.deliverIntake
  split
  · split
    · exact refl s
    next b held =>
      split
      next awaits =>
        split
        · exact passReel held awaits.1 _
        · exact failReel held awaits.1
      · exact refl s
  · exact refl s

/-- The lane that takes the result of a rewrap is RUNNING, since its slot has a job. -/
theorem deliverRewrap (outcome : Option WrappedReelKey) (j : ServiceJob) (s : State) :
    UsesKept s (deliverRewrap outcome j s) := by
  unfold Machine.deliverRewrap
  split
  next l n _ _ _ =>
    split
    · exact refl s
    next sc held =>
      split
      next p t slot =>
        split
        next key =>
          have use := SameUses.withSlot_use sc n (.holds p t (.ready key))
          refine overlooks.post (SameUses.setLane held (new := some _) use fun start a ha => ?_).kept _
          cases ha
          exact SameUses.withSlot_settled (fun _ _ => rfl) start
        next =>
          refine of_fit (endLane_powered ..) fun fit => ?_
          have running : sc.status = .running := by
            by_contra out
            have free := fit.settled l sc held out n
            simp [slot, ReelSlot.hasJob] at free
          exact endLane held (Screening.active_iff.2 (.inl running)) (.inr rfl) ..
      · exact refl s
  · exact refl s

theorem deliverBind (outcome : Option KeyMaterial) (j : ServiceJob) (s : State) : UsesKept s (deliverBind outcome j s) :=
  by
  rw [deliverBind_frame]
  exact of_eq rfl rfl rfl

/-! #### Orders -/

theorem strikeUnused {i : SlotNo} {s : State} {b : Bundle} (held : s.keyring.slots[i] = some b) :
    UsesKept s (strikeUnused i b s) :=
  revised (a := ({ b with poolRefs := [], wrappedKeys := [] } : Bundle).enter .revoked s.clock.now) held
    (fits_of_revoked rfl rfl rfl)

theorem strikeSlot (o : Order) (i : SlotNo) (s : State) : UsesKept s (strikeSlot o i s).1 := by
  unfold Machine.strikeSlot
  split
  · exact refl s
  next b held =>
    split
    · exact refl s
    · split
      · exact overlooks.presentIntake (overlooks.dropJobs ((strikeUnused held).trans (leaveQueue ..)) _)
      iterate 3
        split
        · exact strikeUnused held
        · have revoked (mode : Option RevocationMode) :
              UsesKept s
                (Machine.setBundle i (some { b.enter .revoked s.clock.now with revocationMode := mode }) s) :=
            setBundle held (fits_of_revoked rfl rfl rfl)
          dsimp only
          split
          · exact (revoked _).trans (SameUses.stopLanes ..).kept
          · exact revoked _
      next st =>
        split
        · have raised :
              UsesKept s (Machine.setBundle i (some { b with revocationMode := some .immediate }) s) :=
            setBundle held (fits_of_revoked rfl rfl st)
          exact raised.trans (SameUses.stopLanes ..).kept
        · exact refl s
      · exact refl s
      · exact refl s

theorem applyOrder (o : Order) (s : State) : UsesKept s (applyOrder o s).1 := by
  rw [applyOrder_fst]
  exact foldl _ (fun t i => strikeSlot o i t) _ s

end UsesKept

/-! ### Filling and emptying the slots of a RUNNING lane -/

/-- A lane is RUNNING. -/
def State.Runs (s : State) (l : LaneNo) : Prop := ∃ sc, s.lanes[l] = some sc ∧ sc.status = .running

/-- From a state in which lane `l` is RUNNING: it stays so, and every use is left alone. -/
structure RunsOn (l : LaneNo) (s t : State) : Prop where
  same : s.Runs l → SameUses s t
  runs : s.Runs l → t.Runs l

namespace RunsOn

variable {l : LaneNo}

theorem refl (s : State) : RunsOn l s s := ⟨fun _ => .refl s, id⟩

theorem trans {a b c : State} (h : RunsOn l a b) (k : RunsOn l b c) : RunsOn l a c :=
  ⟨fun runs => (h.same runs).trans (k.same (h.runs runs)), fun runs => k.runs (h.runs runs)⟩

theorem overlooks : Overlooks (RunsOn l) := ⟨trans, fun _ _ _ => ⟨fun _ => .of_eq rfl rfl rfl, id⟩⟩

/-- A RUNNING lane's record replaced by one that is RUNNING on the same slot. -/
theorem setLane {s : State} {sc new : Screening} (held : s.lanes[l] = some sc) (status : new.status = sc.status)
    (slot : new.bundleSlot = sc.bundleSlot) : RunsOn l s (setLane l (some new) s) where
  same := by
    rintro ⟨a, ha, running⟩
    obtain rfl : sc = a := Option.some.inj (held.symm.trans ha)
    refine SameUses.setLane held ?_ fun _ b hb out => ?_
    · simp [Screening.use, Screening.active, status, slot]
    · cases hb
      exact absurd (status.trans running) out
  runs := by
    rintro ⟨a, ha, running⟩
    obtain rfl : sc = a := Option.some.inj (held.symm.trans ha)
    exact ⟨new, by rw [setLane_lanes, lanes_set_same], status.trans running⟩

theorem withSlot (n : SlotName) (slot : ReelSlot) (s : State) :
    RunsOn l s (modifyLane l (fun sc => sc.withSlot n slot) s) := by
  cases held : s.lanes[l] with
  | none =>
    unfold modifyLane
    rw [held]
    exact refl s
  | some sc =>
    rw [modifyLane_of_held held]
    refine setLane held (Screening.withSlot_status ..) ?_
    cases n <;> rfl

theorem emptySlot (n : SlotName) (s : State) : RunsOn l s (emptySlot l n s) := overlooks.dropJobs (withSlot ..) _

theorem fillSlot (n : SlotName) (p : Position) (neededBy : Nat) (s : State) :
    RunsOn l s (fillSlot l n p neededBy s) :=
  (withSlot ..).trans (overlooks.link_engine _ _ _)

theorem emptyStale (n : SlotName) (next : Option Position) (s : State) : RunsOn l s (emptyStale l n next s) := by
  unfold Machine.emptyStale
  split
  · exact refl s
  · split
    · split
      · exact emptySlot ..
      · exact refl s
    · exact refl s

theorem fillEmpty (next : Option Position) (neededBy : Nat) (s : State) :
    RunsOn l s (fillEmpty l next neededBy s).1 := by
  unfold Machine.fillEmpty
  split
  · split
    · exact refl s
    · split
      · exact fillSlot ..
      · exact refl s
  · exact refl s

theorem alignSlots (first : Bool) (next : Option Position) (s : State) : RunsOn l s (alignSlots l first next s) := by
  have cleared := (emptyStale .x next s).trans (emptyStale (l := l) .y next _)
  unfold Machine.alignSlots
  dsimp only
  split
  · exact cleared.trans (fillEmpty ..)
  · exact cleared

theorem refillAfter (first : Bool) (holder : SlotName) (next : Option Position) (neededBy : Nat) (s : State) :
    RunsOn l s (refillAfter l first holder next neededBy s).1 := by
  unfold Machine.refillAfter
  split
  · exact fillEmpty ..
  · exact (emptySlot ..).trans (fillEmpty ..)

theorem fillAtOpen (f k n : Nat) (s : State) : RunsOn l s (fillAtOpen l f k n s) := by
  unfold Machine.fillAtOpen
  dsimp only
  split
  · exact (fillSlot ..).trans (fillSlot ..)
  · exact fillSlot ..

end RunsOn

/-! ### Lanes opened, begun and ended by requests -/

/-- A candidate chosen for an open is LIVE, and its allowance leaves room for a use (R107, R108). -/
theorem chosen_hasRoom {s : State} {q : OpenRequest} {slots : List SlotNo} {slot : SlotNo} {b : Bundle}
    (screened : screenCandidates s q = .ok slots) (latest : latestEnding s.keyring slots = some slot)
    (held : s.keyring.slots[slot] = some b) : b.state = .live ∧ b.useCount < b.allowance := by
  have survivor : slot ∈ slots := by
    refine mem_of_foldl_best (fun best i => ?_) latest
    split
    · exact .inr rfl
    · split
      · exact .inr rfl
      · exact .inl rfl
  unfold screenCandidates at screened
  dsimp only at screened
  split_ifs at screened
  cases screened
  simp only [List.mem_filter, recordTest, held, Option.any_some, beq_iff_eq, decide_eq_true_eq] at survivor
  obtain ⟨⟨⟨⟨⟨-, live⟩, -⟩, -⟩, -⟩, room⟩ := survivor
  exact ⟨live, room⟩

namespace UsesKept

/-- A CLOSED lane begins on a LIVE bundle with room, whose use count rises with it (R66, R108). -/
theorem openLane {l : LaneNo} {s : State} {i : SlotNo} {b : Bundle} {new : Screening} (closed : s.lanes[l] = none)
    (held : s.keyring.slots[i] = some b) (live : b.state = .live) (room : b.useCount < b.allowance)
    (running : new.status = .running) (slot : new.bundleSlot = i) :
    UsesKept s (setLane l (some new) (takeUse i s)) := by
  have taken : takeUse i s = Machine.setBundle i (some { b with useCount := b.useCount + 1 }) s := by
    unfold takeUse
    rw [held]
  rw [taken]
  refine ⟨rfl, fun fit => ?_⟩
  generalize opened : setLane l (some new) (Machine.setBundle i (some { b with useCount := b.useCount + 1 }) s) = t
  have lanes : t.lanes = s.lanes.set l (some new) := by rw [← opened]; rfl
  have slots : t.keyring.slots = s.keyring.slots.set i (some { b with useCount := b.useCount + 1 }) := by
    rw [← opened]; rfl
  have here : t.lanes[l] = some new := by rw [lanes, lanes_set_same]
  have after : t.useAt l = some i := by
    rw [useAt_of_held here, Screening.use_of_active (Screening.active_iff.2 (.inl running)), slot]
  have more (j : SlotNo) : usesOf t j = usesOf s j + if i = j then 1 else 0 := by
    have changed := usesOf_changed (s := s) (t := t) (l := l) (fun m other => by
      rw [State.useAt, State.useAt, lanes, lanes_set_other s (Ne.symm other)]) j
    simpa [useAt_of_closed closed, after] using changed
  constructor
  · intro j
    rw [slots, more]
    by_cases same : i = j
    · subst same
      rw [slots_set_same, if_pos rfl]
      refine { counted := ?_, allowed := room, unused := fun idle => by simp [live] at idle }
      dsimp only
      rw [(fit.record held).counted]
    · rw [slots_set_other _ same, if_neg same, Nat.add_zero]
      exact fit.records j
  · intro m sc hm
    by_cases same : l = m
    · subst same
      obtain rfl : new = sc := Option.some.inj (here.symm.trans hm)
      exact fun out => absurd running out
    · rw [lanes, lanes_set_other s same] at hm
      exact fit.settled m sc hm

theorem openOn {q : OpenRequest} {s : State} {i : SlotNo} {b : Bundle} (closed : s.lanes[q.lane] = none)
    (held : s.keyring.slots[i] = some b) (live : b.state = .live) (room : b.useCount < b.allowance) :
    UsesKept s (openOn q i b s) := by
  have opened : UsesKept s (setLane q.lane (some (newScreening q i b s)) (takeUse i s)) :=
    openLane closed held live room rfl rfl
  have runs : (setLane q.lane (some (newScreening q i b s)) (takeUse i s)).Runs q.lane :=
    ⟨_, by rw [setLane_lanes, lanes_set_same], rfl⟩
  exact (opened.trans ((RunsOn.fillAtOpen ..).same runs).kept).trans (SameUses.grant _).kept

theorem acceptBegin {q : BeginRequest} {s : State} {sc : Screening} (held : s.lanes[q.lane] = some sc)
    (running : sc.status = .running) (n : Nat) (p : Position) (holder : SlotName) (r : Request) :
    UsesKept s (acceptBegin q sc n p holder r s) := by
  have runs : s.Runs q.lane := ⟨sc, held, running⟩
  have granted {t : State} (same : RunsOn q.lane s t) : UsesKept s (Machine.grant t) :=
    ((same.same runs).trans (SameUses.grant _)).kept
  unfold Machine.acceptBegin
  dsimp only
  split
  · have moved : RunsOn q.lane s (setLane q.lane (some { sc with current := p }) s) := .setLane held rfl rfl
    exact overlooks.answer (granted (moved.trans (.refillAfter ..))) ..
  next a _ =>
    generalize applied : Screening.amended { sc with current := p } a s.keyring s.params.lateAllowance
      s.params.closingLead s.clock.now = after
    have status : after.status = sc.status := by rw [← applied]; rfl
    have stored : RunsOn q.lane s (setLane q.lane (some after) s) := .setLane held status (by rw [← applied]; rfl)
    split
    · have here : (setLane q.lane (some after) s).lanes[q.lane] = some after := by rw [setLane_lanes, lanes_set_same]
      have active := Screening.active_iff.2 (.inl (status.trans running))
      exact overlooks.answer ((stored.same runs).kept.trans (endLane here active (.inl rfl) ..)) ..
    · exact overlooks.answer (granted ((stored.trans (.alignSlots ..)).trans (.refillAfter ..))) ..

theorem reelBegin (q : BeginRequest) (r : Request) (s : State) : UsesKept s (reelBegin q r s) := by
  unfold Machine.reelBegin beginReel
  split
  · exact overlooks.answer (refl s) ..
  next sc held =>
    split
    · exact overlooks.answer (refl s) ..
    · exact overlooks.answer (refl s) ..
    next stopping =>
      exact overlooks.answer (endLane held (Screening.active_iff.2 (.inr stopping)) (.inl rfl) ..) ..
    next running =>
      dsimp only
      split
      · exact overlooks.answer (refl s) ..
      · split
        · exact overlooks.answer (refl s) ..
        · split_ifs
          · exact overlooks.answer (refl s) ..
          · exact overlooks.answer (refl s) ..
          · exact acceptBegin held running ..

theorem endScreening (l : LaneNo) (r : Request) (s : State) : UsesKept s (endScreening l r s) := by
  unfold Machine.endScreening
  split
  · exact overlooks.answer (refl s) ..
  next sc held =>
    split
    next running => exact overlooks.answer (endLane held (Screening.active_iff.2 (.inl running)) (.inl rfl) ..) ..
    next stopping => exact overlooks.answer (endLane held (Screening.active_iff.2 (.inr stopping)) (.inl rfl) ..) ..
    · exact overlooks.answer (refl s) ..
    · exact overlooks.answer (refl s) ..

theorem closeLane (l : LaneNo) (r : Request) (s : State) : UsesKept s (closeLane l r s) := by
  unfold Machine.closeLane
  split
  · exact overlooks.answer (refl s) ..
  next sc held =>
    have closed (idle : sc.active = false) : UsesKept s (setLane l none s) := by
      have unused := Screening.use_of_not_active idle
      exact (SameUses.setLane held (new := none) unused.symm fun _ _ none => by cases none).kept
    split
    next status => exact overlooks.answer (closed (by simp [Screening.active, status])) ..
    next status => exact overlooks.answer (closed (by simp [Screening.active, status])) ..
    · exact overlooks.answer (refl s) ..
    · exact overlooks.answer (refl s) ..

theorem fetchReel (q : LaneNo × Nat) (r : Request) (s : State) : UsesKept s (fetchReel q r s) := by
  unfold Machine.fetchReel releaseReel
  split
  · exact overlooks.answer (refl s) ..
  next sc held =>
    split
    · exact overlooks.answer (refl s) ..
    · exact overlooks.answer (refl s) ..
    · exact overlooks.answer (refl s) ..
    next running =>
      split
      · exact overlooks.answer (refl s) ..
      · split
        · exact overlooks.answer (refl s) ..
        next n _ =>
          split
          · refine overlooks.answer ((RunsOn.setLane held ?_ ?_).same ⟨sc, held, running⟩).kept ..
            · exact Screening.withSlot_status ..
            · cases n <;> rfl
          · exact overlooks.answer (refl s) ..
          · exact overlooks.answer (refl s) ..

theorem amendScreening (q : LaneNo × Amendment) (r : Request) (s : State) : UsesKept s (amendScreening q r s) := by
  unfold Machine.amendScreening
  split
  · exact overlooks.answer (refl s) ..
  next sc held =>
    split
    next running =>
      refine overlooks.answer ((RunsOn.setLane held ?_ ?_).same ⟨sc, held, running⟩).kept ..
      · rfl
      · rfl
    · exact overlooks.answer (refl s) ..
    · exact overlooks.answer (refl s) ..
    · exact overlooks.answer (refl s) ..

theorem fetchReport (q : LaneNo × Option Nat) (r : Request) (s : State) : UsesKept s (fetchReport q r s) := by
  unfold Machine.fetchReport
  split
  · exact overlooks.answer (refl s) ..
  next sc held =>
    have read (rep : Report) : UsesKept s (setLane q.1 (some { sc with report := rep }) s) := by
      refine (SameUses.setLane held rfl fun start a ha => ?_).kept
      cases ha
      exact start
    split
    · exact overlooks.answer (refl s) ..
    · split
      · exact overlooks.answer (refl s) ..
      · exact overlooks.answer (refl s) ..
      · exact overlooks.answer (read _) ..
      · exact overlooks.answer (read _) ..

end UsesKept

end Sys2Proof.Machine

namespace Sys2Proof.Machine

namespace UsesKept

/-! #### Ticks, claims and start-ups -/

/-- Fields that lanes and records do not include may be set before an operation. -/
theorem after_eq {s t u : State} (op : UsesKept t u) (powered : t.powered = s.powered := by rfl)
    (slots : t.keyring.slots = s.keyring.slots := by rfl) (lanes : t.lanes = s.lanes := by rfl) : UsesKept s u :=
  (of_eq powered slots lanes).trans op

theorem evaluateMargin (cause : EvalCause) (s : State) : UsesKept s (evaluateMargin cause s) := of_eq

theorem evaluateAndSweep (cause : EvalCause) (s : State) : UsesKept s (evaluateAndSweep cause s) := by
  unfold Machine.evaluateAndSweep
  dsimp only
  split
  · exact evaluateMargin ..
  · exact (evaluateMargin ..).trans (windowSweep _)

theorem expiryPass (s : State) : UsesKept s (expiryPass s) := of_eq rfl rfl rfl

theorem takeDueExpiry (s : State) : UsesKept s (takeDueExpiry s) := by
  unfold Machine.takeDueExpiry
  split
  · exact of_eq rfl rfl rfl
  · exact refl s

theorem takeDueWindow (s : State) : UsesKept s (takeDueWindow s) := by
  unfold Machine.takeDueWindow
  split
  · exact after_eq (windowSweep _)
  · exact refl s

theorem takeDueStopTime (s : State) : UsesKept s (takeDueStopTime s) := by
  unfold Machine.takeDueStopTime
  split
  · exact after_eq (stopTimeSweep _)
  · exact refl s

theorem settleDue (s : State) : UsesKept s (settleDue s) :=
  ((takeDueExpiry s).trans (takeDueWindow _)).trans (takeDueStopTime _)

theorem clockTick (s : State) : UsesKept s (clockTick s) := by
  unfold Machine.clockTick
  dsimp only
  split
  · exact after_eq (evaluateMargin ..)
  · exact of_eq rfl rfl rfl

theorem tickWhole (order : SweepOrder) (s : State) : UsesKept s (tickWhole order s) :=
  (((settleDue s).trans (clockTick _)).trans (expiryPass _)).trans (bothSweeps ..)

theorem tickClockOnly (s : State) : UsesKept s (tickClockOnly s) :=
  ((settleDue s).trans (clockTick _)).trans (of_eq rfl rfl rfl)

theorem takeClaim (T : Nat) (s : State) : UsesKept s (takeClaim T s) := by
  unfold Machine.takeClaim
  split
  · exact of_eq rfl rfl rfl
  · dsimp only
    split
    · exact of_eq rfl rfl rfl
    · exact overlooks.post (s := s) (t := { s with clock := s.clock.adjustBy T }) (of_eq rfl rfl rfl) _

theorem afterClaim (order : SweepOrder) (s : State) : UsesKept s (afterClaim order s) :=
  ((expiryPass s).trans (evaluateMargin ..)).trans (bothSweeps ..)

theorem beginOperation (s : State) : UsesKept s (beginOperation s) := by
  unfold Machine.beginOperation
  split
  · exact ((evaluateMargin ..).trans (expiryPass _)).trans (bothSweeps ..)
  · exact refl s

end UsesKept

/-- The reset steps leave every record without a use (R56). -/
theorem resetKeyring_unused {s : State} {i : SlotNo} {b : Bundle} (held : (resetKeyring s).keyring.slots[i] = some b) :
    b.useCount = 0 := by
  rw [(resetKeyring_restarted s).slots i] at held
  split at held
  · cases held
  · split_ifs at held
    all_goals
      obtain rfl := Option.some.inj held
      rfl

/-- The reset of the keyring, with every lane CLOSED, leaves records that fit. -/
theorem resetKeyring_usesFit {s : State} (closed : s.lanes = lanesClosed) : UsesFit (resetKeyring s) := by
  refine UsesFit.of_closed (fun l => ?_) fun _ _ => resetKeyring_unused
  rw [resetKeyring_frame, closed]
  simp [lanesClosed]

/-! ### Every command -/

/-- The commands that switch main power. -/
def movesPower : Instr → Bool
  | .mainPowerLoss | .powerUp _ _ => true
  | _ => false

theorem openScreening_usesKept {s t : State} (e : exec .openScreening s = .next t) : UsesKept s t := by
  obtain rfl := Host.Outcome.next.inj e
  have refused (r : Request) (status : Status) (body : List Byte) (t : State) :
      UsesKept t (answer r status body t) := UsesKept.overlooks.answer (.refl t) ..
  refine UsesKept.overlooks.serveWith (fun q r t _ => ?_) s
  split
  · exact refused ..
  next idle =>
    have closed : t.lanes[q.lane] = none := by simpa using idle
    split_ifs
    · exact refused ..
    · exact refused ..
    · exact refused ..
    · unfold openChosen
      split
      · exact refused ..
      next slots screened =>
        split
        · exact refused ..
        next i latest =>
          split
          · exact refused ..
          next b held =>
            obtain ⟨live, room⟩ := chosen_hasRoom screened latest held
            exact UsesKept.overlooks.answer (.openOn closed held live room) ..

/-- Every event of a controller at work keeps the uses. -/
theorem exec_usesKept {c : Instr} {s t : State} (stays : movesPower c = false) (e : exec c s = .next t) :
    UsesKept s t := by
  have answered (r : Request) (status : Status) (body : List Byte) (t : State) :
      UsesKept t (answer r status body t) := UsesKept.overlooks.answer (.refl t) ..
  have ifThen {cond : Bool} {t : State} (acts : UsesKept s t) : UsesKept s (if cond then t else s) := by
    split
    · exact acts
    · exact .refl s
  cases c with
  | mainPowerLoss | powerUp => simp [movesPower] at stays
  | openScreening => exact openScreening_usesKept e
  | serialFrame bytes | serialByteTimeout =>
    obtain rfl := Host.Outcome.next.inj e
    refine ifThen ?_
    rw [takeSerial_frame]
    exact UsesKept.overlooks.link ..
  | lanFrame bytes checkPasses =>
    obtain rfl := Host.Outcome.next.inj e
    refine ifThen ?_
    split
    · exact .refl s
    · rw [acceptFrame_frame]
      exact UsesKept.overlooks.link ..
  | frameSent =>
    obtain rfl := Host.Outcome.next.inj e
    split
    · exact .refl s
    · exact ifThen (UsesKept.overlooks.link ..)
  | unknownKind =>
    obtain rfl := Host.Outcome.next.inj e
    refine ifThen ?_
    split
    · exact .refl s
    · split
      · exact .refl s
      · exact UsesKept.overlooks.answer (UsesKept.overlooks.withoutOldest s) ..
  | restartReset =>
    obtain rfl := Host.Outcome.next.inj e
    refine ifThen ⟨by rw [resetKeyring_frame], fun _ => resetKeyring_usesFit rfl⟩
  | batterySecond | cellFailed =>
    obtain rfl := Host.Outcome.next.inj e
    split
    · exact .of_eq rfl rfl rfl
    · exact .refl s
  | identify | clockStatus | marginStatus | listRevocations | engineStatus =>
    obtain rfl := Host.Outcome.next.inj e
    exact UsesKept.overlooks.serveBare (fun r t => answered ..) s
  | provisionWrite =>
    obtain rfl := Host.Outcome.next.inj e
    refine UsesKept.overlooks.serve (fun r t => ?_) s
    unfold provisionWrite
    split
    · exact answered ..
    · split
      · exact answered ..
      · split
        · exact answered ..
        · split
          · split
            · exact .of_eq
            · exact answered ..
          · exact .of_eq
  | provisionFinalize =>
    obtain rfl := Host.Outcome.next.inj e
    refine UsesKept.overlooks.serveBare (fun r t => ?_) s
    split
    · exact answered ..
    · split
      · exact .of_eq
      · exact answered ..
  | collect | restart =>
    obtain rfl := Host.Outcome.next.inj e
    exact UsesKept.overlooks.serveBare (fun r t => .of_eq) s
  | dismiss =>
    obtain rfl := Host.Outcome.next.inj e
    exact UsesKept.overlooks.serveWith (fun q r t _ => .of_eq) s
  | noticeHold =>
    obtain rfl := Host.Outcome.next.inj e
    refine UsesKept.overlooks.serveWith (fun hold r t _ => UsesKept.overlooks.answer ?_ ..) s
    split
    · exact UsesKept.overlooks.link ..
    · exact .of_eq
  | siteParameter =>
    obtain rfl := Host.Outcome.next.inj e
    refine UsesKept.overlooks.serveWith (fun q r t _ => UsesKept.overlooks.answer ?_ ..) s
    split
    · exact .after_eq (.evaluateAndSweep ..)
    · exact .of_eq rfl rfl rfl
  | setShape | setTerm =>
    obtain rfl := Host.Outcome.next.inj e
    refine UsesKept.overlooks.serveWith (fun ⟨i, entry⟩ r t _ => UsesKept.overlooks.answer ?_ ..) s
    exact .after_eq (.evaluateAndSweep ..)
  | timeClaim tagOver order =>
    obtain rfl := Host.Outcome.next.inj e
    refine UsesKept.overlooks.serveWith (fun T r t _ => ?_) s
    dsimp only
    split
    · exact UsesKept.overlooks.answer ((UsesKept.takeClaim ..).trans (.afterClaim ..)) ..
    · exact answered ..
  | deliverBundle tagOver =>
    obtain rfl := Host.Outcome.next.inj e
    refine UsesKept.overlooks.serve (fun r t => ?_) s
    split
    · exact answered ..
    · split
      · exact answered ..
      next d read =>
        split
        · exact answered ..
        next i passed place => exact UsesKept.overlooks.answer (.acceptDelivery (deliveryFits read passed place)) ..
        · exact answered ..
  | bundleStatus =>
    obtain rfl := Host.Outcome.next.inj e
    refine UsesKept.overlooks.serveWith (fun q r t _ => ?_) s
    split
    · exact answered ..
    · split <;> exact answered ..
  | listBundles =>
    obtain rfl := Host.Outcome.next.inj e
    exact UsesKept.overlooks.serveWith (fun q r t _ => .of_eq) s
  | deleteBundle =>
    obtain rfl := Host.Outcome.next.inj e
    exact UsesKept.overlooks.serveWith (fun q r t _ => .deleteBundle ..) s
  | revoke tagOver =>
    obtain rfl := Host.Outcome.next.inj e
    refine UsesKept.overlooks.serveWith (fun o r t _ => ?_) s
    split
    · exact answered ..
    · split
      · exact answered ..
      · split
        · exact answered ..
        next list action _ =>
          split
          next done _ _ struck =>
            have kept := UsesKept.applyOrder o { t with revocations := list }
            rw [struck] at kept
            exact UsesKept.overlooks.answer (s := t) (.after_eq kept) ..
  | sync =>
    obtain rfl := Host.Outcome.next.inj e
    refine UsesKept.overlooks.serveBare (fun r t => ?_) s
    split
    · exact answered ..
    · split
      · exact answered ..
      · exact UsesKept.overlooks.link_engine ..
  | bindScreen =>
    obtain rfl := Host.Outcome.next.inj e
    refine UsesKept.overlooks.serveWith (fun q r t _ => ?_) s
    unfold whenClosed
    split
    · exact answered ..
    · refine UsesKept.overlooks.answer (UsesKept.trans ?_ (SameUses.grant _).kept) ..
      exact .of_eq
  | unbindScreen | setBias =>
    obtain rfl := Host.Outcome.next.inj e
    refine UsesKept.overlooks.serveWith (fun q r t _ => ?_) s
    dsimp only [whenClosed]
    split
    · exact answered ..
    · exact .of_eq
  | laneStatus =>
    obtain rfl := Host.Outcome.next.inj e
    exact UsesKept.overlooks.serveWith (fun q r t _ => answered ..) s
  | endScreening =>
    obtain rfl := Host.Outcome.next.inj e
    exact UsesKept.overlooks.serveWith (fun q r t _ => .endScreening ..) s
  | closeLane =>
    obtain rfl := Host.Outcome.next.inj e
    exact UsesKept.overlooks.serveWith (fun q r t _ => .closeLane ..) s
  | fetchReel =>
    obtain rfl := Host.Outcome.next.inj e
    exact UsesKept.overlooks.serveWith (fun q r t _ => .fetchReel ..) s
  | reelBegin =>
    obtain rfl := Host.Outcome.next.inj e
    exact UsesKept.overlooks.serveWith (fun q r t _ => .reelBegin ..) s
  | amendScreening =>
    obtain rfl := Host.Outcome.next.inj e
    exact UsesKept.overlooks.serveWith (fun q r t _ => .amendScreening ..) s
  | fetchReport =>
    obtain rfl := Host.Outcome.next.inj e
    exact UsesKept.overlooks.serveWith (fun q r t _ => .fetchReport ..) s
  | tick part =>
    obtain rfl := Host.Outcome.next.inj e
    cases part with
    | whole order => exact ifThen (.tickWhole ..)
    | clockOnly => exact ifThen (.tickClockOnly s)
    | expiryPass => exact ifThen (.takeDueExpiry s)
    | windowSweep => exact ifThen (.takeDueWindow s)
    | stopTimeSweep => exact ifThen (.takeDueStopTime s)
  | stalenessMinute order | replenish order =>
    obtain rfl := Host.Outcome.next.inj e
    exact ifThen (.tickWhole ..)
  | intakeUnwrapComplete outcome =>
    obtain rfl := Host.Outcome.next.inj e
    exact UsesKept.overlooks.completeJob (.deliverIntake outcome)
      (fun t => UsesKept.overlooks.presentIntake (.refl t)) (fun t => (SameUses.grant t).kept) s
  | rewrapComplete outcome =>
    obtain rfl := Host.Outcome.next.inj e
    exact UsesKept.overlooks.completeJob (.deliverRewrap outcome) .refl (fun t => (SameUses.grant t).kept) s
  | bindComplete outcome =>
    obtain rfl := Host.Outcome.next.inj e
    exact UsesKept.overlooks.completeJob (.deliverBind outcome) .refl (fun t => (SameUses.grant t).kept) s

/-! ### The invariant -/

/-- With main power off no request is served. -/
theorem serve_of_unpowered {s : State} (off : s.powered = false) (k : RequestKind) (act : Request → State → State) :
    serve k act s = s := by
  unfold serve
  rw [if_neg (by simp [canServe, off])]

/-- With main power off, no event but a power-up opens a lane. -/
theorem exec_closed_of_unpowered {c : Instr} {s t : State} (off : s.powered = false) (stays : movesPower c = false)
    (e : exec c s = .next t) (closed : ∀ l : LaneNo, s.lanes[l] = none) (l : LaneNo) : t.lanes[l] = none := by
  by_cases breaks : mayBreak c = true
  · have same : t = s := by
      cases c with
      | deliverBundle | deleteBundle | openScreening =>
        exact (Host.Outcome.next.inj e).symm.trans (serve_of_unpowered off ..)
      | powerUp => simp [movesPower] at stays
      | _ => simp [mayBreak] at breaks
    rw [same]
    exact closed l
  · exact (exec_gentle (by simpa using breaks) e).lanes l (closed l)

theorem withoutPower_usesOk (s : State) : UsesOk (withoutPower s) :=
  (usesOk_iff _).2 ⟨fun on => by simp [withoutPower] at on, fun _ l => by simp [withoutPower, lanesClosed]⟩

theorem usesOk_of_powered {s : State} (fit : UsesFit s) : UsesOk { s with powered := true } :=
  (usesOk_iff _).2 ⟨fun _ => ⟨fit.records, fit.settled⟩, fun off => by simp at off⟩

theorem powerUp_usesOk {s t : State} {checkMatches : Bool} {run : StartUpRun} (ok : UsesOk s)
    (e : exec (.powerUp checkMatches run) s = .next t) : UsesOk t := by
  obtain ⟨-, rfl⟩ | ⟨-, -, rfl⟩ | ⟨-, -, -, rfl | ⟨judged, expired, rfl⟩⟩ | ⟨-, -, -, rfl | rfl⟩ := powerUp_cases e
  · exact ok
  · exact ok
  · exact usesOk_of_powered ((UsesKept.beginOperation _).fits (resetKeyring_usesFit rfl))
  · exact withoutPower_usesOk _
  · refine usesOk_of_powered (.of_closed (fun l => ?_) fun i b held => ?_)
    · simp [startLost, lanesClosed]
    · simp [startLost, Keyring.empty] at held
  · exact withoutPower_usesOk _

theorem exec_usesOk {c : Instr} {s t : State} (ok : UsesOk s) (e : exec c s = .next t) : UsesOk t := by
  by_cases moves : movesPower c = true
  · cases c with
    | mainPowerLoss =>
      obtain rfl := Host.Outcome.next.inj e
      split
      · exact withoutPower_usesOk s
      · exact ok
    | powerUp => exact powerUp_usesOk ok e
    | _ => simp [movesPower] at moves
  · have stays : movesPower c = false := by simpa using moves
    have kept := exec_usesKept stays e
    obtain ⟨on, off⟩ := (usesOk_iff s).1 ok
    refine (usesOk_iff t).2 ⟨fun power => kept.fits (on (kept.powered ▸ power)), fun power => ?_⟩
    have before : s.powered = false := kept.powered ▸ power
    exact exec_closed_of_unpowered before stays e (off before)

/-- Settles O11: every command keeps the records fitting the lanes' uses (`UsesKept`), or closes every lane and resets
the counts. -/
theorem useCountsMatchTheLanes : Obligations.UseCountsMatchTheLanes := by
  unfold Obligations.UseCountsMatchTheLanes
  intro s t ok stepped
  obtain ⟨-, rfl⟩ | ⟨c, rest, -, e⟩ := step_cases stepped
  · exact ok
  · exact exec_usesOk (s := { s with pending := rest }) ok e

end Sys2Proof.Machine

/-! ## The window sweep (O25) -/

namespace Sys2Proof.Machine

/-! ### A pass that comes to each item once -/

section
variable {σ ι α : Type} {f : σ → ι → σ} {view : σ → ι → α} {holds : σ → Prop}
  (keeps : ∀ s i, holds s → holds (f s i)) (other : ∀ s i j, holds s → i ≠ j → view (f s i) j = view s j)
include keeps other

/-- A pass leaves what is seen of an item that it does not come to, and changes that of each other item once. -/
theorem view_foldl_of_nodup [DecidableEq ι] {new : ι → α → α}
    (here : ∀ s i, holds s → view (f s i) i = new i (view s i)) {l : List ι} (once : l.Nodup) {s : σ} (start : holds s)
    (i : ι) :
    view (l.foldl f s) i = if i ∈ l then new i (view s i) else view s i := by
  induction l generalizing s with
  | nil => simp
  | cons j rest ih =>
    obtain ⟨fresh, once⟩ := List.nodup_cons.1 once
    rw [List.foldl_cons, ih once (keeps s j start)]
    by_cases same : j = i
    · subst same
      rw [if_neg fresh, here s j start, if_pos (List.mem_cons_self ..)]
    · simp only [other s j i start same, List.mem_cons, Ne.symm same, false_or]

/-- What a pass gathers from the items it comes to, it gathers from what was seen of them before it. -/
theorem gathered_foldl_of_nodup {γ : Type} {gathered : σ → γ} {add : ι → α → γ → γ}
    (adds : ∀ s i, holds s → gathered (f s i) = add i (view s i) (gathered s)) {l : List ι} (once : l.Nodup) {s : σ}
    (start : holds s) : gathered (l.foldl f s) = l.foldl (fun g i => add i (view s i) g) (gathered s) := by
  induction l generalizing s with
  | nil => rfl
  | cons j rest ih =>
    obtain ⟨fresh, once⟩ := List.nodup_cons.1 once
    rw [List.foldl_cons, List.foldl_cons, ih once (keeps s j start), adds s j start]
    refine List.foldl_ext _ _ _ fun g i hi => ?_
    rw [other s j i start (ne_of_mem_of_not_mem hi fresh).symm]

end

/-- Filters taken one after the other. -/
theorem foldl_filter {ι β : Type} (drops : ι → β → Prop) [∀ i c, Decidable (drops i c)] (l : List ι)
    (items : List β) :
    l.foldl (fun kept i => kept.filter fun c => decide ¬drops i c) items =
      items.filter fun c => decide ¬∃ i ∈ l, drops i c := by
  induction l generalizing items with
  | nil => simp
  | cons i rest ih =>
    rw [List.foldl_cons, ih, List.filter_filter]
    refine List.filter_congr fun c _ => ?_
    simp only [List.mem_cons, exists_eq_or_imp, not_or, Bool.decide_and, decide_not]
    exact Bool.and_comm ..

/-! ### One slot judged (R58 to R61) -/

/-- A sweep leaves a record's state: it is in no state that is judged, or its window case is the state it is in. -/
abbrev Bundle.Stays (now m : Nat) (b : Bundle) : Prop :=
  ¬(b.state = .waiting ∨ b.state = .live ∨ b.state = .closing) ∨ windowCase now m b = b.state

theorem Bundle.stays_iff {now m : Nat} {b : Bundle} :
    b.Stays now m ↔ ¬(b.state.inWindow = true ∧ windowCase now m b ≠ b.state) := by
  have judged : b.state.inWindow = true ↔ b.state = .waiting ∨ b.state = .live ∨ b.state = .closing := by
    cases b.state <;> simp [BundleState.inWindow]
  rw [judged, not_and_or, not_not]

/-- What a sweep leaves in a slot. -/
def judgedRecord (now m : Nat) : Option Bundle → Option Bundle
  | none => none
  | some b =>
    if b.Stays now m then some b
    else if windowCase now m b = .expired then
      some { b with state := .expired, entryTime := now, poolRefs := [], wrappedKeys := [] }
    else some { b with state := windowCase now m b, entryTime := now }

/-- The pool entries that a sweep frees for a slot's record. -/
def judgedFrees (now m : Nat) : Option Bundle → List PoolNo
  | none => []
  | some b => if ¬b.Stays now m ∧ windowCase now m b = .expired then b.poolRefs else []

/-- The notices that a sweep posts for a slot's record (R61). -/
def judgedBits (now m : Nat) : Option Bundle → KindSet
  | none => 0
  | some b =>
    if b.Stays now m then 0
    else
      match windowCase now m b with
      | .live => 0b00010
      | .closing => 0b00100
      | .expired => 0b01000
      | _ => 0

theorem mem_judgedFrees {now m : Nat} {record : Option Bundle} {n : PoolNo} :
    n ∈ judgedFrees now m record ↔
      ∃ b ∈ record, (b.state = .waiting ∨ b.state = .live ∨ b.state = .closing) ∧ windowCase now m b = .expired ∧
        n ∈ b.poolRefs := by
  cases record with
  | none => simp [judgedFrees]
  | some b =>
    have expires (found : windowCase now m b = .expired) :
        ¬b.Stays now m ↔ b.state = .waiting ∨ b.state = .live ∨ b.state = .closing := by
      rw [Bundle.Stays, found]
      cases b.state <;> simp
    by_cases found : windowCase now m b = .expired
    · by_cases judged : b.state = .waiting ∨ b.state = .live ∨ b.state = .closing
      · simp [judgedFrees, found, (expires found).2 judged, judged]
      · simp [judgedFrees, found, mt (expires found).1 judged, judged]
    · simp [judgedFrees, found]

theorem judgeSlot_keyring_eq {now m : Nat} {s : State} (time : s.clock.now = now) (i : SlotNo) :
    (judgeSlot now m i s).keyring =
      { s.keyring with
        slots := s.keyring.slots.set i (judgedRecord now m s.keyring.slots[i])
        pool := freeCells (judgedFrees now m s.keyring.slots[i]) s.keyring.pool } := by
  unfold judgeSlot
  cases held : s.keyring.slots[i] with
  | none =>
    dsimp only [judgedRecord, judgedFrees]
    rw [freeCells_nil, ← held]
    simp
  | some b =>
    dsimp only [judgedRecord, judgedFrees]
    by_cases stays : b.Stays now m
    · rw [if_neg (Bundle.stays_iff.1 stays), if_pos stays, if_neg (not_and_of_not_left _ (not_not.2 stays)),
        freeCells_nil, ← held]
      simp
    · rw [if_pos (not_not.1 (mt Bundle.stays_iff.2 stays)), if_neg stays, enterWindow_told, told_frame]
      dsimp only [Keyring.entered]
      rw [time]
      by_cases expired : windowCase now m b = .expired
      · simp [expired, stays]
      · simp [expired, freeCells_nil]

theorem judgeSlot_notices_eq (now m : Nat) (i : SlotNo) (s : State) :
    (judgeSlot now m i s).link.notices =
      s.link.notices.set (slotSubject i)
        (s.link.notices[slotSubject i] ||| judgedBits now m s.keyring.slots[i]) := by
  unfold judgeSlot
  cases s.keyring.slots[i] with
  | none => simp [judgedBits]
  | some b =>
    dsimp only [judgedBits]
    by_cases stays : b.Stays now m
    · rw [if_neg (Bundle.stays_iff.1 stays), if_pos stays]
      simp
    · rw [if_pos (not_not.1 (mt Bundle.stays_iff.2 stays)), if_neg stays, enterWindow_told, told_link_notices,
        withNotices_entry]
      cases windowCase now m b <;> simp [withNotice, Notice.subject, Notice.kindBit]

/-! ### The sweep -/

theorem slotSubject_ne {i j : SlotNo} (h : i ≠ j) : (slotSubject i : Nat) ≠ slotSubject j := by
  simp only [slotSubject, ne_eq, Nat.add_left_cancel_iff]
  exact fun e => h (Fin.ext e)

/-- The part time that a sweep reads at its start is that of every slot it judges. -/
theorem judgeSlot_keeps_time (now m : Nat) (s : State) (i : SlotNo) (time : s.clock.now = now) :
    (judgeSlot now m i s).clock.now = now := by
  rw [judgeSlot_clock, time]

/-- What a slot holds, and what its subject shows. -/
def State.slotView (s : State) (i : SlotNo) : Option Bundle × KindSet :=
  (s.keyring.slots[i], s.link.notices[slotSubject i])

theorem slotView_judgeSlot_other {now m : Nat} {s : State} {i j : SlotNo} (time : s.clock.now = now) (h : i ≠ j) :
    (judgeSlot now m i s).slotView j = s.slotView j := by
  unfold State.slotView
  rw [judgeSlot_keyring_eq time, judgeSlot_notices_eq, slots_set_other _ h]
  exact congrArg (Prod.mk _) (Vector.getElem_set_ne _ _ (slotSubject_ne h))

theorem slotView_judgeSlot_same {now m : Nat} {s : State} (time : s.clock.now = now) (i : SlotNo) :
    (judgeSlot now m i s).slotView i =
      (judgedRecord now m (s.slotView i).1, (s.slotView i).2 ||| judgedBits now m (s.slotView i).1) := by
  unfold State.slotView
  rw [judgeSlot_keyring_eq time, judgeSlot_notices_eq, slots_set_same]
  exact congrArg (Prod.mk _) (Vector.getElem_set_self _)

theorem windowSweep_slotView (s : State) (i : SlotNo) :
    (windowSweep s).slotView i =
      (judgedRecord s.clock.now s.margin.margin s.keyring.slots[i],
        s.link.notices[slotSubject i] ||| judgedBits s.clock.now s.margin.margin s.keyring.slots[i]) := by
  unfold windowSweep
  rw [view_foldl_of_nodup (judgeSlot_keeps_time _ _) (fun _ _ _ => slotView_judgeSlot_other)
    (new := fun _ seen =>
      (judgedRecord s.clock.now s.margin.margin seen.1, seen.2 ||| judgedBits s.clock.now s.margin.margin seen.1))
    (fun _ i time => slotView_judgeSlot_same time i) (List.nodup_finRange 64) rfl i, if_pos (List.mem_finRange i)]
  rfl

theorem windowSweep_pool (s : State) :
    (windowSweep s).keyring.pool =
      s.keyring.pool.filter fun c =>
        decide ¬∃ i : SlotNo, c.number ∈ judgedFrees s.clock.now s.margin.margin s.keyring.slots[i] := by
  have gathered :=
    gathered_foldl_of_nodup (judgeSlot_keeps_time s.clock.now s.margin.margin) (view := State.slotView)
      (fun _ _ _ => slotView_judgeSlot_other) (gathered := fun t => t.keyring.pool)
      (add := fun _ seen pool => freeCells (judgedFrees s.clock.now s.margin.margin seen.1) pool)
      (fun t i time => by rw [judgeSlot_keyring_eq time]; rfl) (List.nodup_finRange 64) (s := s) rfl
  dsimp only [State.slotView] at gathered
  unfold windowSweep
  rw [gathered]
  simp only [freeCells_eq]
  rw [foldl_filter fun (i : SlotNo) (c : PoolCell) =>
    c.number ∈ judgedFrees s.clock.now s.margin.margin s.keyring.slots[i]]
  refine List.filter_congr fun c _ => decide_eq_decide.2 ?_
  simp

theorem windowSweep_notices_other (s : State) {k : SubjectNo} (h : k.val < 34) :
    (windowSweep s).link.notices[k] = s.link.notices[k] := by
  unfold windowSweep
  refine frame_of_foldl _ (fun t u => u.link.notices[k] = t.link.notices[k]) (fun _ => rfl)
    (fun _ _ _ first second => second.trans first) (fun t i => ?_) _ s
  rw [judgeSlot_notices_eq]
  refine Vector.getElem_set_ne _ _ ?_
  simp only [slotSubject]
  omega

/-- Settles O25: what the sweep leaves in a slot is what it leaves of the record that slot held before, since each slot is
judged once and alone. -/
theorem windowSweepRule : Obligations.WindowSweepRule := by
  unfold Obligations.WindowSweepRule
  intro s
  obtain ⟨queue, cursor⟩ := windowSweep_queue s
  have seen (i : SlotNo) := Prod.mk.inj (windowSweep_slotView s i)
  refine ⟨windowSweep_frame s, queue, cursor, fun i empty => ?_, fun i b held => ?_, fun i => ?_,
    fun k => windowSweep_notices_other s, fun link sync => ?_, ?_⟩
  · rw [(seen i).1, empty]
    rfl
  · rw [(seen i).1, held]
    rfl
  · rw [(seen i).2]
    cases s.keyring.slots[i] <;> rfl
  · exact ((Stirred.refl sync).windowSweep link.canHand).toUnasked
  · rw [windowSweep_pool]
    refine List.filter_congr fun c _ => decide_eq_decide.2 ?_
    simp only [mem_judgedFrees]
    rfl

end Sys2Proof.Machine

/-! ## The stop-time sweep (O26) -/

namespace Sys2Proof.Machine

/-! ### Uses returned (R67) -/

/-- What a slot holds once `n` uses of its bundle have been returned: a REVOKED record left with none is erased. -/
def returnedRecord (now n : Nat) : Option Bundle → Option Bundle
  | none => none
  | some b =>
    if 0 < n ∧ b.state = .revoked ∧ b.useCount ≤ n then
      some { b with useCount := 0, revocationMode := none, entryTime := now, poolRefs := [], wrappedKeys := [] }
    else some { b with useCount := b.useCount - n }

/-- The pool entries that the return of `n` uses frees. -/
def returnedFrees (n : Nat) : Option Bundle → List PoolNo
  | none => []
  | some b => if 0 < n ∧ b.state = .revoked ∧ b.useCount ≤ n then b.poolRefs else []

theorem mem_returnedFrees {n : Nat} {record : Option Bundle} {c : PoolNo} :
    c ∈ returnedFrees n record ↔
      ∃ b ∈ record, (0 < n ∧ b.state = .revoked ∧ b.useCount ≤ n) ∧ c ∈ b.poolRefs := by
  cases record with
  | none => simp [returnedFrees]
  | some b =>
    unfold returnedFrees
    dsimp only
    split <;> simp_all

theorem returnedRecord_zero (now : Nat) (record : Option Bundle) : returnedRecord now 0 record = record := by
  cases record <;> simp [returnedRecord]

theorem returnedFrees_zero (record : Option Bundle) : returnedFrees 0 record = [] := by
  cases record <;> simp [returnedFrees]

/-- A record that one returned use does not erase is erased by `n` more exactly when `n + 1` erase it. -/
theorem emptied_succ {b : Bundle} (first : ¬(b.state = .revoked ∧ b.useCount ≤ 1)) {n : Nat} :
    (0 < n ∧ b.state = .revoked ∧ b.useCount - 1 ≤ n) ↔ 0 < n + 1 ∧ b.state = .revoked ∧ b.useCount ≤ n + 1 := by
  constructor
  · rintro ⟨-, revoked, few⟩
    exact ⟨by omega, revoked, by omega⟩
  · rintro ⟨-, revoked, few⟩
    have more : ¬b.useCount ≤ 1 := fun h => first ⟨revoked, h⟩
    exact ⟨by omega, revoked, by omega⟩

/-- One use returned, and `n` more. -/
theorem returnedRecord_succ (now n : Nat) (record : Option Bundle) :
    returnedRecord now n (returnedRecord now 1 record) = returnedRecord now (n + 1) record := by
  cases record with
  | none => rfl
  | some b =>
    by_cases last : b.state = .revoked ∧ b.useCount ≤ 1
    · have later : b.useCount ≤ n + 1 := last.2.trans (by omega)
      simp [returnedRecord, last, later]
    · have first : ¬(0 < 1 ∧ b.state = .revoked ∧ b.useCount ≤ 1) := fun h => last h.2
      simp only [returnedRecord, if_neg first, emptied_succ last, Nat.sub_sub, Nat.add_comm 1 n]

theorem mem_returnedFrees_succ (now n : Nat) (record : Option Bundle) (c : PoolNo) :
    c ∈ returnedFrees (n + 1) record ↔
      c ∈ returnedFrees 1 record ∨ c ∈ returnedFrees n (returnedRecord now 1 record) := by
  cases record with
  | none => simp [returnedFrees, returnedRecord]
  | some b =>
    by_cases last : b.state = .revoked ∧ b.useCount ≤ 1
    · have later : b.useCount ≤ n + 1 := last.2.trans (by omega)
      simp [returnedFrees, returnedRecord, last, later]
    · have first : ¬(0 < 1 ∧ b.state = .revoked ∧ b.useCount ≤ 1) := fun h => last h.2
      simp only [returnedFrees, returnedRecord, if_neg first, emptied_succ last, List.not_mem_nil, false_or]

theorem Keyring.returned_eq (k : Keyring) (i : SlotNo) (now : Nat) :
    k.returned i now =
      { k with
        slots := k.slots.set i (returnedRecord now 1 k.slots[i])
        pool := freeCells (returnedFrees 1 k.slots[i]) k.pool } := by
  unfold Keyring.returned
  cases held : k.slots[i] with
  | none =>
    dsimp only [returnedRecord, returnedFrees]
    rw [freeCells_nil, ← held]
    simp
  | some b =>
    by_cases last : b.state = .revoked ∧ b.useCount ≤ 1
    · simp [returnedRecord, returnedFrees, last, freeCells_eq]
    · have first : ¬(0 < 1 ∧ b.state = .revoked ∧ b.useCount ≤ 1) := fun h => last h.2
      simp only [returnedRecord, returnedFrees, if_neg first, if_neg last, freeCells_nil]

/-- The keyring after a use of the bundle in each of the slots `uses` has been returned, one after the other. -/
theorem returned_foldl (now : Nat) (uses : List SlotNo) (k : Keyring) :
    (∀ i : SlotNo,
        (uses.foldl (fun k i => k.returned i now) k).slots[i] = returnedRecord now (uses.count i) k.slots[i]) ∧
      (uses.foldl (fun k i => k.returned i now) k).pool =
        (k.pool.filter fun c => decide ¬∃ i : SlotNo, c.number ∈ returnedFrees (uses.count i) k.slots[i]) ∧
      (uses.foldl (fun k i => k.returned i now) k).intakeQueue = k.intakeQueue ∧
      (uses.foldl (fun k i => k.returned i now) k).listCursor = k.listCursor := by
  induction uses generalizing k with
  | nil => simp [returnedRecord_zero, returnedFrees_zero]
  | cons j rest ih =>
    obtain ⟨slots, pool, queue, cursor⟩ := ih (k.returned j now)
    have same : (k.returned j now).slots[j] = returnedRecord now 1 k.slots[j] := by
      rw [k.returned_eq]
      exact slots_set_same ..
    have other (i : SlotNo) (h : j ≠ i) : (k.returned j now).slots[i] = k.slots[i] := by
      rw [k.returned_eq]
      exact slots_set_other _ h _
    rw [List.foldl_cons]
    refine ⟨fun i => ?_, ?_, queue.trans (by rw [k.returned_eq]), cursor.trans (by rw [k.returned_eq])⟩
    · rw [slots]
      by_cases this : j = i
      · subst this
        rw [same, returnedRecord_succ, List.count_cons_self]
      · rw [other i this, List.count_cons_of_ne this]
    · have first : (k.returned j now).pool = freeCells (returnedFrees 1 k.slots[j]) k.pool := by rw [k.returned_eq]
      rw [pool, first, freeCells_eq, List.filter_filter]
      refine List.filter_congr fun c _ => ?_
      rw [← Bool.decide_and, decide_eq_decide, ← not_or]
      refine not_congr ⟨?_, ?_⟩
      · rintro (⟨i, freed⟩ | freed)
        · refine ⟨i, ?_⟩
          by_cases this : j = i
          · subst this
            rw [List.count_cons_self, mem_returnedFrees_succ now]
            exact .inr (same ▸ freed)
          · rw [List.count_cons_of_ne this]
            exact other i this ▸ freed
        · refine ⟨j, ?_⟩
          rw [List.count_cons_self, mem_returnedFrees_succ now]
          exact .inl freed
      · rintro ⟨i, freed⟩
        by_cases this : j = i
        · subst this
          rw [List.count_cons_self, mem_returnedFrees_succ now] at freed
          exact freed.symm.imp (fun freed => ⟨j, same ▸ freed⟩) id
        · rw [List.count_cons_of_ne this] at freed
          exact .inl ⟨i, (other i this).symm ▸ freed⟩

/-! ### Jobs dropped lane by lane -/

theorem Engine.without_none (e : Engine) : e.without (fun _ => false) = e := by
  simp [Engine.without]

theorem without_foldl {ι : Type} (drops : ι → JobItem → Bool) (l : List ι) (e : Engine) :
    l.foldl (fun e i => e.without (drops i)) e = e.without fun item => l.any fun i => drops i item := by
  induction l generalizing e with
  | nil => exact e.without_none.symm
  | cons i rest ih =>
    rw [List.foldl_cons, ih, Engine.without_without]
    simp only [List.any_cons]

/-! ### One lane judged (R110 to R112) -/

/-- A lane whose stop time part time has passed. -/
abbrev Screening.Passed (now : Nat) (sc : Screening) : Prop :=
  (sc.status = .running ∨ sc.status = .stopping) ∧ now > sc.stopTime

/-- A RUNNING lane within the closing lead, not yet told of. -/
abbrev Screening.Near (now lead : Nat) (sc : Screening) : Prop :=
  sc.status = .running ∧ sc.closingNotice = false ∧ (sc.stopTime : Int) - now ≤ lead

/-- What the sweep leaves of a lane. -/
def sweptLane (now lead : Nat) : Option Screening → Option Screening
  | none => none
  | some sc =>
    if sc.Passed now then some (sc.ended .ended (if sc.status = .running then .stopTime else .revoked) now)
    else if sc.Near now lead then some { sc with closingNotice := true }
    else some sc

/-- The notices that the sweep posts for a lane. -/
def sweptBits (now lead : Nat) : Option Screening → KindSet
  | none => 0
  | some sc => if sc.Passed now then 0b00100 else if sc.Near now lead then 0b00010 else 0

/-- Whether the sweep ends a lane. -/
def sweepEnds (now : Nat) (lane : Option Screening) : Bool := lane.any fun sc => decide (sc.Passed now)

theorem sweepEnds_some (now : Nat) (sc : Screening) : sweepEnds now (some sc) = decide (sc.Passed now) := rfl

/-- The slot whose use a lane returns in the sweep. -/
def sweptUse (now : Nat) (lane : Option Screening) : Option SlotNo :=
  lane.bind fun sc => if sc.Passed now then some sc.bundleSlot else none

/-- What the sweep does at a lane: it ends it, tells of it, or leaves it. -/
theorem judgeLane_of_held {l : LaneNo} {s : State} {sc : Screening} (held : s.lanes[l] = some sc) (now lead : Nat) :
    judgeLane now lead l s =
      if sc.Passed now then
        endLane l .ended (if sc.status = .running then .stopTime else .revoked) (.laneEnded l) s
      else if sc.Near now lead then post (.windowClosing l) (setLane l (some { sc with closingNotice := true }) s)
      else s := by
  unfold judgeLane
  rw [held]
  dsimp only [finishLane]
  by_cases passed : sc.Passed now
  · rw [if_pos passed]
    obtain ⟨running | stopping, past⟩ := passed
    · rw [if_pos ⟨running, past⟩, if_pos running]
    · rw [if_neg (by simp [stopping]), if_pos ⟨stopping, past⟩, if_neg (by simp [stopping])]
  · rw [if_neg passed, if_neg fun h => passed ⟨.inl h.1, h.2⟩, if_neg fun h => passed ⟨.inr h.1, h.2⟩]

section
variable {now lead : Nat} {s : State} {l : LaneNo}

theorem judgeLane_of_closed (closed : s.lanes[l] = none) : judgeLane now lead l s = s := by
  unfold judgeLane
  rw [closed]

theorem judgeLane_lanes_eq (time : s.clock.now = now) (l : LaneNo) :
    (judgeLane now lead l s).lanes = s.lanes.set l (sweptLane now lead s.lanes[l]) := by
  cases held : s.lanes[l] with
  | none =>
    rw [judgeLane_of_closed held, sweptLane, ← held]
    simp
  | some sc =>
    rw [judgeLane_of_held held, sweptLane]
    split_ifs
    · rw [endLane_lanes_of_held held, time]
    · rw [endLane_lanes_of_held held, time]
    · rw [post_lanes, setLane_lanes]
    · rw [← held]
      simp

theorem judgeLane_notices_eq (now lead : Nat) (l : LaneNo) (s : State) :
    (judgeLane now lead l s).link.notices =
      s.link.notices.set (laneSubject l) (s.link.notices[laneSubject l] ||| sweptBits now lead s.lanes[l]) := by
  cases held : s.lanes[l] with
  | none =>
    rw [judgeLane_of_closed held]
    simp [sweptBits]
  | some sc =>
    rw [judgeLane_of_held held, sweptBits]
    split
    · rw [endLane_notices_of_held held]
      rfl
    · split
      · rw [post_link_notices]
        rfl
      · simp

theorem judgeLane_engine_eq (now lead : Nat) (l : LaneNo) (s : State) :
    (judgeLane now lead l s).engine =
      s.engine.without fun item => item.isRewrapOn l && sweepEnds now s.lanes[l] := by
  cases held : s.lanes[l] with
  | none =>
    rw [judgeLane_of_closed held]
    simp [sweepEnds, Engine.without_none]
  | some sc =>
    rw [judgeLane_of_held held]
    split
    next past =>
      rw [endLane_engine_of_held held, sweepEnds_some, decide_eq_true past]
      simp only [Bool.and_true]
    next still =>
      rw [sweepEnds_some, decide_eq_false still]
      simp only [Bool.and_false, Engine.without_none]
      split <;> simp

theorem judgeLane_keyring_eq (time : s.clock.now = now) (lead : Nat) (l : LaneNo) :
    (judgeLane now lead l s).keyring =
      match sweptUse now s.lanes[l] with
      | some i => s.keyring.returned i now
      | none => s.keyring := by
  cases held : s.lanes[l] with
  | none =>
    rw [judgeLane_of_closed held]
    rfl
  | some sc =>
    rw [judgeLane_of_held held, sweptUse, Option.bind_some]
    split
    · rw [endLane_keyring_of_held held, time]
    · split <;> simp

end

/-! ### The sweep -/

theorem laneSubject_ne {l m : LaneNo} (h : l ≠ m) : (laneSubject l : Nat) ≠ laneSubject m := by
  simp only [laneSubject, ne_eq, Nat.add_left_cancel_iff]
  exact fun e => h (Fin.ext e)

theorem judgeLane_keeps_time (now lead : Nat) (s : State) (l : LaneNo) (time : s.clock.now = now) :
    (judgeLane now lead l s).clock.now = now := by
  rw [judgeLane_clock, time]

/-- What a lane is, and what its subject shows. -/
def State.laneView (s : State) (l : LaneNo) : Option Screening × KindSet :=
  (s.lanes[l], s.link.notices[laneSubject l])

theorem laneView_judgeLane_other {now lead : Nat} {s : State} {l m : LaneNo} (time : s.clock.now = now) (h : l ≠ m) :
    (judgeLane now lead l s).laneView m = s.laneView m := by
  unfold State.laneView
  rw [judgeLane_lanes_eq time, judgeLane_notices_eq, lanes_set_other _ h]
  exact congrArg (Prod.mk _) (Vector.getElem_set_ne _ _ (laneSubject_ne h))

theorem laneView_judgeLane_same {now lead : Nat} {s : State} (time : s.clock.now = now) (l : LaneNo) :
    (judgeLane now lead l s).laneView l =
      (sweptLane now lead (s.laneView l).1, (s.laneView l).2 ||| sweptBits now lead (s.laneView l).1) := by
  unfold State.laneView
  rw [judgeLane_lanes_eq time, judgeLane_notices_eq, lanes_set_same]
  exact congrArg (Prod.mk _) (Vector.getElem_set_self _)

theorem stopTimeSweep_laneView (s : State) (l : LaneNo) :
    (stopTimeSweep s).laneView l =
      (sweptLane s.clock.now s.params.closingLead s.lanes[l],
        s.link.notices[laneSubject l] ||| sweptBits s.clock.now s.params.closingLead s.lanes[l]) := by
  unfold stopTimeSweep
  rw [view_foldl_of_nodup (judgeLane_keeps_time _ _) (fun _ _ _ => laneView_judgeLane_other)
    (new := fun _ seen =>
      (sweptLane s.clock.now s.params.closingLead seen.1,
        seen.2 ||| sweptBits s.clock.now s.params.closingLead seen.1))
    (fun _ l time => laneView_judgeLane_same time l) (List.nodup_finRange 32) rfl l, if_pos (List.mem_finRange l)]
  rfl

/-- Whether a job is a rewrap of a lane that the sweep ends. -/
def State.sweepDrops (s : State) : JobItem → Bool
  | .rewrap l _ _ _ => sweepEnds s.clock.now s.lanes[l]
  | _ => false

theorem sweepDrops_eq (s : State) (item : JobItem) :
    s.sweepDrops item = (List.finRange 32).any fun l => item.isRewrapOn l && sweepEnds s.clock.now s.lanes[l] := by
  cases item with
  | rewrap l _ _ _ =>
    rw [Bool.eq_iff_iff, List.any_eq_true]
    simp [State.sweepDrops, JobItem.isRewrapOn]
  | intake | bind => simp [State.sweepDrops, JobItem.isRewrapOn]

theorem stopTimeSweep_engine (s : State) : (stopTimeSweep s).engine = s.engine.without s.sweepDrops := by
  have gathered :=
    gathered_foldl_of_nodup (judgeLane_keeps_time s.clock.now s.params.closingLead) (view := State.laneView)
      (fun _ _ _ => laneView_judgeLane_other) (gathered := State.engine)
      (add := fun l seen e => e.without fun item => item.isRewrapOn l && sweepEnds s.clock.now seen.1)
      (fun t l _ => judgeLane_engine_eq ..) (List.nodup_finRange 32) (s := s) rfl
  dsimp only [State.laneView] at gathered
  unfold stopTimeSweep
  rw [gathered, without_foldl fun (l : LaneNo) item => item.isRewrapOn l && sweepEnds s.clock.now s.lanes[l],
    ← funext (sweepDrops_eq s)]

/-- The slots whose uses the sweep returns, lane by lane. -/
def State.sweptUses (s : State) : List SlotNo :=
  (List.finRange 32).filterMap fun l => sweptUse s.clock.now s.lanes[l]

theorem count_sweptUses (s : State) (i : SlotNo) : s.sweptUses.count i = usesOver s i := by
  unfold State.sweptUses usesOver
  rw [List.count_filterMap]
  refine List.countP_congr fun l _ => ?_
  cases s.lanes[l] with
  | none => simp [sweptUse]
  | some sc =>
    have passes : (sc.active && decide (sc.stopTime < s.clock.now)) = decide (sc.Passed s.clock.now) := by
      rw [Bool.eq_iff_iff, Bool.and_eq_true, Screening.active_iff, decide_eq_true_iff, decide_eq_true_iff]
    rw [Option.any_some, passes, sweptUse, Option.bind_some]
    split
    next past => simp only [decide_eq_true past, Bool.true_and, Option.some_beq_some]
    next still => simp only [decide_eq_false still, Bool.false_and, Option.none_beq_some]

theorem stopTimeSweep_keyring (s : State) :
    (stopTimeSweep s).keyring = s.sweptUses.foldl (fun k i => k.returned i s.clock.now) s.keyring := by
  have gathered :=
    gathered_foldl_of_nodup (judgeLane_keeps_time s.clock.now s.params.closingLead) (view := State.laneView)
      (fun _ _ _ => laneView_judgeLane_other) (gathered := State.keyring)
      (add := fun _ seen k =>
        match sweptUse s.clock.now seen.1 with
        | some i => k.returned i s.clock.now
        | none => k)
      (fun t l time => judgeLane_keyring_eq time _ l) (List.nodup_finRange 32) (s := s) rfl
  dsimp only [State.laneView] at gathered
  unfold stopTimeSweep State.sweptUses
  rw [gathered, List.foldl_filterMap]
  refine List.foldl_ext _ _ _ fun k l _ => ?_
  cases sweptUse s.clock.now s.lanes[l] <;> rfl

theorem stopTimeSweep_notices_other (s : State) {k : SubjectNo} (h : k.val < 2 ∨ 34 ≤ k.val) :
    (stopTimeSweep s).link.notices[k] = s.link.notices[k] := by
  unfold stopTimeSweep
  refine frame_of_foldl _ (fun t u => u.link.notices[k] = t.link.notices[k]) (fun _ => rfl)
    (fun _ _ _ first second => second.trans first) (fun t l => ?_) _ s
  rw [judgeLane_notices_eq]
  refine Vector.getElem_set_ne _ _ ?_
  simp only [laneSubject]
  omega

/-- Settles O26: each lane is judged once and alone, and what the sweep does to the keyring and the engine is what the
lanes it ends return and drop, one after the other. -/
theorem stopTimeSweepRule : Obligations.StopTimeSweepRule := by
  unfold Obligations.StopTimeSweepRule
  intro s
  have seen (l : LaneNo) := Prod.mk.inj (stopTimeSweep_laneView s l)
  obtain ⟨slots, pool, queue, cursor⟩ := returned_foldl s.clock.now s.sweptUses s.keyring
  rw [← stopTimeSweep_keyring] at slots pool queue cursor
  refine ⟨stopTimeSweep_frame s, fun l closed => ?_, fun l sc held => ?_, fun l => ?_,
    fun k => stopTimeSweep_notices_other s, fun link sync => ?_, fun i => ?_, queue, cursor, ?_, ?_⟩
  · rw [(seen l).1, closed]
    rfl
  · rw [(seen l).1, held]
    rfl
  · rw [(seen l).2]
    cases s.lanes[l] <;> rfl
  · exact ((Stirred.refl sync).stopTimeSweep link.canHand).toUnasked
  · rw [slots, count_sweptUses]
    cases s.keyring.slots[i] <;> rfl
  · exact stopTimeSweep_engine s
  · rw [pool]
    refine List.filter_congr fun c _ => decide_eq_decide.2 ?_
    simp only [count_sweptUses, mem_returnedFrees]

end Sys2Proof.Machine

/-! ## The revocation list and an order (R73 to R75) -/

namespace Sys2Proof.Machine

/-- No two entries of a list name the same target (R73). -/
abbrev DistinctTargets (list : List RevocationEntry) : Prop :=
  list.Pairwise fun d e => ¬(d.kind = e.kind ∧ d.target = e.target)

theorem RevocationEntry.sameTarget_iff {e : RevocationEntry} {o : Order} :
    e.sameTarget o = true ↔ e.kind = o.kind ∧ e.target = o.target := by
  rw [sameTarget, Bool.and_eq_true, beq_iff_eq, beq_iff_eq]

/-- A list holds one entry for an order's target at most. -/
theorem entry_unique {list : List RevocationEntry} (distinct : DistinctTargets list) {o : Order}
    {d e : RevocationEntry} (hd : d ∈ list) (he : e ∈ list) (sameD : d.sameTarget o = true)
    (sameE : e.sameTarget o = true) : d = e := by
  obtain ⟨kindD, targetD⟩ := RevocationEntry.sameTarget_iff.1 sameD
  obtain ⟨kindE, targetE⟩ := RevocationEntry.sameTarget_iff.1 sameE
  by_contra differ
  have symmetric : Std.Symm fun d e : RevocationEntry => ¬(d.kind = e.kind ∧ d.target = e.target) :=
    ⟨fun _ _ apart same => apart ⟨same.1.symm, same.2.symm⟩⟩
  exact distinct.forall hd he differ ⟨kindD.trans kindE.symm, targetD.trans targetE.symm⟩

/-! ### The earliest until -/

theorem foldl_min_lt (m u : Nat) (list : List RevocationEntry) :
    list.foldl (fun m d => min m d.expires) m < u ↔ m < u ∨ ∃ d ∈ list, d.expires < u := by
  induction list generalizing m with
  | nil => simp
  | cons e rest ih => rw [List.foldl_cons, ih, min_lt_iff, List.exists_mem_cons_iff, or_assoc]

theorem earliestUntil_lt {list : List RevocationEntry} (filled : list ≠ []) {u : Nat} :
    earliestUntil list < u ↔ ∃ e ∈ list, e.expires < u := by
  cases list with
  | nil => exact absurd rfl filled
  | cons e rest => rw [earliestUntil, foldl_min_lt, List.exists_mem_cons_iff]

theorem earliestUntil_le {list : List RevocationEntry} {e : RevocationEntry} (he : e ∈ list) :
    earliestUntil list ≤ e.expires :=
  Nat.le_of_lt_succ ((earliestUntil_lt (List.ne_nil_of_mem he)).2 ⟨e, he, Nat.lt_succ_self _⟩)

theorem exists_earliest {list : List RevocationEntry} (filled : list ≠ []) :
    ∃ e ∈ list, e.expires = earliestUntil list := by
  obtain ⟨e, he, early⟩ := (earliestUntil_lt filled).1 (Nat.lt_succ_self _)
  exact ⟨e, he, le_antisymm (Nat.le_of_lt_succ early) (earliestUntil_le he)⟩

/-- The entry removed is the first with the given until. -/
theorem removeFirstUntil_eq {u : Nat} {list : List RevocationEntry} (held : ∃ e ∈ list, e.expires = u) :
    ∃ n, ∃ h : n < list.length,
      removeFirstUntil u list = list.eraseIdx n ∧ list[n].expires = u ∧
        ∀ m, ∀ h' : m < list.length, m < n → list[m].expires ≠ u := by
  induction list with
  | nil => simp at held
  | cons e rest ih =>
    by_cases here : e.expires = u
    · exact ⟨0, by simp, if_pos here, here, fun m _ before => absurd before (Nat.not_lt_zero m)⟩
    · obtain ⟨d, hd, until_⟩ := held
      have later : d ∈ rest := (List.mem_cons.1 hd).resolve_left fun same => here (same ▸ until_)
      obtain ⟨n, h, removed, expires, first⟩ := ih ⟨d, later, until_⟩
      refine ⟨n + 1, by simpa using h, ?_, expires, fun m h' before => ?_⟩
      · rw [removeFirstUntil, if_neg here, removed, List.eraseIdx_cons_succ]
      · cases m with
        | zero => exact here
        | succ m => exact first m (by simpa using h') (by omega)

/-- The replaced entry has the earliest until, and of those with it is the oldest arrival (R75). -/
theorem removeEarliest_eq {list : List RevocationEntry} (filled : list ≠ []) :
    ∃ n, ∃ h : n < list.length,
      removeFirstUntil (earliestUntil list) list = list.eraseIdx n ∧
        ∀ m, ∀ h' : m < list.length,
          list[n].expires ≤ list[m].expires ∧ (m < n → list[n].expires < list[m].expires) := by
  obtain ⟨n, h, removed, expires, first⟩ := removeFirstUntil_eq (exists_earliest filled)
  refine ⟨n, h, removed, fun m h' => ?_⟩
  have least : earliestUntil list ≤ list[m].expires := earliestUntil_le (List.getElem_mem h')
  rw [expires]
  exact ⟨least, fun before => lt_of_le_of_ne least (first m h' before).symm⟩

/-! ### The ways of R75 -/

theorem find?_sameTarget_eq_none {list : List RevocationEntry} {o : Order}
    (unlisted : list.any (fun e => e.sameTarget o) = false) : list.find? (fun e => e.sameTarget o) = none :=
  List.find?_eq_none.2 fun e he => by simpa using List.any_eq_false.1 unlisted e he

/-- An order that finds its target on the list extends the entry, if its until is later, or keeps it. -/
theorem updateList_of_listed {list : List RevocationEntry} {o : Order} (distinct : DistinctTargets list)
    (listed : list.any (fun e => e.sameTarget o) = true) :
    updateList list o =
      some
        (if list.any fun e => e.sameTarget o && decide (e.expires < o.expires) then
          (list.map fun d => if d.sameTarget o then { d with expires := o.expires } else d, .extended)
        else (list, .kept)) := by
  obtain ⟨e, found⟩ := Option.isSome_iff_exists.1 (List.find?_isSome.2 (List.any_eq_true.1 listed))
  have he : e ∈ list := List.mem_of_find?_eq_some found
  have same : e.sameTarget o = true := List.find?_some (p := fun e : RevocationEntry => e.sameTarget o) found
  have later : (list.any fun d => d.sameTarget o && decide (d.expires < o.expires)) =
      decide (e.expires < o.expires) := by
    rw [Bool.eq_iff_iff, List.any_eq_true, decide_eq_true_iff]
    constructor
    · rintro ⟨d, hd, both⟩
      obtain ⟨sameD, early⟩ := Bool.and_eq_true_iff.1 both
      rw [← entry_unique distinct hd he sameD same]
      exact of_decide_eq_true early
    · exact fun early => ⟨e, he, by rw [same, decide_eq_true early]; rfl⟩
  unfold updateList
  rw [found, later]
  dsimp only
  by_cases early : e.expires < o.expires
  · rw [if_pos early, decide_eq_true early, if_pos rfl]
  · rw [if_neg early, decide_eq_false early, if_neg Bool.false_ne_true]

theorem updateList_of_room {list : List RevocationEntry} {o : Order}
    (unlisted : list.any (fun e => e.sameTarget o) = false) (room : list.length < 32) :
    updateList list o = some (list ++ [o.entry], .added) := by
  unfold updateList
  rw [find?_sameTarget_eq_none unlisted]
  exact if_pos room

theorem updateList_of_full {list : List RevocationEntry} {o : Order}
    (unlisted : list.any (fun e => e.sameTarget o) = false) (full : list.length = 32) :
    updateList list o =
      if list.any fun e => decide (e.expires < o.expires) then
        some (removeFirstUntil (earliestUntil list) list ++ [o.entry], .replaced)
      else none := by
  have filled : list ≠ [] := fun none => by simp [none] at full
  have noRoom : ¬list.length < Config.revocationRoom := by simp [full, Config.revocationRoom]
  have outlasts : earliestUntil list < o.expires ↔ (list.any fun e => decide (e.expires < o.expires)) = true := by
    simp [earliestUntil_lt filled]
  unfold updateList
  rw [find?_sameTarget_eq_none unlisted]
  dsimp only
  rw [if_neg noRoom]
  simp only [outlasts]

/-- An order whose target is listed, or for which there is room or an earlier entry to replace, is accepted. -/
theorem updateList_of_accepted {list : List RevocationEntry} {o : Order} (room : list.length ≤ 32)
    (distinct : DistinctTargets list)
    (accepted : list.any (fun e => e.sameTarget o) = true ∨ list.length < 32 ∨
      (list.any fun e => decide (e.expires < o.expires)) = true) :
    ∃ after action, updateList list o = some (after, action) := by
  cases listed : list.any fun e => e.sameTarget o with
  | true => exact ⟨_, _, updateList_of_listed distinct listed⟩
  | false =>
    obtain short | full := room.lt_or_eq
    · exact ⟨_, _, updateList_of_room listed short⟩
    · obtain other | short | outlasts := accepted
      · exact absurd other (by simp [listed])
      · exact absurd full (Nat.ne_of_lt short)
      · exact ⟨_, _, (updateList_of_full listed full).trans (if_pos outlasts)⟩

/-- An order that a full list accepts replaces the entry with the earliest until, the oldest arrival of those (R75). -/
theorem updateList_replaced {list after : List RevocationEntry} {o : Order} {action : ListAction}
    (unlisted : list.any (fun e => e.sameTarget o) = false) (full : list.length = 32)
    (updated : updateList list o = some (after, action)) :
    action = .replaced ∧
      ∃ n, ∃ h : n < list.length,
        after = list.eraseIdx n ++ [o.entry] ∧
          ∀ m, ∀ h' : m < list.length,
            list[n].expires ≤ list[m].expires ∧ (m < n → list[n].expires < list[m].expires) := by
  have filled : list ≠ [] := fun empty => by simp [empty] at full
  obtain ⟨n, h, removed, earliest⟩ := removeEarliest_eq filled
  rw [updateList_of_full unlisted full] at updated
  split at updated
  · cases updated
    exact ⟨rfl, n, h, by rw [removed], earliest⟩
  · cases updated

/-- What an accepted order makes of the list: an entry's until raised; nothing; or, its target unlisted, a new entry at
the tail of the list or of what a replacement leaves of it. -/
inductive ListMove (list : List RevocationEntry) (o : Order) : List RevocationEntry → Prop
  | raised : ListMove list o (list.map fun d => if d.sameTarget o then { d with expires := o.expires } else d)
  | kept : ListMove list o list
  | joined (unlisted : list.any (fun e => e.sameTarget o) = false) (left : List RevocationEntry)
    (sublist : left.Sublist list) (room : left.length < 32 ∨ left.length < list.length) :
    ListMove list o (left ++ [o.entry])

theorem updateList_move {list after : List RevocationEntry} {o : Order} {action : ListAction}
    (h : updateList list o = some (after, action)) : ListMove list o after := by
  unfold updateList at h
  split at h
  · split_ifs at h
    · cases h
      exact .raised
    · cases h
      exact .kept
  next none =>
    have unlisted : list.any (fun e => e.sameTarget o) = false :=
      List.any_eq_false.2 (List.find?_eq_none.1 none)
    split_ifs at h with room outlasts
    · cases h
      exact .joined unlisted list (.refl list) (.inl room)
    · cases h
      have filled : list ≠ [] := by
        rintro rfl
        exact room (by decide)
      obtain ⟨n, short, removed, -⟩ := removeEarliest_eq filled
      rw [removed]
      refine .joined unlisted _ (List.eraseIdx_sublist ..) (.inr ?_)
      rw [List.length_eraseIdx_of_lt short]
      omega

/-- An accepted order bars no target but those barred before and its own. -/
theorem ListMove.targets {list after : List RevocationEntry} {o : Order} (h : ListMove list o after)
    {e : RevocationEntry} (he : e ∈ after) :
    (∃ d ∈ list, d.kind = e.kind ∧ d.target = e.target) ∨ (e.kind = o.kind ∧ e.target = o.target) := by
  cases h with
  | raised =>
    obtain ⟨d, hd, rfl⟩ := List.mem_map.1 he
    refine .inl ⟨d, hd, ?_⟩
    split <;> exact ⟨rfl, rfl⟩
  | kept => exact .inl ⟨e, he, rfl, rfl⟩
  | joined unlisted left sublist room =>
    obtain before | new := List.mem_append.1 he
    · exact .inl ⟨e, sublist.subset before, rfl, rfl⟩
    · obtain rfl := List.mem_singleton.1 new
      exact .inr ⟨rfl, rfl⟩

theorem ListMove.distinct {list after : List RevocationEntry} {o : Order} (h : ListMove list o after)
    (distinct : DistinctTargets list) : DistinctTargets after := by
  cases h with
  | raised =>
    have kept (d : RevocationEntry) :
        (if d.sameTarget o then { d with expires := o.expires } else d : RevocationEntry).kind = d.kind ∧
          (if d.sameTarget o then { d with expires := o.expires } else d : RevocationEntry).target = d.target := by
      split <;> exact ⟨rfl, rfl⟩
    refine List.pairwise_map.2 (distinct.imp fun apart same => apart ?_)
    rwa [(kept _).1, (kept _).1, (kept _).2, (kept _).2] at same
  | kept => exact distinct
  | joined unlisted left sublist room =>
    refine List.pairwise_append.2 ⟨distinct.sublist sublist, List.pairwise_singleton .., fun d hd e he same => ?_⟩
    obtain rfl := List.mem_singleton.1 he
    exact List.any_eq_false.1 unlisted d (sublist.subset hd) (RevocationEntry.sameTarget_iff.2 same)

theorem ListMove.length_le {list after : List RevocationEntry} {o : Order} (h : ListMove list o after)
    (room : list.length ≤ 32) : after.length ≤ 32 := by
  cases h with
  | raised => rwa [List.length_map]
  | kept => exact room
  | joined unlisted left sublist short =>
    rw [List.length_append, List.length_singleton]
    omega

end Sys2Proof.Machine

/-! ## Applying an order to the keyring (R76 to R79) -/

namespace Sys2Proof.Machine

/-! ### What an order makes of a record -/

/-- WAITING, LIVE or CLOSING: past intake and not ended. -/
def Bundle.isOpen (b : Bundle) : Bool := b.state == .waiting || b.state == .live || b.state == .closing

/-- The order makes the record a tombstone: it matches, and is in UNWRAPPING or past intake with no use (R76, R77). -/
def Order.strikes (o : Order) (b : Bundle) : Bool :=
  b.matchesOrder o && (b.state == .unwrapping || b.isOpen && b.useCount == 0)

/-- The order revokes the record with its keys kept: it matches, and is in use (R78). -/
def Order.seizes (o : Order) (b : Bundle) : Bool := b.matchesOrder o && b.isOpen && b.useCount != 0

/-- The order raises the mode of a record revoked before (R78). -/
def Order.raises (o : Order) (b : Bundle) : Bool :=
  b.matchesOrder o && b.state == .revoked && b.useCount != 0 && o.mode == .immediate &&
    b.revocationMode == some .afterScreening

/-- The bundle counts as affected (R76). -/
def Order.affects (o : Order) (b : Bundle) : Bool := o.strikes b || o.seizes b || o.raises b

/-- The order stops the lanes that hold the bundle (R79). -/
def Order.halts (o : Order) (b : Bundle) : Bool := o.seizes b && o.mode == .immediate || o.raises b

/-- The order abandons the intake of the bundle (R77). -/
def Order.abandons (o : Order) (b : Bundle) : Bool := o.strikes b && b.state == .unwrapping

/-- The record as the order leaves it at part time `now`. -/
def Order.leaves (o : Order) (now : Nat) (b : Bundle) : Bundle :=
  if o.strikes b then { b with state := .revoked, entryTime := now, poolRefs := [], wrappedKeys := [] }
  else if o.seizes b then { b with state := .revoked, entryTime := now, revocationMode := some o.mode }
  else if o.raises b then { b with revocationMode := some .immediate }
  else b

/-- The pool entries that the order frees of a record. -/
def Order.frees (o : Order) (b : Bundle) : List PoolNo := if o.strikes b then b.poolRefs else []

/-- A record that an order does not affect is left as it is. -/
theorem Order.spares {o : Order} {b : Bundle} (h : o.affects b = false) :
    o.strikes b = false ∧ o.halts b = false ∧ ∀ now, o.leaves now b = b := by
  obtain ⟨⟨struck, seized⟩, raised⟩ : (o.strikes b = false ∧ o.seizes b = false) ∧ o.raises b = false := by
    simpa only [affects, Bool.or_eq_false_iff] using h
  simp [halts, leaves, struck, seized, raised]

theorem Order.halts_eq_false_of_strikes {o : Order} {b : Bundle} (h : o.strikes b = true) : o.halts b = false := by
  unfold strikes Bundle.isOpen at h
  unfold halts seizes raises Bundle.isOpen
  cases st : b.state <;> simp_all

theorem Order.affects_of_halts {o : Order} {b : Bundle} (h : o.halts b = true) : o.affects b = true := by
  unfold halts at h
  unfold affects
  cases seized : o.seizes b <;> simp_all

/-- What an order can do at slot `i`, with the bundles affected and the lanes stopped: nothing; it makes a record past
intake a tombstone, or abandons one in intake; or it revises a record in use, and may stop the lanes on it (R76 to
R79). -/
inductive StrikeMove (o : Order) (i : SlotNo) (s : State) : State × Nat × Nat → Prop
  | spared (unaffected : ∀ b, s.keyring.slots[i] = some b → o.affects b = false) : StrikeMove o i s (s, 0, 0)
  | buried (b : Bundle) (held : s.keyring.slots[i] = some b) (struck : o.strikes b = true)
    (past : b.state ≠ .unwrapping) : StrikeMove o i s (strikeUnused i b s, 1, 0)
  | abandoned (b : Bundle) (held : s.keyring.slots[i] = some b) (struck : o.strikes b = true)
    (intake : b.state = .unwrapping) : StrikeMove o i s (abandonIntake i b s, 1, 0)
  | revised (b : Bundle) (held : s.keyring.slots[i] = some b) (used : o.strikes b = false)
    (affected : o.affects b = true) (runs : o.halts b = false) :
    StrikeMove o i s (setBundle i (some (o.leaves s.clock.now b)) s, 1, 0)
  | halted (b : Bundle) (held : s.keyring.slots[i] = some b) (used : o.strikes b = false) (halts : o.halts b = true) :
    StrikeMove o i s
      ((stopLanes i (setBundle i (some (o.leaves s.clock.now b)) s)).1, 1,
        (stopLanes i (setBundle i (some (o.leaves s.clock.now b)) s)).2)

theorem strikeSlot_move (o : Order) (i : SlotNo) (s : State) : StrikeMove o i s (strikeSlot o i s) := by
  unfold strikeSlot
  split
  next empty => exact .spared fun b held => by simp [empty] at held
  next b held =>
    have spared (h : o.affects b = false) : StrikeMove o i s (s, 0, 0) :=
      .spared fun a ha => by rwa [← Option.some.inj (held.symm.trans ha)]
    split
    next misses => exact spared (by simp [Order.affects, Order.strikes, Order.seizes, Order.raises, misses])
    next hits =>
      have hit : b.matchesOrder o = true := by simpa using hits
      split
      next st => exact .abandoned b held (by simp [Order.strikes, hit, st]) st
      iterate 3
        next st =>
          have past : b.isOpen = true := by simp [Bundle.isOpen, st]
          split
          next unused => exact .buried b held (by simp [Order.strikes, hit, past, unused]) (by simp [st])
          next used =>
            have kept : o.strikes b = false := by simp [Order.strikes, st, used]
            have seized : o.seizes b = true := by simp [Order.seizes, hit, past, used]
            have leaves :
                { b.enter .revoked s.clock.now with revocationMode := some o.mode } = o.leaves s.clock.now b := by
              simp [Order.leaves, kept, seized, Bundle.enter]
            dsimp only
            rw [leaves]
            split
            next mode => exact .halted b held kept (by simp [Order.halts, seized, mode])
            next mode =>
              exact .revised b held kept (by simp [Order.affects, seized]) (by simp [Order.halts, Order.raises, mode])
      next st =>
        have kept : o.strikes b = false := by simp [Order.strikes, Bundle.isOpen, st]
        have unseized : o.seizes b = false := by simp [Order.seizes, Bundle.isOpen, st]
        split
        next raise =>
          obtain ⟨used, immediate, after⟩ := raise
          have raised : o.raises b = true := by simp [Order.raises, hit, st, Nat.ne_of_gt used, immediate, after]
          have leaves : { b with revocationMode := some .immediate } = o.leaves s.clock.now b := by
            simp [Order.leaves, kept, unseized, raised]
          dsimp only
          rw [leaves]
          exact .halted b held kept (by simp [Order.halts, raised])
        next low =>
          refine spared ?_
          rw [Nat.pos_iff_ne_zero] at low
          simpa [Order.affects, kept, unseized, Order.raises, hit, st] using low
      next st => exact spared (by simp [Order.affects, Order.strikes, Order.seizes, Order.raises, Bundle.isOpen, st])
      next st => exact spared (by simp [Order.affects, Order.strikes, Order.seizes, Order.raises, Bundle.isOpen, st])

theorem stopLanes_keyring (i : SlotNo) (s : State) : (stopLanes i s).1.keyring = s.keyring := by rw [stopLanes_frame]

/-- The keyring as an order leaves it at one slot. -/
def Order.onKeyring (o : Order) (now : Nat) (i : SlotNo) (k : Keyring) : Keyring :=
  { k with
    slots := k.slots.set i (k.slots[i].map (o.leaves now))
    pool := freeCells (k.slots[i].elim [] o.frees) k.pool
    intakeQueue := if k.slots[i].any o.abandons then k.intakeQueue.filter fun j => j != i else k.intakeQueue }

theorem Order.onKeyring_of_kept {o : Order} {now : Nat} {i : SlotNo} {k : Keyring} {b : Bundle}
    (held : k.slots[i] = some b) (used : o.strikes b = false) :
    o.onKeyring now i k = { k with slots := k.slots.set i (some (o.leaves now b)) } := by
  have still : o.abandons b = false := by simp [Order.abandons, used]
  simp [Order.onKeyring, Order.frees, held, used, still, freeCells_nil]

theorem Order.onKeyring_of_struck {o : Order} {now : Nat} {i : SlotNo} {k : Keyring} {b : Bundle}
    (held : k.slots[i] = some b) (struck : o.strikes b = true) :
    o.onKeyring now i k =
      { k with
        slots :=
          k.slots.set i (some { b with state := .revoked, entryTime := now, poolRefs := [], wrappedKeys := [] })
        pool := freeCells b.poolRefs k.pool
        intakeQueue := if b.state = .unwrapping then k.intakeQueue.filter fun j => j != i else k.intakeQueue } := by
  simp [Order.onKeyring, Order.leaves, Order.frees, Order.abandons, held, struck]

theorem strikeSlot_keyring (o : Order) (i : SlotNo) (s : State) :
    (strikeSlot o i s).1.keyring = o.onKeyring s.clock.now i s.keyring := by
  have move := strikeSlot_move o i s
  generalize strikeSlot o i s = after at move ⊢
  cases move with
  | spared unaffected =>
    cases held : s.keyring.slots[i] with
    | none =>
      have same : s.keyring.slots.set i none = s.keyring.slots := by rw [← held]; simp
      simp [Order.onKeyring, held, freeCells_nil, same]
    | some b =>
      obtain ⟨used, -, leaves⟩ := Order.spares (unaffected b held)
      have same : s.keyring.slots.set i (some b) = s.keyring.slots := by rw [← held]; simp
      rw [Order.onKeyring_of_kept held used, leaves, same]
  | buried b held struck past =>
    rw [Order.onKeyring_of_struck held struck, if_neg past]
    rfl
  | abandoned b held struck intake =>
    rw [abandonIntake, presentIntake_keyring, dropJobs_keyring]
    rw [Order.onKeyring_of_struck held struck, if_pos intake]
    rfl
  | revised b held used => exact (Order.onKeyring_of_kept held used).symm
  | halted b held used =>
    rw [stopLanes_keyring]
    exact (Order.onKeyring_of_kept held used).symm

theorem strikeSlot_slot_other (o : Order) {i j : SlotNo} (h : i ≠ j) (s : State) :
    (strikeSlot o i s).1.keyring.slots[j] = s.keyring.slots[j] := by
  rw [strikeSlot_keyring]
  exact slots_set_other _ h _

theorem strikeSlot_slot_same (o : Order) (i : SlotNo) (s : State) :
    (strikeSlot o i s).1.keyring.slots[i] = s.keyring.slots[i].map (o.leaves s.clock.now) := by
  rw [strikeSlot_keyring]
  exact slots_set_same ..

theorem strikeSlot_time (o : Order) (i : SlotNo) (s : State) : (strikeSlot o i s).1.clock = s.clock := by
  rw [strikeSlot_frame]

/-- Every record is struck once and alone. -/
theorem applyOrder_slots (o : Order) (s : State) (i : SlotNo) :
    (applyOrder o s).1.keyring.slots[i] = s.keyring.slots[i].map (o.leaves s.clock.now) := by
  rw [applyOrder_fst]
  rw [view_foldl_of_nodup (view := fun (t : State) (i : SlotNo) => t.keyring.slots[i])
    (holds := fun t => t.clock.now = s.clock.now) (new := fun _ => Option.map (o.leaves s.clock.now))
    (fun t i time => by rw [strikeSlot_time, time]) (fun t i j _ other => strikeSlot_slot_other o other t)
    (fun t i time => by rw [strikeSlot_slot_same, time]) (List.nodup_finRange 64) rfl i, if_pos (List.mem_finRange i)]

end Sys2Proof.Machine

/-! ## Barred bundles stay out (O9)

`BarsKept s t` says that an event from `s` to `t` keeps the list within its bounds and brings no barred bundle into a
state that may still serve.  Every command keeps it: an order and a delivery by their checks, an expiry pass by
shortening the list, and every other change of a record by leaving its ids. -/

namespace Sys2Proof.Machine

/-- The states of a bundle that could still serve a new screening (R76). -/
abbrev BundleState.Serves (st : BundleState) : Prop :=
  st = .unwrapping ∨ st = .waiting ∨ st = .live ∨ st = .closing

theorem BundleState.serves_of_inWindow {st : BundleState} (h : st.inWindow = true) : st.Serves := by
  cases st <;> simp_all [inWindow, Serves]

/-- No entry of the list bars the bundle. -/
abbrev Bundle.Free (list : List RevocationEntry) (b : Bundle) : Prop :=
  ∀ e ∈ list, ¬(e.kind = .bundle ∧ e.target = b.bundleId) ∧ ¬(e.kind = .feature ∧ e.target = b.featureId)

/-- An event keeps the revocation list in its bounds, and the serving bundles free of it. -/
structure BarsKept (s t : State) : Prop where
  listed : RevocationsOk s → RevocationsOk t
  free : NoneBarred s → NoneBarred t

namespace BarsKept

theorem trans {a b c : State} (h : BarsKept a b) (k : BarsKept b c) : BarsKept a c :=
  ⟨fun ok => k.listed (h.listed ok), fun none => k.free (h.free none)⟩

theorem of_eq {s t : State} (keyring : t.keyring.slots = s.keyring.slots := by simp)
    (revocations : t.revocations = s.revocations := by simp) : BarsKept s t where
  listed ok := by
    unfold RevocationsOk
    rwa [revocations]
  free none := by
    unfold NoneBarred
    rwa [keyring, revocations]

theorem refl (s : State) : BarsKept s s := of_eq rfl rfl

theorem overlooks : Overlooks BarsKept := ⟨trans, fun _ _ _ => of_eq rfl rfl⟩

theorem foldl {α : Type} (f : State → α → State) (one : ∀ t i, BarsKept t (f t i)) (l : List α) (s : State) :
    BarsKept s (l.foldl f s) :=
  frame_of_foldl f BarsKept refl (fun _ _ _ => trans) one l s

/-! ### Records -/

/-- One slot changed: what it holds then, if it may still serve, is free of the list. -/
theorem replaced {s t : State} {i : SlotNo} {new : Option Bundle}
    (free : NoneBarred s → ∀ a, new = some a → a.state.Serves → a.Free s.revocations)
    (slots : t.keyring.slots = s.keyring.slots.set i new := by rfl)
    (revocations : t.revocations = s.revocations := by rfl) : BarsKept s t where
  listed ok := by
    unfold RevocationsOk
    rwa [revocations]
  free none := by
    intro j a ha serves
    rw [revocations]
    rw [slots] at ha
    by_cases same : i = j
    · subst same
      exact free none a ((slots_set_same ..).symm.trans ha) serves
    · rw [slots_set_other _ same] at ha
      exact none j a ha serves

/-- A record changed into one of the same ids, which serves only where it served before. -/
theorem revised {s t : State} {i : SlotNo} {b a : Bundle} (held : s.keyring.slots[i] = some b)
    (serves : a.state.Serves → b.state.Serves) (slots : t.keyring.slots = s.keyring.slots.set i (some a) := by rfl)
    (revocations : t.revocations = s.revocations := by rfl) (bundleId : a.bundleId = b.bundleId := by rfl)
    (featureId : a.featureId = b.featureId := by rfl) : BarsKept s t := by
  refine replaced (fun none c hc serving => ?_) slots revocations
  obtain rfl := Option.some.inj hc
  have before := none i b held (serves serving)
  rwa [Bundle.Free, bundleId, featureId]

theorem enterWindow {i : SlotNo} {s : State} {b x : Bundle} (held : s.keyring.slots[i] = some b)
    (serves : b.state.Serves) (st : BundleState) (bundleId : x.bundleId = b.bundleId := by rfl)
    (featureId : x.featureId = b.featureId := by rfl) : BarsKept s (enterWindow i x st s) := by
  unfold Machine.enterWindow
  rw [postEntry_frame]
  refine trans ?_ (overlooks.link _ _)
  split
  · exact revised (a := ({ x with poolRefs := [], wrappedKeys := [] } : Bundle).enter .expired s.clock.now) held
      (fun _ => serves) rfl rfl bundleId featureId
  · exact revised (a := x.enter st s.clock.now) held (fun _ => serves) rfl rfl bundleId featureId

theorem judgeSlot (now m : Nat) (i : SlotNo) (s : State) : BarsKept s (judgeSlot now m i s) := by
  unfold Machine.judgeSlot
  split
  · exact refl s
  next b held =>
    split
    next judged => exact enterWindow held (BundleState.serves_of_inWindow judged.1) _
    · exact refl s

theorem windowSweep (s : State) : BarsKept s (windowSweep s) := foldl _ (fun t i => judgeSlot _ _ i t) _ s

theorem takeUse (i : SlotNo) (s : State) : BarsKept s (takeUse i s) := by
  unfold Machine.takeUse
  split
  next b held => exact revised (a := { b with useCount := b.useCount + 1 }) held id
  · exact refl s

theorem returnUse (i : SlotNo) (s : State) : BarsKept s (returnUse i s) := by
  unfold Machine.returnUse
  split
  · exact refl s
  next b held =>
    dsimp only
    split
    · exact revised (b := b)
        (a :=
          { b with
            useCount := 0, revocationMode := none, entryTime := s.clock.now, poolRefs := [], wrappedKeys := [] })
        held id
    · exact revised (a := { b with useCount := b.useCount - 1 }) held id

theorem endLane (l : LaneNo) (status : LaneStatus) (cause : EndCause) (notice : Notice) (s : State) :
    BarsKept s (endLane l status cause notice s) := by
  unfold Machine.endLane
  split
  · exact refl s
  · exact overlooks.post (trans of_eq (returnUse ..)) _

theorem judgeLane (now lead : Nat) (l : LaneNo) (s : State) : BarsKept s (judgeLane now lead l s) := by
  unfold Machine.judgeLane
  split
  · exact refl s
  · split_ifs
    · exact endLane ..
    · exact endLane ..
    · exact of_eq
    · exact refl s

theorem stopTimeSweep (s : State) : BarsKept s (stopTimeSweep s) := foldl _ (fun t l => judgeLane _ _ l t) _ s

theorem bothSweeps (order : SweepOrder) (s : State) : BarsKept s (bothSweeps order s) := by
  cases order
  · exact (windowSweep _).trans (stopTimeSweep _)
  · exact (stopTimeSweep _).trans (windowSweep _)

theorem resetSlot (i : SlotNo) (s : State) : BarsKept s (resetSlot i s) := by
  unfold Machine.resetSlot
  split
  · exact refl s
  next b held =>
    split_ifs
    · exact replaced (new := none) fun _ _ none => by cases none
    · exact revised (b := b)
        (a :=
          { b with
            useCount := 0, revocationMode := none, entryTime := s.clock.now, poolRefs := [], wrappedKeys := [] })
        held id
    · exact revised (a := { b with useCount := 0 }) held id

theorem queued (s : State) (queue : List SlotNo) (cursor : SlotNo) :
    BarsKept s { s with keyring := { s.keyring with intakeQueue := queue, listCursor := cursor } } := of_eq rfl rfl

theorem leaveQueue (i : SlotNo) (s : State) : BarsKept s (leaveQueue i s) := of_eq rfl rfl

theorem resetKeyring (s : State) : BarsKept s (resetKeyring s) :=
  (foldl _ (fun t i => resetSlot i t) (List.finRange 64) s).trans (queued ..)

/-! ### Intake -/

theorem endIntake {i : SlotNo} {s : State} {b : Bundle} (held : s.keyring.slots[i] = some b)
    (unwrapping : b.state = .unwrapping) : BarsKept s (endIntake i b s) := by
  refine (overlooks.post (leaveQueue i s) (.bundleReady i)).trans (enterWindow (b := b) ?_ (.inl unwrapping) _)
  rwa [post_keyring, leaveQueue_keyring_slots]

theorem passReel {i : SlotNo} {s : State} {b : Bundle} (held : s.keyring.slots[i] = some b)
    (unwrapping : b.state = .unwrapping) (key : KeyMaterial) : BarsKept s (passReel i b key s) := by
  have grown (pool : List PoolCell) :
      BarsKept s
        (Machine.setBundle i
          (some { b with reelsUnwrapped := b.reelsUnwrapped + 1, wrappedKeys := b.wrappedKeys.tail })
          { s with keyring := { s.keyring with pool } }) :=
    revised (a := { b with reelsUnwrapped := b.reelsUnwrapped + 1, wrappedKeys := b.wrappedKeys.tail }) held id
  unfold Machine.passReel
  dsimp only
  split
  · exact grown _
  · exact (grown _).trans (endIntake (slots_set_same ..) unwrapping)

theorem failReel {i : SlotNo} {s : State} {b : Bundle} (held : s.keyring.slots[i] = some b) :
    BarsKept s (failReel i b s) := by
  have erased : BarsKept s (eraseKeys i b (fun b => b.enter .failed s.clock.now) s) :=
    revised (a := ({ b with poolRefs := [], wrappedKeys := [] } : Bundle).enter .failed s.clock.now) held
      fun serves => by simp [Bundle.enter, BundleState.Serves] at serves
  exact overlooks.post (erased.trans (leaveQueue ..)) _

theorem deliverIntake (outcome : Option KeyMaterial) (j : ServiceJob) (s : State) :
    BarsKept s (deliverIntake outcome j s) := by
  unfold Machine.deliverIntake
  split
  · split
    · exact refl s
    next b held =>
      split
      next awaits =>
        split
        · exact passReel held awaits.1 _
        · exact failReel held
      · exact refl s
  · exact refl s

theorem deliverRewrap (outcome : Option WrappedReelKey) (j : ServiceJob) (s : State) :
    BarsKept s (deliverRewrap outcome j s) := by
  unfold Machine.deliverRewrap
  split
  · split
    · exact refl s
    · split
      · split
        · exact of_eq
        · exact endLane ..
      · exact refl s
  · exact refl s

theorem grant (s : State) : BarsKept s (grant s) := of_eq

/-! ### Deliveries and orders -/

theorem free_of_not_barred {list : List RevocationEntry} {b : Bundle}
    (passed : barred list b.bundleId b.featureId = false) : b.Free list := by
  intro e he
  have spares := List.any_eq_false.1 passed e he
  cases kind : e.kind <;> simp_all

/-- A delivery that no check refuses is barred by no entry (R44). -/
theorem acceptDelivery {tagOver : Option BundleTag} {d : Delivery} {s : State}
    (passed : deliveryRefusal tagOver d s = none) (i : SlotNo) : BarsKept s (acceptDelivery d i s) := by
  have spared : barred s.revocations d.bundleId d.featureId = false := by
    unfold deliveryRefusal at passed
    split_ifs at passed with tag listed
    simpa using listed
  unfold Machine.acceptDelivery
  dsimp only
  refine trans (overlooks.presentIntake (t := { s with keyring := _ }) ?_) (grant _)
  refine replaced (new := some (newRecord d ((freeNumbers s.keyring.pool).take d.reelCount) s.clock.now))
    fun _ a ha _ => ?_
  obtain rfl := Option.some.inj ha
  exact free_of_not_barred spared

theorem not_serves_of_revoked {st : BundleState} (h : st = .revoked) : ¬st.Serves := by
  simp [BundleState.Serves, h]

/-- A record that serves after an order is one that the order spares. -/
theorem serves_leaves {o : Order} {now : Nat} {b : Bundle} (serves : (o.leaves now b).state.Serves) :
    o.leaves now b = b ∧ b.state.Serves ∧ b.matchesOrder o = false := by
  unfold Order.leaves at serves ⊢
  split_ifs at serves ⊢ with struck seized raised
  · exact absurd serves (not_serves_of_revoked rfl)
  · exact absurd serves (not_serves_of_revoked rfl)
  · simp only [Order.raises, Bool.and_eq_true, beq_iff_eq] at raised
    obtain ⟨⟨⟨⟨-, revoked⟩, -⟩, -⟩, -⟩ := raised
    exact absurd serves (not_serves_of_revoked revoked)
  · refine ⟨rfl, serves, ?_⟩
    rw [Bool.not_eq_true] at struck seized
    unfold Order.strikes at struck
    unfold Order.seizes at seized
    obtain st | st | st | st := serves <;> simp_all [Bundle.isOpen]

/-- An order strikes out of the serving states every bundle that it bars (R76). -/
theorem order {o : Order} {s t : State} {list : List RevocationEntry} (move : ListMove s.revocations o list)
    (slots : ∀ i : SlotNo, t.keyring.slots[i] = s.keyring.slots[i].map (o.leaves s.clock.now))
    (revocations : t.revocations = list) : BarsKept s t where
  listed ok := by
    obtain ⟨room, distinct⟩ := ok
    rw [RevocationsOk, revocations]
    exact ⟨move.length_le room, move.distinct distinct⟩
  free none := by
    intro i a ha serves e he
    rw [slots] at ha
    rw [revocations] at he
    obtain ⟨b, held, rfl⟩ := Option.map_eq_some_iff.1 ha
    obtain ⟨spared, before, misses⟩ := serves_leaves serves
    rw [spared]
    obtain ⟨d, hd, kind, target⟩ | ⟨kind, target⟩ := move.targets he
    · rw [← kind, ← target]
      exact none i b held before d hd
    · rw [kind, target]
      unfold Bundle.matchesOrder at misses
      cases of : o.kind with
      | bundle | feature =>
        rw [of] at misses
        simp [Ne.symm (beq_eq_false_iff_ne.1 misses)]

/-! ### Ticks, claims and start-ups -/

/-- The records may be left alone before an operation. -/
theorem after_eq {s t u : State} (op : BarsKept t u) (slots : t.keyring.slots = s.keyring.slots := by rfl)
    (revocations : t.revocations = s.revocations := by rfl) : BarsKept s u :=
  (of_eq slots revocations).trans op

/-- An expiry pass only shortens the list (R82). -/
theorem expiryPass (s : State) : BarsKept s (expiryPass s) where
  listed ok := by
    obtain ⟨room, distinct⟩ := ok
    exact ⟨(List.length_filter_le ..).trans room, distinct.sublist List.filter_sublist⟩
  free none i b held serves e he := none i b held serves e (List.mem_of_mem_filter he)

theorem evaluateAndSweep (cause : EvalCause) (s : State) : BarsKept s (evaluateAndSweep cause s) := by
  unfold Machine.evaluateAndSweep
  dsimp only
  split
  · exact of_eq
  · exact trans of_eq (windowSweep _)

theorem takeDueExpiry (s : State) : BarsKept s (takeDueExpiry s) := by
  unfold Machine.takeDueExpiry
  split
  · exact after_eq (expiryPass _)
  · exact refl s

theorem takeDueWindow (s : State) : BarsKept s (takeDueWindow s) := by
  unfold Machine.takeDueWindow
  split
  · exact after_eq (windowSweep _)
  · exact refl s

theorem takeDueStopTime (s : State) : BarsKept s (takeDueStopTime s) := by
  unfold Machine.takeDueStopTime
  split
  · exact after_eq (stopTimeSweep _)
  · exact refl s

theorem clockTick_settleDue (s : State) : BarsKept s (clockTick (settleDue s)) := by
  have settled : BarsKept s (settleDue s) := ((takeDueExpiry s).trans (takeDueWindow _)).trans (takeDueStopTime _)
  refine settled.trans ?_
  unfold clockTick
  dsimp only
  split
  · exact of_eq
  · exact of_eq rfl rfl

theorem tickWhole (order : SweepOrder) (s : State) : BarsKept s (tickWhole order s) :=
  ((clockTick_settleDue s).trans (expiryPass _)).trans (bothSweeps ..)

theorem tickClockOnly (s : State) : BarsKept s (tickClockOnly s) := (clockTick_settleDue s).trans (of_eq rfl rfl)

theorem claimed (T : Nat) (order : SweepOrder) (s : State) : BarsKept s (afterClaim order (takeClaim T s)) := by
  have taken : BarsKept s (takeClaim T s) := by
    rw [(takeClaim_eq T s).1]
    exact of_eq rfl rfl
  exact taken.trans (((expiryPass _).trans of_eq).trans (bothSweeps ..))

theorem startValid (s : State) : BarsKept s (startValid s) := after_eq (resetKeyring _)

theorem beginOperation (s : State) : BarsKept s (beginOperation s) := by
  unfold Machine.beginOperation
  split
  · exact (trans of_eq (expiryPass _)).trans (bothSweeps ..)
  · exact refl s

theorem beginCut (judged : JudgedSoFar) (expired : Bool) (s : State) : BarsKept s (beginCut judged expired s) := by
  have passed : BarsKept s (if expired then Machine.expiryPass s else s) := by
    split
    · exact expiryPass s
    · exact refl s
  unfold Machine.beginCut
  split
  · dsimp only
    split
    · exact passed
    · exact passed.trans of_eq
    · exact (passed.trans of_eq).trans (windowSweep _)
  · exact refl s

/-- A retained loss leaves no record and no entry (R18, R85). -/
theorem startLost (s : State) : BarsKept s (startLost s) where
  listed _ := by simp [RevocationsOk, Machine.startLost]
  free _ i b held := by simp [Machine.startLost, Keyring.empty] at held

theorem powerOn (s : State) : BarsKept s { s with powered := true } := of_eq rfl rfl

theorem withoutPower (s : State) : BarsKept s (withoutPower s) := of_eq rfl rfl

/-! ### Requests -/

theorem deleteBundle (id : Ident) (r : Request) (s : State) : BarsKept s (deleteBundle id r s) := by
  unfold Machine.deleteBundle
  split
  · exact of_eq
  · split
    · exact of_eq
    · split_ifs
      · exact of_eq
      · exact of_eq
      · exact overlooks.answer (replaced (new := none) fun _ _ none => by cases none) ..

theorem openChosen (q : OpenRequest) (r : Request) (s : State) : BarsKept s (openChosen q r s) := by
  unfold Machine.openChosen
  split
  · exact of_eq
  · split
    · exact of_eq
    next i _ =>
      split
      · exact of_eq
      · refine overlooks.answer ((takeUse i s).trans (of_eq ?_ ?_)) ..
        · rw [openOn, grant_keyring, fillAtOpen_frame, setLane_keyring]
        · rw [openOn, grant_revocations, fillAtOpen_frame, setLane_revocations]

theorem endScreening (l : LaneNo) (r : Request) (s : State) : BarsKept s (endScreening l r s) := by
  unfold Machine.endScreening
  split
  · exact of_eq
  · split
    · exact overlooks.answer (endLane ..) ..
    · exact overlooks.answer (endLane ..) ..
    · exact of_eq
    · exact of_eq

theorem acceptBegin (q : BeginRequest) (sc : Screening) (n : Nat) (p : Position) (holder : SlotName) (r : Request)
    (s : State) : BarsKept s (acceptBegin q sc n p holder r s) := by
  unfold Machine.acceptBegin
  dsimp only
  split
  · exact of_eq (by rw [answer_keyring, grant_keyring, refillAfter_frame, setLane_keyring])
      (by rw [answer_revocations, grant_revocations, refillAfter_frame, setLane_revocations])
  · split
    · exact overlooks.answer (after_eq (endLane ..)) ..
    · exact of_eq (by rw [answer_keyring, grant_keyring, refillAfter_frame, alignSlots_frame, setLane_keyring])
        (by rw [answer_revocations, grant_revocations, refillAfter_frame, alignSlots_frame, setLane_revocations])

theorem reelBegin (q : BeginRequest) (r : Request) (s : State) : BarsKept s (reelBegin q r s) := by
  unfold Machine.reelBegin beginReel
  split
  · exact of_eq
  · split
    · exact of_eq
    · exact of_eq
    · exact overlooks.answer (endLane ..) ..
    · dsimp only
      split
      · exact of_eq
      · split
        · exact of_eq
        · split_ifs
          · exact of_eq
          · exact of_eq
          · exact acceptBegin ..

end BarsKept

/-- The commands that leave every record and the revocation list alone. -/
def sparesRecords : Instr → Bool
  | .serialFrame _ | .lanFrame _ _ | .serialByteTimeout | .frameSent | .unknownKind | .mainPowerLoss | .batterySecond
  | .cellFailed | .identify | .provisionWrite | .provisionFinalize | .collect | .dismiss | .noticeHold | .restart
  | .clockStatus | .marginStatus | .bundleStatus | .listBundles | .listRevocations | .engineStatus | .sync
  | .bindScreen | .unbindScreen | .setBias | .laneStatus | .closeLane | .fetchReel | .amendScreening | .fetchReport
  | .bindComplete _ => true
  | _ => false

/-- `t` holds the records and the revocation list of `s`. -/
def SameRecords (s t : State) : Prop := t.keyring.slots = s.keyring.slots ∧ t.revocations = s.revocations

namespace SameRecords

theorem of_eq {s t : State} (slots : t.keyring.slots = s.keyring.slots := by simp)
    (revocations : t.revocations = s.revocations := by simp) : SameRecords s t := ⟨slots, revocations⟩

theorem overlooks : Overlooks SameRecords :=
  ⟨fun h k => ⟨k.1.trans h.1, k.2.trans h.2⟩, fun _ _ _ => ⟨rfl, rfl⟩⟩

end SameRecords

theorem exec_sameRecords {c : Instr} {s t : State} (spares : sparesRecords c = true) (e : exec c s = .next t) :
    SameRecords s t := by
  have ifThen {cond : Bool} {t : State} (acts : SameRecords s t) : SameRecords s (if cond then t else s) := by
    split
    · exact acts
    · exact .of_eq
  cases c with
  | serialFrame bytes | serialByteTimeout =>
    obtain rfl := Host.Outcome.next.inj e
    refine ifThen ?_
    rw [takeSerial_frame]
    exact .of_eq
  | lanFrame bytes checkPasses =>
    obtain rfl := Host.Outcome.next.inj e
    refine ifThen ?_
    split
    · exact .of_eq
    · rw [acceptFrame_frame]
      exact .of_eq
  | frameSent =>
    obtain rfl := Host.Outcome.next.inj e
    split
    · exact .of_eq
    · exact ifThen .of_eq
  | unknownKind =>
    obtain rfl := Host.Outcome.next.inj e
    refine ifThen ?_
    split
    · exact .of_eq
    · split <;> exact .of_eq
  | mainPowerLoss =>
    obtain rfl := Host.Outcome.next.inj e
    exact ifThen (.of_eq rfl rfl)
  | batterySecond | cellFailed =>
    obtain rfl := Host.Outcome.next.inj e
    split <;> exact .of_eq
  | identify | clockStatus | marginStatus | listRevocations | engineStatus =>
    obtain rfl := Host.Outcome.next.inj e
    exact SameRecords.overlooks.serveBare (fun r t => .of_eq) s
  | provisionWrite =>
    obtain rfl := Host.Outcome.next.inj e
    refine SameRecords.overlooks.serve (fun r t => ?_) s
    rw [provisionWrite_frame]
    exact .of_eq
  | provisionFinalize =>
    obtain rfl := Host.Outcome.next.inj e
    refine SameRecords.overlooks.serveBare (fun r t => ?_) s
    split
    · exact .of_eq
    · split <;> exact .of_eq
  | collect | restart =>
    obtain rfl := Host.Outcome.next.inj e
    exact SameRecords.overlooks.serveBare (fun r t => .of_eq) s
  | noticeHold =>
    obtain rfl := Host.Outcome.next.inj e
    refine SameRecords.overlooks.serveWith (fun hold r t _ => SameRecords.overlooks.answer ?_ ..) s
    split <;> exact .of_eq
  | bundleStatus =>
    obtain rfl := Host.Outcome.next.inj e
    refine SameRecords.overlooks.serveWith (fun q r t _ => ?_) s
    split
    · exact .of_eq
    · split <;> exact .of_eq
  | sync =>
    obtain rfl := Host.Outcome.next.inj e
    refine SameRecords.overlooks.serveBare (fun r t => ?_) s
    split
    · exact .of_eq
    · split <;> exact .of_eq
  | bindScreen | unbindScreen | setBias =>
    obtain rfl := Host.Outcome.next.inj e
    refine SameRecords.overlooks.serveWith (fun q r t _ => ?_) s
    dsimp only [whenClosed]
    split <;> exact .of_eq
  | dismiss | listBundles | laneStatus =>
    obtain rfl := Host.Outcome.next.inj e
    exact SameRecords.overlooks.serveWith (fun q r t _ => .of_eq) s
  | closeLane =>
    obtain rfl := Host.Outcome.next.inj e
    exact SameRecords.overlooks.serveWith (fun q r t _ => .of_eq (by rw [closeLane_frame]) (by rw [closeLane_frame])) s
  | fetchReel =>
    obtain rfl := Host.Outcome.next.inj e
    exact SameRecords.overlooks.serveWith (fun q r t _ => .of_eq (by rw [fetchReel_frame]) (by rw [fetchReel_frame])) s
  | amendScreening =>
    obtain rfl := Host.Outcome.next.inj e
    exact SameRecords.overlooks.serveWith
      (fun q r t _ => .of_eq (by rw [amendScreening_frame]) (by rw [amendScreening_frame])) s
  | fetchReport =>
    obtain rfl := Host.Outcome.next.inj e
    exact SameRecords.overlooks.serveWith
      (fun q r t _ => .of_eq (by rw [fetchReport_frame]) (by rw [fetchReport_frame])) s
  | bindComplete outcome =>
    obtain rfl := Host.Outcome.next.inj e
    exact SameRecords.overlooks.completeJob
      (fun j t => .of_eq (by rw [deliverBind_frame]) (by rw [deliverBind_frame])) (fun _ => .of_eq) (fun _ => .of_eq) s
  | _ => simp [sparesRecords] at spares

/-- Every event keeps the list in its bounds and the serving bundles free of it. -/
theorem exec_barsKept {c : Instr} {s t : State} (e : exec c s = .next t) : BarsKept s t := by
  by_cases spares : sparesRecords c = true
  · obtain ⟨slots, revocations⟩ := exec_sameRecords spares e
    exact .of_eq slots revocations
  have refused (r : Request) (status : Status) (body : List Byte) (t : State) :
      BarsKept t (answer r status body t) := .of_eq
  have ifThen {cond : Bool} {t : State} (acts : BarsKept s t) : BarsKept s (if cond then t else s) := by
    split
    · exact acts
    · exact .refl s
  cases c with
  | restartReset =>
    obtain rfl := Host.Outcome.next.inj e
    exact ifThen (.after_eq (.resetKeyring _))
  | tick part =>
    obtain rfl := Host.Outcome.next.inj e
    cases part with
    | whole order => exact ifThen (.tickWhole ..)
    | clockOnly => exact ifThen (.tickClockOnly s)
    | expiryPass => exact ifThen (.takeDueExpiry s)
    | windowSweep => exact ifThen (.takeDueWindow s)
    | stopTimeSweep => exact ifThen (.takeDueStopTime s)
  | stalenessMinute order | replenish order =>
    obtain rfl := Host.Outcome.next.inj e
    exact ifThen (.tickWhole ..)
  | timeClaim tagOver order =>
    obtain rfl := Host.Outcome.next.inj e
    refine BarsKept.overlooks.serveWith (fun T r t _ => ?_) s
    dsimp only
    split
    · exact BarsKept.overlooks.answer (.claimed ..) ..
    · exact refused ..
  | siteParameter =>
    obtain rfl := Host.Outcome.next.inj e
    refine BarsKept.overlooks.serveWith (fun q r t _ => BarsKept.overlooks.answer ?_ ..) s
    split
    · exact .after_eq (.evaluateAndSweep ..)
    · exact .of_eq rfl rfl
  | setShape | setTerm =>
    obtain rfl := Host.Outcome.next.inj e
    refine BarsKept.overlooks.serveWith (fun ⟨i, entry⟩ r t _ => BarsKept.overlooks.answer ?_ ..) s
    exact .after_eq (.evaluateAndSweep ..)
  | deliverBundle tagOver =>
    obtain rfl := Host.Outcome.next.inj e
    refine BarsKept.overlooks.serve (fun r t => ?_) s
    split
    · exact refused ..
    · split
      · exact refused ..
      · split
        · exact refused ..
        next passed _ => exact BarsKept.overlooks.answer (.acceptDelivery passed _) ..
        · exact refused ..
  | deleteBundle =>
    obtain rfl := Host.Outcome.next.inj e
    exact BarsKept.overlooks.serveWith (fun q r t _ => .deleteBundle ..) s
  | revoke tagOver =>
    obtain rfl := Host.Outcome.next.inj e
    refine BarsKept.overlooks.serveWith (fun o r t _ => ?_) s
    split
    · exact refused ..
    · split
      · exact refused ..
      · split
        · exact refused ..
        next list action updated =>
          have kept : BarsKept t (applyOrder o { t with revocations := list }).1 :=
            .order (updateList_move updated) (applyOrder_slots o { t with revocations := list })
              (by rw [applyOrder_frame])
          split
          next done _ _ struck =>
            rw [struck] at kept
            exact BarsKept.overlooks.answer kept ..
  | openScreening =>
    obtain rfl := Host.Outcome.next.inj e
    refine BarsKept.overlooks.serveWith (fun q r t _ => ?_) s
    split
    · exact refused ..
    · split_ifs
      · exact refused ..
      · exact refused ..
      · exact refused ..
      · exact .openChosen ..
  | endScreening =>
    obtain rfl := Host.Outcome.next.inj e
    exact BarsKept.overlooks.serveWith (fun q r t _ => .endScreening ..) s
  | reelBegin =>
    obtain rfl := Host.Outcome.next.inj e
    exact BarsKept.overlooks.serveWith (fun q r t _ => .reelBegin ..) s
  | intakeUnwrapComplete outcome =>
    obtain rfl := Host.Outcome.next.inj e
    exact BarsKept.overlooks.completeJob (.deliverIntake outcome) (fun _ => .of_eq) .grant s
  | rewrapComplete outcome =>
    obtain rfl := Host.Outcome.next.inj e
    exact BarsKept.overlooks.completeJob (.deliverRewrap outcome) .refl .grant s
  | powerUp checkMatches run =>
    obtain ⟨-, rfl⟩ | ⟨-, -, rfl⟩ | ⟨-, -, -, rfl | ⟨judged, expired, rfl⟩⟩ | ⟨-, -, -, rfl | rfl⟩ :=
      powerUp_cases e
    · exact .refl t
    · exact .of_eq rfl rfl
    · exact ((BarsKept.startValid s).trans (.beginOperation _)).trans (.powerOn _)
    · exact ((BarsKept.startValid s).trans (.beginCut ..)).trans (.withoutPower _)
    · exact (BarsKept.startLost s).trans (.powerOn _)
    · exact (BarsKept.startLost s).trans (.withoutPower _)
  | _ => simp [sparesRecords] at spares

/-- Settles O9: every event keeps `BarsKept`, and a step is an event or none. -/
theorem barredBundlesStayOut : Obligations.BarredBundlesStayOut := by
  unfold Obligations.BarredBundlesStayOut
  intro s t ok none stepped
  obtain ⟨-, rfl⟩ | ⟨c, rest, -, e⟩ := step_cases stepped
  · exact ⟨ok, none⟩
  · have kept := exec_barsKept e
    exact ⟨kept.listed ok, kept.free none⟩

end Sys2Proof.Machine

/-! ## An order's strikes, record by record and lane by lane (R77 to R79) -/

namespace Sys2Proof.Machine

/-! ### Lanes stopped (R79) -/

/-- A screening with one reel slot emptied, if that slot is QUEUED or UNWRAPPING. -/
def Screening.withoutWorking (n : SlotName) (sc : Screening) : Screening :=
  if (sc.slot n).hasJob then sc.withSlot n .empty else sc

/-- The record of a lane that has been stopped. -/
def Screening.stopped (sc : Screening) : Screening :=
  { sc with
    status := .stopping
    slotX := if sc.slotX.hasJob then .empty else sc.slotX
    slotY := if sc.slotY.hasJob then .empty else sc.slotY }

theorem Screening.stopped_eq (sc : Screening) :
    { (sc.withoutWorking .x).withoutWorking .y with status := .stopping } = sc.stopped := by
  cases x : sc.slotX.hasJob <;> cases y : sc.slotY.hasJob <;> simp [withoutWorking, stopped, slot, withSlot, x, y]

/-- Whether a screening's reel slot is QUEUED or UNWRAPPING. -/
def worksAt (n : SlotName) (lane : Option Screening) : Bool := lane.any fun sc => (sc.slot n).hasJob

theorem emptyWorking_eq (l : LaneNo) (n : SlotName) (s : State) :
    emptyWorking l n s = if worksAt n s.lanes[l] then emptySlot l n s else s := by
  unfold emptyWorking worksAt
  cases s.lanes[l] <;> rfl

theorem emptySlot_lane (l : LaneNo) (n : SlotName) (s : State) (m : LaneNo) :
    (emptySlot l n s).lanes[m] = if l = m then (s.lanes[m]).map (fun sc => sc.withSlot n .empty) else s.lanes[m] := by
  rw [emptySlot, dropJobs_lanes, modifyLane_get]

theorem emptyWorking_lane (l : LaneNo) (n : SlotName) (s : State) (m : LaneNo) :
    (emptyWorking l n s).lanes[m] = if l = m then (s.lanes[m]).map (Screening.withoutWorking n) else s.lanes[m] := by
  have emptied : (s.lanes[l]).map (Screening.withoutWorking n) =
      if worksAt n s.lanes[l] then (s.lanes[l]).map (fun sc => sc.withSlot n .empty) else s.lanes[l] := by
    unfold worksAt Screening.withoutWorking
    cases s.lanes[l] with
    | none => rfl
    | some sc => exact apply_ite some ..
  rw [emptyWorking_eq]
  by_cases same : l = m
  · subst same
    rw [if_pos rfl, emptied]
    split
    · exact (emptySlot_lane ..).trans (if_pos rfl)
    · rfl
  · rw [if_neg same]
    split
    · exact (emptySlot_lane ..).trans (if_neg same)
    · rfl

theorem emptyWorking_engine (l : LaneNo) (n : SlotName) (s : State) :
    (emptyWorking l n s).engine = s.engine.without fun item => worksAt n s.lanes[l] && item.isRewrapOf l n := by
  rw [emptyWorking_eq]
  cases worksAt n s.lanes[l] with
  | true => exact emptySlot_engine_without ..
  | false => exact s.engine.without_none.symm

/-- The rewraps for the working slots of lane `l`, whose record is `lane`. -/
def JobItem.worksOn (l : LaneNo) (lane : Option Screening) : JobItem → Bool
  | .rewrap m n _ _ => m == l && worksAt n lane
  | _ => false

theorem JobItem.worksOn_eq (l : LaneNo) (lane : Option Screening) (item : JobItem) :
    (worksAt .x lane && item.isRewrapOf l .x || worksAt .y lane && item.isRewrapOf l .y) = item.worksOn l lane := by
  cases item with
  | rewrap m n p u => cases n <;> simp [isRewrapOf, worksOn, Bool.and_comm]
  | intake | bind => simp [isRewrapOf, worksOn]

theorem stopLane_lane (l : LaneNo) (s : State) (m : LaneNo) :
    (stopLane l s).lanes[m] = if l = m then (s.lanes[m]).map Screening.stopped else s.lanes[m] := by
  rw [stopLane, modifyLane_get, emptyWorking_lane, emptyWorking_lane]
  split
  · rw [Option.map_map, Option.map_map]
    exact Option.map_congr fun sc _ => sc.stopped_eq
  · rfl

theorem stopLane_engine (l : LaneNo) (s : State) :
    (stopLane l s).engine = s.engine.without (JobItem.worksOn l s.lanes[l]) := by
  have seenY : worksAt .y (emptyWorking l .x s).lanes[l] = worksAt .y s.lanes[l] := by
    rw [emptyWorking_lane, if_pos rfl, worksAt, Option.any_map]
    refine congrArg (fun p => (s.lanes[l]).any p) (funext fun sc => ?_)
    dsimp only [Function.comp_apply, Screening.withoutWorking]
    split <;> rfl
  rw [stopLane, modifyLane_engine, emptyWorking_engine, emptyWorking_engine, seenY, Engine.without_without]
  exact congrArg s.engine.without (funext (JobItem.worksOn_eq l s.lanes[l]))

/-- The screenings that hold the bundle of a slot, lane by lane. -/
def State.lanesUsing (s : State) (i : SlotNo) (l : LaneNo) : Option Screening :=
  (s.lanes[l]).filter fun sc => sc.bundleSlot == i

/-- Whether a lane is RUNNING. -/
def runs (lane : Option Screening) : Bool := lane.any fun sc => sc.status == .running

theorem lanesOn_eq (i : SlotNo) (s : State) :
    lanesOn i s = (List.finRange 32).filter fun l => runs (s.lanesUsing i l) := by
  refine List.filter_congr fun l _ => ?_
  unfold runs State.lanesUsing
  cases s.lanes[l] with
  | none => rfl
  | some sc => by_cases here : sc.bundleSlot = i <;> simp [Option.filter_some, here]

theorem lanesUsing_of_runs {s : State} {i : SlotNo} {l : LaneNo} (on : runs (s.lanesUsing i l) = true) :
    s.lanesUsing i l = s.lanes[l] := by
  obtain ⟨sc, using_, -⟩ := (Option.any_eq_true ..).1 on
  exact using_.trans (Option.filter_eq_some_iff.1 using_).1.symm

theorem mem_lanesOn {i : SlotNo} {s : State} {l : LaneNo} : l ∈ lanesOn i s ↔ runs (s.lanesUsing i l) = true := by
  rw [lanesOn_eq, List.mem_filter, and_iff_right (List.mem_finRange l)]

theorem stopLanes_lane (i : SlotNo) (s : State) (l : LaneNo) :
    (stopLanes i s).1.lanes[l] = if l ∈ lanesOn i s then (s.lanes[l]).map Screening.stopped else s.lanes[l] :=
  view_foldl_of_nodup (f := fun t l => stopLane l t) (view := fun (t : State) (l : LaneNo) => t.lanes[l])
    (holds := fun _ => True) (new := fun _ => Option.map Screening.stopped) (fun _ _ h => h)
    (fun t l m _ other => by rw [stopLane_lane, if_neg other]) (fun t l _ => by rw [stopLane_lane, if_pos rfl])
    ((List.nodup_finRange 32).filter _) trivial l

/-- The rewraps for the working slots of the RUNNING lanes among those given. -/
def JobItem.haltedBy (lanes : LaneNo → Option Screening) : JobItem → Bool
  | .rewrap l n _ _ => runs (lanes l) && worksAt n (lanes l)
  | _ => false

theorem stopLanes_engine (i : SlotNo) (s : State) :
    (stopLanes i s).1.engine = s.engine.without (JobItem.haltedBy (s.lanesUsing i)) := by
  have gathered :=
    gathered_foldl_of_nodup (f := fun t l => stopLane l t) (view := fun (t : State) (l : LaneNo) => t.lanes[l])
      (holds := fun _ => True) (fun _ _ h => h) (fun t l m _ other => by rw [stopLane_lane, if_neg other])
      (gathered := State.engine) (add := fun l lane e => e.without (JobItem.worksOn l lane))
      (fun t l _ => stopLane_engine l t) (l := lanesOn i s) ((List.nodup_finRange 32).filter _) (s := s) trivial
  rw [stopLanes, gathered, without_foldl]
  refine congrArg s.engine.without (funext fun item => ?_)
  cases item with
  | rewrap l n p u =>
    rw [Bool.eq_iff_iff, List.any_eq_true]
    simp only [JobItem.worksOn, JobItem.haltedBy, Bool.and_eq_true, beq_iff_eq, mem_lanesOn]
    constructor
    · rintro ⟨m, on, rfl, works⟩
      exact ⟨on, (lanesUsing_of_runs on).symm ▸ works⟩
    · rintro ⟨on, works⟩
      exact ⟨l, on, rfl, lanesUsing_of_runs on ▸ works⟩
  | intake | bind => simp [JobItem.worksOn, JobItem.haltedBy]

theorem stopLanes_count (i : SlotNo) (s : State) :
    (stopLanes i s).2 = (List.finRange 32).countP fun l => runs (s.lanesUsing i l) := by
  rw [stopLanes, lanesOn_eq, List.countP_eq_length_filter]

theorem stopLanes_notices (i : SlotNo) (s : State) : (stopLanes i s).1.link.notices = s.link.notices :=
  frame_of_foldl _ (fun t u => u.link.notices = t.link.notices) (fun _ => rfl) (fun _ _ _ h k => k.trans h)
    (fun t l => stopLane_link_notices l t) _ s

/-! ### The intake that an order leaves (R47, R77) -/

/-- The next reel to unwrap of the record in a slot, with the slot. -/
def Keyring.nextReel (k : Keyring) (i : SlotNo) : Option (SlotNo × Nat) :=
  (k.slots[i]).map fun b => (i, b.reelsUnwrapped + 1)

/-- The engine once the intake requester has presented a reel, if it has one and no intake job exists. -/
def Engine.asking (e : Engine) : Option (SlotNo × Nat) → Engine
  | none => e
  | some (i, reel) =>
    if intakeJobExists e then e
    else { e with queued := e.queued ++ [{ item := .intake i reel, inSnapshot := false }] }

theorem presentIntake_engine (s : State) :
    (presentIntake s).engine = s.engine.asking (s.keyring.intakeQueue.head?.bind s.keyring.nextReel) := by
  unfold presentIntake
  cases s.keyring.intakeQueue with
  | nil => rfl
  | cons i rest =>
    rw [List.head?_cons, Option.bind_some, Keyring.nextReel]
    dsimp only
    cases s.keyring.slots[i] with
    | none => rfl
    | some b =>
      dsimp only [Option.map_some, Engine.asking]
      split <;> rfl

theorem abandonIntake_engine (i : SlotNo) (b : Bundle) (s : State) :
    (abandonIntake i b s).engine =
      (s.engine.without (JobItem.isIntakeOf i)).asking
        ((abandonIntake i b s).keyring.intakeQueue.head?.bind (abandonIntake i b s).keyring.nextReel) := by
  unfold abandonIntake
  rw [presentIntake_keyring, presentIntake_engine, dropJobs_engine_without]
  rfl

/-! ### One strike -/

/-- What a strike at a slot looks at: the record there, and the screenings that hold its bundle. -/
def State.onSlot (s : State) (i : SlotNo) : Option Bundle × (LaneNo → Option Screening) :=
  (s.keyring.slots[i], s.lanesUsing i)

/-- A screening as an order leaves it that finds the record `b` in its bundle slot. -/
def Order.onLane (o : Order) (b : Option Bundle) (sc : Screening) : Screening :=
  if sc.status == .running && b.any o.halts then sc.stopped else sc

/-- The jobs that a strike at slot `i` drops. -/
def Order.drops (o : Order) (i : SlotNo) (seen : Option Bundle × (LaneNo → Option Screening)) (item : JobItem) :
    Bool :=
  seen.1.any o.abandons && item.isIntakeOf i || seen.1.any o.halts && item.haltedBy seen.2

/-- The number of lanes that a strike stops. -/
def Order.haltCount (o : Order) (seen : Option Bundle × (LaneNo → Option Screening)) : Nat :=
  (List.finRange 32).countP fun l => seen.1.any o.halts && runs (seen.2 l)

theorem Order.onLane_of_spared {o : Order} {b : Option Bundle} (h : b.any o.halts = false) (sc : Screening) :
    o.onLane b sc = sc := by
  simp [onLane, h]

theorem Order.abandons_of_strikes_eq_false {o : Order} {b : Bundle} (h : o.strikes b = false) :
    o.abandons b = false := by
  simp [abandons, h]

/-- All that a strike does, read off what it looks at. -/
structure Strike (o : Order) (i : SlotNo) (s : State) (out : State × Nat × Nat) : Prop where
  lane (l : LaneNo) :
    out.1.lanes[l] =
      (s.lanes[l]).map fun sc => if sc.bundleSlot = i then o.onLane s.keyring.slots[i] sc else sc
  engine :
    out.1.engine =
      if (s.keyring.slots[i]).any o.abandons then
        (s.engine.without (o.drops i (s.onSlot i))).asking
          (out.1.keyring.intakeQueue.head?.bind out.1.keyring.nextReel)
      else s.engine.without (o.drops i (s.onSlot i))
  affected : out.2.1 = if (s.keyring.slots[i]).any o.affects then 1 else 0
  stopped : out.2.2 = o.haltCount (s.onSlot i)
  notices : out.1.link.notices = s.link.notices

namespace Strike

section
variable {o : Order} {i : SlotNo} {s : State}

/-- A strike that stops no lane and abandons no intake. -/
theorem of_quiet {t : State} {n : Nat} (runs : (s.keyring.slots[i]).any o.halts = false)
    (intake : (s.keyring.slots[i]).any o.abandons = false)
    (affected : n = if (s.keyring.slots[i]).any o.affects then 1 else 0)
    (lanes : t.lanes = s.lanes := by rfl) (engine : t.engine = s.engine := by rfl)
    (link : t.link = s.link := by rfl) : Strike o i s (t, n, 0) where
  lane l := by
    simp only [lanes, Order.onLane_of_spared runs, ite_self]
    exact Option.map_id'.symm
  engine := by
    have none : o.drops i (s.onSlot i) = fun _ => false := by
      funext item
      simp only [Order.drops, State.onSlot, runs, intake, Bool.false_and, Bool.or_false]
    rw [none, intake, if_neg Bool.false_ne_true, Engine.without_none]
    exact engine
  affected := affected
  stopped := by
    simp only [Order.haltCount, State.onSlot, runs, Bool.false_and]
    exact (congrFun List.countP_false _).symm
  notices := congrArg Link.notices link

theorem of_abandoned {b : Bundle} (held : s.keyring.slots[i] = some b) (struck : o.strikes b = true)
    (intake : b.state = .unwrapping) : Strike o i s (abandonIntake i b s, 1, 0) := by
  have spared : o.halts b = false := o.halts_eq_false_of_strikes struck
  have abandoned : o.abandons b = true := by simp [Order.abandons, struck, intake]
  have drops : o.drops i (s.onSlot i) = JobItem.isIntakeOf i := by
    funext item
    simp [Order.drops, State.onSlot, held, spared, abandoned]
  constructor
  case lane =>
    intro l
    have lanes : (abandonIntake i b s).lanes = s.lanes := by rw [abandonIntake_frame]
    simp [lanes, held, Order.onLane_of_spared, spared]
  case engine =>
    rw [drops, held, Option.any_some, if_pos abandoned]
    exact abandonIntake_engine i b s
  case affected => simp [held, Order.affects, struck]
  case stopped => simp [Order.haltCount, State.onSlot, held, spared]
  case notices =>
    dsimp only [abandonIntake]
    rw [presentIntake_link, dropJobs_link_notices]
    rfl

theorem of_halted {b : Bundle} (held : s.keyring.slots[i] = some b) (used : o.strikes b = false)
    (halts : o.halts b = true) (after : Option Bundle) :
    Strike o i s ((stopLanes i (setBundle i after s)).1, 1, (stopLanes i (setBundle i after s)).2) := by
  have going : o.abandons b = false := o.abandons_of_strikes_eq_false used
  constructor
  case lane =>
    intro l
    have on : l ∈ lanesOn i (setBundle i after s) ↔ runs (s.lanesUsing i l) = true := mem_lanesOn
    dsimp only
    rw [stopLanes_lane, setBundle_lanes]
    simp only [on, runs, State.lanesUsing, held, Order.onLane, Option.any_some, halts, Bool.and_true]
    cases s.lanes[l] with
    | none => simp
    | some sc => by_cases here : sc.bundleSlot = i <;> simp [Option.filter_some, here, apply_ite some]
  case engine =>
    have drops : o.drops i (s.onSlot i) = JobItem.haltedBy (s.lanesUsing i) := by
      funext item
      simp [Order.drops, State.onSlot, held, halts, going]
    rw [drops, held, Option.any_some, if_neg (by simp [going])]
    exact stopLanes_engine i (setBundle i after s)
  case affected => simp [held, o.affects_of_halts halts]
  case stopped =>
    refine (stopLanes_count i (setBundle i after s)).trans ?_
    simp only [Order.haltCount, State.onSlot, held, Option.any_some, halts, Bool.true_and]
    rfl
  case notices => exact stopLanes_notices i (setBundle i after s)

end

end Strike

theorem strikeSlot_strike (o : Order) (i : SlotNo) (s : State) : Strike o i s (strikeSlot o i s) := by
  have move := strikeSlot_move o i s
  generalize strikeSlot o i s = out at move ⊢
  cases move with
  | spared unaffected =>
    have none (p : Bundle → Bool) (spared : ∀ b, o.affects b = false → p b = false) :
        (s.keyring.slots[i]).any p = false := by
      cases held : s.keyring.slots[i] with
      | none => rfl
      | some b => exact spared b (unaffected b held)
    refine .of_quiet (none _ fun b h => (Order.spares h).2.1) (none _ fun b h => ?_) ?_
    · exact o.abandons_of_strikes_eq_false (Order.spares h).1
    · rw [none _ fun _ h => h]
      rfl
  | buried b held struck past =>
    refine .of_quiet ?_ ?_ ?_
    · rw [held, Option.any_some, o.halts_eq_false_of_strikes struck]
    · simp [held, Order.abandons, past]
    · simp [held, Order.affects, struck]
  | abandoned b held struck intake => exact .of_abandoned held struck intake
  | revised b held used affected spared =>
    refine .of_quiet ?_ ?_ ?_
    · rw [held, Option.any_some, spared]
    · rw [held, Option.any_some, o.abandons_of_strikes_eq_false used]
    · rw [held, Option.any_some, if_pos affected]
  | halted b held used halts => exact .of_halted held used halts _

end Sys2Proof.Machine

/-! ## An order applied slot by slot (R76 to R79) -/

namespace Sys2Proof.Machine

/-! ### Passes that count -/

theorem foldl_add_ite {ι : Type} (p : ι → Bool) (l : List ι) (m : Nat) :
    l.foldl (fun n i => n + if p i then 1 else 0) m = m + l.countP p := by
  induction l generalizing m with
  | nil => rfl
  | cons i rest ih => rw [List.foldl_cons, ih, List.countP_cons, Nat.add_assoc, Nat.add_comm (List.countP p rest)]

theorem countP_or_of_apart {β : Type} {p q : β → Bool} (apart : ∀ x, p x = true → q x = false) (items : List β) :
    (items.countP fun x => p x || q x) = items.countP p + items.countP q := by
  induction items with
  | nil => rfl
  | cons x rest ih =>
    rw [List.countP_cons, List.countP_cons, List.countP_cons, ih]
    cases hp : p x with
    | true =>
      simp only [apart x hp, Bool.true_or, if_true]
      simp only [Bool.false_eq_true, if_false]
      omega
    | false =>
      simp only [Bool.false_or, Bool.false_eq_true, if_false]
      omega

/-- A pass that counts, item by item, what at most one item has. -/
theorem foldl_countP {ι β : Type} {p : ι → β → Bool} (unique : ∀ i j x, p i x = true → p j x = true → i = j)
    {l : List ι} (once : l.Nodup) (items : List β) (m : Nat) :
    l.foldl (fun n i => n + items.countP (p i)) m = m + items.countP fun x => l.any fun i => p i x := by
  induction l generalizing m with
  | nil => simp [List.countP_false]
  | cons i rest ih =>
    obtain ⟨fresh, once⟩ := List.nodup_cons.1 once
    have apart (x : β) (hx : p i x = true) : (rest.any fun j => p j x) = false :=
      List.any_eq_false.2 fun j hj other => fresh (unique i j x hx other ▸ hj)
    simp only [List.foldl_cons, ih once, List.any_cons, countP_or_of_apart apart, Nat.add_assoc]

/-! ### Jobs dropped and asked for -/

/-- Dropped jobs are no longer queued, and one in service stays there. -/
theorem intakeJobExists_without (p : JobItem → Bool) (e : Engine) :
    intakeJobExists (e.without p) =
      (e.queued.any (fun j => !p j.item && j.item.isIntake) || e.inService.any fun j => j.job.item.isIntake) := by
  unfold intakeJobExists Engine.without
  rw [List.any_filter, Option.any_map]
  refine congrArg (_ || ·) (congrArg (fun q => e.inService.any q) (funext fun j => ?_))
  split <;> rfl

theorem intakeJobExists_without_of_none (p : JobItem → Bool) {e : Engine} (none : intakeJobExists e = false) :
    intakeJobExists (e.without p) = false := by
  obtain ⟨queued, service⟩ := Bool.or_eq_false_iff.1 none
  rw [intakeJobExists_without, service, Bool.or_false]
  refine List.any_eq_false.2 fun j hj => ?_
  simp [List.any_eq_false.1 queued j hj]

theorem intakeJobExists_without_of_spared {p : JobItem → Bool} (spares : ∀ i n, p (.intake i n) = false) (e : Engine) :
    intakeJobExists (e.without p) = intakeJobExists e := by
  rw [intakeJobExists_without]
  refine congrArg (· || _) (congrArg e.queued.any (funext fun j => ?_))
  cases j.item with
  | intake i n => rw [spares i n]; rfl
  | rewrap | bind => exact Bool.and_false _

theorem Engine.asking_of_exists {e : Engine} (exists_ : intakeJobExists e = true) (next : Option (SlotNo × Nat)) :
    e.asking next = e := by
  cases next with
  | none => rfl
  | some next => exact if_pos exists_

theorem Engine.asking_of_none {e : Engine} (none : intakeJobExists e = false) (i : SlotNo) (reel : Nat) :
    e.asking (some (i, reel)) = { e with queued := e.queued ++ [{ item := .intake i reel, inSnapshot := false }] } :=
  if_neg (by simp [none])

/-- A drop that spares intakes leaves what is asked for. -/
theorem Engine.asking_without {p : JobItem → Bool} (spares : ∀ i n, p (.intake i n) = false)
    (next : Option (SlotNo × Nat)) (e : Engine) : (e.asking next).without p = (e.without p).asking next := by
  have same := intakeJobExists_without_of_spared spares e
  cases exists_ : intakeJobExists e with
  | true => rw [asking_of_exists exists_, asking_of_exists (same.trans exists_)]
  | false =>
    cases next with
    | none => rfl
    | some next =>
      rw [asking_of_none exists_, asking_of_none (same.trans exists_)]
      simp [without, spares]

/-- After the intake of a slot has been dropped, what was asked before matters only where it is asked again. -/
theorem Engine.asking_without_asking {p : JobItem → Bool} {i : SlotNo} (drops : ∀ j n, p (.intake j n) = (j == i))
    {next again : Option (SlotNo × Nat)} (stays : ∀ j n, next = some (j, n) → j ≠ i → again = next) (e : Engine) :
    ((e.asking next).without p).asking again = (e.without p).asking again := by
  cases exists_ : intakeJobExists e with
  | true => rw [asking_of_exists exists_]
  | false =>
    cases next with
    | none => rfl
    | some next =>
      obtain ⟨j, n⟩ := next
      have left : intakeJobExists (e.without p) = false := intakeJobExists_without_of_none p exists_
      rw [asking_of_none exists_]
      by_cases same : j = i
      · refine congrArg (asking · again) ?_
        simp [without, drops, same]
      · rw [stays j n rfl same, asking_of_none left, asking_of_exists ?_]
        · simp [without, drops, same]
        · simp [intakeJobExists_without, drops, same, JobItem.isIntake]

/-- The jobs queued after a drop and what is then asked for. -/
theorem Engine.asking_without_eq (p : JobItem → Bool) (next : Option (SlotNo × Nat)) (e : Engine) :
    (e.without p).asking next =
      { e with
        inService := e.inService.map fun j => if p j.job.item then { j with discard := true } else j
        queued :=
          e.queued.filter (fun j => !p j.item) ++
            next.elim [] fun asked =>
              if intakeJobExists { e with queued := e.queued.filter fun j => !p j.item } then []
              else [{ item := .intake asked.1 asked.2, inSnapshot := false }] } := by
  have same : intakeJobExists { e with queued := e.queued.filter fun j => !p j.item } =
      intakeJobExists (e.without p) := by
    rw [intakeJobExists_without, intakeJobExists, List.any_filter]
  cases next with
  | none => exact congrArg (fun queued => { e.without p with queued }) (List.append_nil _).symm
  | some next =>
    rw [Option.elim_some, same]
    cases exists_ : intakeJobExists (e.without p) with
    | true =>
      rw [asking_of_exists exists_]
      exact congrArg (fun queued => { e.without p with queued }) (List.append_nil _).symm
    | false =>
      rw [asking_of_none exists_]
      rfl

/-- One slot's part in the intake queue and the engine's jobs: its intake leaves the queue, if it is abandoned; jobs are
dropped; and after an abandonment the requester presents for the new head. -/
def dropIntake (abandoned : SlotNo → Bool) (drops : SlotNo → JobItem → Bool)
    (next : SlotNo → Option (SlotNo × Nat)) (i : SlotNo) (jobs : List SlotNo × Engine) : List SlotNo × Engine :=
  if abandoned i then
    (jobs.1.filter fun j => j != i,
      (jobs.2.without (drops i)).asking ((jobs.1.filter fun j => j != i).head?.bind next))
  else (jobs.1, jobs.2.without (drops i))

/-- A pass over the slots drops the jobs of them all, and asks once for the head of the queue that is left. -/
theorem foldl_dropIntake {abandoned : SlotNo → Bool} {drops : SlotNo → JobItem → Bool}
    {next : SlotNo → Option (SlotNo × Nat)} (own : ∀ i j n, next i = some (j, n) → j = i)
    (intakes : ∀ i j n, drops i (.intake j n) = (abandoned i && j == i)) (l : List SlotNo) (queue : List SlotNo)
    (e : Engine) :
    l.foldl (fun jobs i => dropIntake abandoned drops next i jobs) (queue, e.asking (queue.head?.bind next)) =
      let left := queue.filter fun j => !l.any fun i => abandoned i && j == i
      (left, (e.without fun item => l.any fun i => drops i item).asking (left.head?.bind next)) := by
  induction l generalizing queue e with
  | nil =>
    simp [Engine.without_none]
  | cons i rest ih =>
    have step : dropIntake abandoned drops next i (queue, e.asking (queue.head?.bind next)) =
        (queue.filter fun j => !(abandoned i && j == i),
          (e.without (drops i)).asking ((queue.filter fun j => !(abandoned i && j == i)).head?.bind next)) := by
      unfold dropIntake
      split
      next gone =>
        have stays (j : SlotNo) (n : Nat) (asked : queue.head?.bind next = some (j, n)) (other : j ≠ i) :
            (queue.filter fun j => j != i).head?.bind next = queue.head?.bind next := by
          cases queue with
          | nil => rfl
          | cons k rest =>
            obtain rfl : j = k := own k j n asked
            rw [List.filter_cons_of_pos (by simpa using other)]
            rfl
        simp only [gone, Bool.true_and]
        rw [Engine.asking_without_asking (fun j n => by rw [intakes, gone, Bool.true_and]) stays]
        rfl
      next kept =>
        have spares (j : SlotNo) (n : Nat) : drops i (.intake j n) = false := by simp [intakes, kept]
        rw [Engine.asking_without spares]
        simp [kept]
    rw [List.foldl_cons, step, ih]
    dsimp only
    rw [List.filter_filter, Engine.without_without]
    simp only [List.any_cons, Bool.not_or, Bool.and_comm]

end Sys2Proof.Machine

/-! ## REVOKE (O45) -/

namespace Sys2Proof.Machine

/-! ### What a strike leaves to look at -/

theorem Order.leaves_reelsUnwrapped (o : Order) (now : Nat) (b : Bundle) :
    (o.leaves now b).reelsUnwrapped = b.reelsUnwrapped := by
  unfold leaves
  split_ifs <;> rfl

theorem Order.onLane_bundleSlot (o : Order) (b : Option Bundle) (sc : Screening) :
    (o.onLane b sc).bundleSlot = sc.bundleSlot := by
  unfold onLane
  split <;> rfl

theorem strikeSlot_nextReel (o : Order) (i : SlotNo) (s : State) :
    (strikeSlot o i s).1.keyring.nextReel = s.keyring.nextReel := by
  funext j
  unfold Keyring.nextReel
  by_cases same : i = j
  · subst same
    rw [strikeSlot_slot_same, Option.map_map]
    refine congrArg (Option.map · _) (funext fun b => ?_)
    rw [Function.comp_apply, Order.leaves_reelsUnwrapped]
  · rw [strikeSlot_slot_other o same]

theorem strikeSlot_queue (o : Order) (i : SlotNo) (s : State) :
    (strikeSlot o i s).1.keyring.intakeQueue =
      if (s.keyring.slots[i]).any o.abandons then s.keyring.intakeQueue.filter fun j => j != i
      else s.keyring.intakeQueue := by
  rw [strikeSlot_keyring]
  rfl

theorem onSlot_strikeSlot_other (o : Order) {i j : SlotNo} (other : i ≠ j) (s : State) :
    (strikeSlot o i s).1.onSlot j = s.onSlot j := by
  unfold State.onSlot
  rw [strikeSlot_slot_other o other]
  refine congrArg (Prod.mk _) (funext fun l => ?_)
  unfold State.lanesUsing
  rw [(strikeSlot_strike o i s).lane]
  cases s.lanes[l] with
  | none => rfl
  | some sc =>
    by_cases here : sc.bundleSlot = i
    · have apart : (i == j) = false := by simpa using other
      simp [Option.filter_some, Order.onLane_bundleSlot, here, apart]
    · simp [here]

theorem onSlot_strikeSlot_same (o : Order) (i : SlotNo) (s : State) :
    (strikeSlot o i s).1.onSlot i =
      ((s.onSlot i).1.map (o.leaves s.clock.now), fun l => ((s.onSlot i).2 l).map (o.onLane (s.onSlot i).1)) := by
  unfold State.onSlot
  rw [strikeSlot_slot_same]
  refine congrArg (Prod.mk _) (funext fun l => ?_)
  unfold State.lanesUsing
  dsimp only
  rw [(strikeSlot_strike o i s).lane]
  cases s.lanes[l] with
  | none => rfl
  | some sc => by_cases here : sc.bundleSlot = i <;> simp [Option.filter_some, Order.onLane_bundleSlot, here]

theorem Order.mem_frees {o : Order} {n : PoolNo} {b : Option Bundle} :
    n ∈ b.elim [] o.frees ↔ ∃ a ∈ b, o.strikes a = true ∧ n ∈ a.poolRefs := by
  cases b with
  | none => simp
  | some b => cases struck : o.strikes b <;> simp [frees, struck]

/-! ### The pass over the slots -/

/-- One slot's part in `applyOrder`: the strike, and its counts added. -/
def strikeNext (o : Order) (acc : State × Nat × Nat) (i : SlotNo) : State × Nat × Nat :=
  ((strikeSlot o i acc.1).1, acc.2.1 + (strikeSlot o i acc.1).2.1, acc.2.2 + (strikeSlot o i acc.1).2.2)

/-- What the strikes of one order leave alone: part time, and the reel of each slot to unwrap next. -/
def SameReels (s : State) (acc : State × Nat × Nat) : Prop :=
  acc.1.clock.now = s.clock.now ∧ acc.1.keyring.nextReel = s.keyring.nextReel

section
variable (o : Order) (s : State)

theorem applyOrder_eq_foldl : applyOrder o s = (List.finRange 64).foldl (strikeNext o) (s, 0, 0) := rfl

theorem sameReels_strikeNext (acc : State × Nat × Nat) (i : SlotNo) (same : SameReels s acc) :
    SameReels s (strikeNext o acc i) := by
  refine ⟨?_, (strikeSlot_nextReel ..).trans same.2⟩
  dsimp only [strikeNext]
  rw [strikeSlot_time, same.1]

theorem applyOrder_onSlot (i : SlotNo) :
    (applyOrder o s).1.onSlot i =
      ((s.onSlot i).1.map (o.leaves s.clock.now), fun l => ((s.onSlot i).2 l).map (o.onLane (s.onSlot i).1)) := by
  have pass :=
    view_foldl_of_nodup (f := strikeNext o) (view := fun acc i => acc.1.onSlot i) (holds := SameReels s)
      (new := fun _ seen => (seen.1.map (o.leaves s.clock.now), fun l => (seen.2 l).map (o.onLane seen.1)))
      (sameReels_strikeNext o s) (fun acc _ _ _ other => onSlot_strikeSlot_other o other acc.1)
      (fun acc i same => (onSlot_strikeSlot_same o i acc.1).trans (by rw [same.1])) (List.nodup_finRange 64)
      (s := (s, 0, 0)) ⟨rfl, rfl⟩ i
  rw [applyOrder_eq_foldl]
  exact pass.trans (if_pos (List.mem_finRange i))

/-- What the pass gathers from the strikes, it gathers from what stood at the slots before it. -/
theorem applyOrder_gathers {γ : Type} {gathered : State × Nat × Nat → γ}
    {add : SlotNo → Option Bundle × (LaneNo → Option Screening) → γ → γ}
    (adds : ∀ acc i, SameReels s acc → gathered (strikeNext o acc i) = add i (acc.1.onSlot i) (gathered acc)) :
    gathered (applyOrder o s) = (List.finRange 64).foldl (fun g i => add i (s.onSlot i) g) (gathered (s, 0, 0)) := by
  rw [applyOrder_eq_foldl]
  exact gathered_foldl_of_nodup (f := strikeNext o) (view := fun acc i => acc.1.onSlot i) (sameReels_strikeNext o s)
    (fun acc _ _ _ other => onSlot_strikeSlot_other o other acc.1) adds (List.nodup_finRange 64) ⟨rfl, rfl⟩

/-- Each lane is stopped or left as the record in its bundle slot has it. -/
theorem applyOrder_lane (l : LaneNo) :
    (applyOrder o s).1.lanes[l] = (s.lanes[l]).map fun sc => o.onLane s.keyring.slots[sc.bundleSlot] sc := by
  have seen (i : SlotNo) :
      ((applyOrder o s).1.lanes[l]).filter (fun sc => sc.bundleSlot == i) =
        ((s.lanes[l]).filter fun sc => sc.bundleSlot == i).map (o.onLane s.keyring.slots[i]) := by
    have after := congrFun (congrArg Prod.snd (applyOrder_onSlot o s i)) l
    simpa only [State.onSlot, State.lanesUsing] using after
  cases held : s.lanes[l] with
  | none =>
    cases after : (applyOrder o s).1.lanes[l] with
    | none => rfl
    | some sc =>
      have here := seen sc.bundleSlot
      simp [held, after, Option.filter_some] at here
  | some sc =>
    have here := seen sc.bundleSlot
    rw [held, Option.filter_some, if_pos (beq_self_eq_true _), Option.map_some] at here
    exact (Option.filter_eq_some_iff.1 here).1

theorem applyOrder_affected :
    (applyOrder o s).2.1 = (List.finRange 64).countP fun i => (s.keyring.slots[i]).any o.affects := by
  have counts :=
    applyOrder_gathers o s (gathered := fun acc => acc.2.1)
      (add := fun _ seen n => n + if seen.1.any o.affects then 1 else 0)
      fun acc i _ => by
        dsimp only [strikeNext]
        rw [(strikeSlot_strike o i acc.1).affected]
        rfl
  rw [counts, foldl_add_ite]
  exact Nat.zero_add _

theorem applyOrder_pool :
    (applyOrder o s).1.keyring.pool =
      s.keyring.pool.filter fun c =>
        decide ¬∃ i : SlotNo, ∃ b ∈ s.keyring.slots[i], o.strikes b = true ∧ c.number ∈ b.poolRefs := by
  have pass :=
    applyOrder_gathers o s (gathered := fun acc => acc.1.keyring.pool)
      (add := fun _ seen pool => freeCells (seen.1.elim [] o.frees) pool) fun acc i _ => by
        dsimp only [strikeNext]
        rw [strikeSlot_keyring]
        rfl
  simp only [freeCells_eq, State.onSlot] at pass
  rw [pass, foldl_filter fun (i : SlotNo) (c : PoolCell) => c.number ∈ (s.keyring.slots[i]).elim [] o.frees]
  refine List.filter_congr fun c _ => decide_eq_decide.2 (not_congr (exists_congr fun i => ?_))
  rw [and_iff_right (List.mem_finRange i), Order.mem_frees]

theorem applyOrder_listCursor : (applyOrder o s).1.keyring.listCursor = s.keyring.listCursor := by
  rw [applyOrder_fst]
  refine frame_of_foldl _ (fun t u => u.keyring.listCursor = t.keyring.listCursor) (fun _ => rfl)
    (fun _ _ _ h k => k.trans h) (fun t i => ?_) _ s
  rw [strikeSlot_keyring]
  rfl

theorem applyOrder_notices : (applyOrder o s).1.link.notices = s.link.notices := by
  rw [applyOrder_fst]
  exact frame_of_foldl _ (fun t u => u.link.notices = t.link.notices) (fun _ => rfl) (fun _ _ _ h k => k.trans h)
    (fun t i => (strikeSlot_strike o i t).notices) _ s

end

/-! ### The lanes stopped and the jobs dropped -/

/-- Whether an order stops a lane: it is RUNNING on a bundle that the order revokes at once (R79). -/
def State.halted (s : State) (o : Order) (l : LaneNo) : Bool :=
  (s.lanes[l]).any fun sc => sc.status == .running && (s.keyring.slots[sc.bundleSlot]).any o.halts

/-- The jobs that an order drops: those of the intakes it abandons, and of the working slots of the lanes it stops. -/
def State.dropped (s : State) (o : Order) : JobItem → Bool
  | .intake i _ => (s.keyring.slots[i]).any o.abandons
  | .rewrap l n _ _ => s.halted o l && worksAt n s.lanes[l]
  | .bind _ => false

theorem runs_lanesUsing_iff {s : State} {i : SlotNo} {l : LaneNo} :
    runs (s.lanesUsing i l) = true ↔ ∃ sc, s.lanes[l] = some sc ∧ sc.status = .running ∧ sc.bundleSlot = i := by
  unfold runs State.lanesUsing
  simp only [Option.any_eq_true, Option.filter_eq_some_iff, beq_iff_eq]
  exact exists_congr fun sc => by rw [and_assoc, and_comm (a := sc.bundleSlot = i)]

theorem worksAt_of_runs (s : State) (i : SlotNo) (l : LaneNo) (n : SlotName) :
    (runs (s.lanesUsing i l) && worksAt n (s.lanesUsing i l)) = (runs (s.lanesUsing i l) && worksAt n s.lanes[l]) := by
  cases on : runs (s.lanesUsing i l) with
  | true => rw [lanesUsing_of_runs on]
  | false => rfl

section
variable (o : Order) (s : State)

theorem any_halts (l : LaneNo) :
    ((List.finRange 64).any fun i => (s.keyring.slots[i]).any o.halts && runs (s.lanesUsing i l)) = s.halted o l := by
  unfold State.halted
  rw [Bool.eq_iff_iff, List.any_eq_true, Option.any_eq_true]
  simp only [Bool.and_eq_true, runs_lanesUsing_iff, beq_iff_eq]
  constructor
  · rintro ⟨i, -, halts, sc, held, running, rfl⟩
    exact ⟨sc, held, running, halts⟩
  · rintro ⟨sc, held, running, halts⟩
    exact ⟨sc.bundleSlot, List.mem_finRange _, halts, sc, held, running, rfl⟩

theorem applyOrder_stopped : (applyOrder o s).2.2 = (List.finRange 32).countP (s.halted o) := by
  have counts :=
    applyOrder_gathers o s (gathered := fun acc => acc.2.2) (add := fun _ seen n => n + o.haltCount seen)
      fun acc i _ => by
        dsimp only [strikeNext]
        rw [(strikeSlot_strike o i acc.1).stopped]
  have unique (i j : SlotNo) (l : LaneNo)
      (hi : ((s.keyring.slots[i]).any o.halts && runs (s.lanesUsing i l)) = true)
      (hj : ((s.keyring.slots[j]).any o.halts && runs (s.lanesUsing j l)) = true) : i = j := by
    obtain ⟨a, ha, -, rfl⟩ := runs_lanesUsing_iff.1 (Bool.and_eq_true_iff.1 hi).2
    obtain ⟨b, hb, -, rfl⟩ := runs_lanesUsing_iff.1 (Bool.and_eq_true_iff.1 hj).2
    rw [Option.some.inj (ha.symm.trans hb)]
  simp only [Order.haltCount, State.onSlot] at counts
  rw [counts, foldl_countP unique (List.nodup_finRange 64)]
  simp only [any_halts, Nat.zero_add]

theorem any_drops :
    (fun item => (List.finRange 64).any fun i => o.drops i (s.onSlot i) item) = s.dropped o := by
  funext item
  cases item with
  | intake j n =>
    rw [Bool.eq_iff_iff, List.any_eq_true]
    simp [Order.drops, State.onSlot, State.dropped, JobItem.isIntakeOf, JobItem.haltedBy, List.mem_finRange]
  | rewrap l n p u =>
    have works (i : SlotNo) : o.drops i (s.onSlot i) (.rewrap l n p u) =
        ((s.keyring.slots[i]).any o.halts && runs (s.lanesUsing i l) && worksAt n s.lanes[l]) := by
      simp only [Order.drops, State.onSlot, JobItem.isIntakeOf, JobItem.haltedBy, Bool.and_false, Bool.false_or,
        worksAt_of_runs, Bool.and_assoc]
    simp only [works, State.dropped, ← any_halts]
    exact (List.and_any_distrib_right ..).symm
  | bind l => simp [Order.drops, JobItem.isIntakeOf, JobItem.haltedBy, State.dropped]

/-- Where an intake job exists for a filled queue, an order withdraws and marks what it drops, and asks once for the
head of the queue that is left. -/
theorem applyOrder_jobs (settled : s.keyring.intakeQueue ≠ [] → intakeJobExists s.engine = true) :
    ((applyOrder o s).1.keyring.intakeQueue, (applyOrder o s).1.engine) =
      let queue := s.keyring.intakeQueue.filter fun i => !(s.keyring.slots[i]).any o.abandons
      (queue, (s.engine.without (s.dropped o)).asking (queue.head?.bind s.keyring.nextReel)) := by
  have pass :=
    applyOrder_gathers o s (gathered := fun acc => (acc.1.keyring.intakeQueue, acc.1.engine))
      (add := fun i seen jobs =>
        dropIntake (fun _ => seen.1.any o.abandons) (fun _ => o.drops i seen) s.keyring.nextReel i jobs)
      fun acc i same => by
        dsimp only [strikeNext, dropIntake]
        rw [(strikeSlot_strike o i acc.1).engine, strikeSlot_queue, strikeSlot_nextReel, same.2]
        dsimp only [State.onSlot]
        by_cases gone : (acc.1.keyring.slots[i]).any o.abandons = true
        · rw [if_pos gone, if_pos gone]
          exact (if_pos gone).symm
        · rw [if_neg gone, if_neg gone]
          exact (if_neg gone).symm
  have start : s.engine.asking (s.keyring.intakeQueue.head?.bind s.keyring.nextReel) = s.engine := by
    cases queue : s.keyring.intakeQueue with
    | nil => rfl
    | cons i rest => exact Engine.asking_of_exists (settled (by simp [queue])) _
  have own (i j : SlotNo) (n : Nat) (next : s.keyring.nextReel i = some (j, n)) : j = i := by
    obtain ⟨b, -, pair⟩ := Option.map_eq_some_iff.1 next
    exact (Prod.mk.inj pair).1.symm
  have intakes (i j : SlotNo) (n : Nat) :
      o.drops i (s.onSlot i) (.intake j n) = ((s.keyring.slots[i]).any o.abandons && j == i) := by
    simp only [Order.drops, JobItem.haltedBy, Bool.and_false, Bool.or_false]
    rfl
  have all := foldl_dropIntake own intakes (List.finRange 64) s.keyring.intakeQueue s.engine
  rw [start, any_drops] at all
  have left (j : SlotNo) : ((List.finRange 64).any fun i => (s.keyring.slots[i]).any o.abandons && j == i) =
      (s.keyring.slots[j]).any o.abandons := by
    rw [Bool.eq_iff_iff, List.any_eq_true]
    simp only [Bool.and_eq_true, beq_iff_eq, List.mem_finRange, true_and, exists_eq_right']
  simp only [left] at all
  exact pass.trans all

end

namespace Stirred

variable {s t : State} (can : CanHand s)
include can

theorem emptyWorking (h : Stirred s t) (l : LaneNo) (n : SlotName) : Stirred s (emptyWorking l n t) := by
  rw [emptyWorking_eq]
  split
  · exact h.emptySlot can ..
  · exact h

theorem stopLanes (h : Stirred s t) (i : SlotNo) : Stirred s (stopLanes i t).1 :=
  foldl _ (fun _ l hu => ((hu.emptyWorking can l .x).emptyWorking can l .y).modifyLane l _) _ h

theorem abandonIntake (h : Stirred s t) (i : SlotNo) (b : Bundle) : Stirred s (abandonIntake i b t) := by
  have left : Stirred s (leaveQueue i (strikeUnused i b t)) := h.congr rfl rfl rfl
  exact (left.dropJobs can (JobItem.isIntakeOf i)).requeued (snapshotLeft_presentIntake _) (presentIntake_link _)
    (presentIntake_store _)

theorem strikeSlot (h : Stirred s t) (o : Order) (i : SlotNo) : Stirred s (strikeSlot o i t).1 := by
  have move := strikeSlot_move o i t
  generalize Machine.strikeSlot o i t = out at move ⊢
  cases move with
  | spared unaffected => exact h
  | buried b | revised b => exact h.congr rfl rfl rfl
  | abandoned b => exact h.abandonIntake can i b
  | halted b => exact stopLanes can (t := setBundle i (some (o.leaves t.clock.now b)) t) (h.congr rfl rfl rfl) i

theorem applyOrder (h : Stirred s t) (o : Order) : Stirred s (applyOrder o t).1 := by
  rw [applyOrder_fst]
  exact foldl _ (fun _ i hu => hu.strikeSlot can o i) _ h

end Stirred

/-! ### The answer -/

theorem orderVerifies_iff {tagOver : Option OrderTag} {o : Order} {st : Store} :
    orderVerifies tagOver o st = true ↔
      ∃ authority ∈ st.authority, tagOver = some { authority, covered := o.covered } := by
  unfold orderVerifies
  cases tagOver with
  | none => simp
  | some tag => cases st.authority <;> simp

/-- The state in which an accepted order is applied: its request taken, the list as it leaves it. -/
def State.relisted (s : State) (list : List RevocationEntry) : State := { withoutOldest s with revocations := list }

/-- The reply's body to an accepted order (R80). -/
def orderBody (action : ListAction) (list : List RevocationEntry) (affected stopped : Nat) : List Byte :=
  [action.code, byteOf affected, byteOf stopped, byteOf list.length]

/-- The keyring after an order, with the records as they then are: the pool entries of the tombstones freed (R76), the
abandoned bundles out of the queue (R77). -/
def State.keyringAfter (s : State) (o : Order) (slots : Vector (Option Bundle) 64) : Keyring :=
  { s.keyring with
    slots
    pool :=
      s.keyring.pool.filter fun c =>
        decide ¬∃ i : SlotNo, ∃ b ∈ s.keyring.slots[i], o.strikes b = true ∧ c.number ∈ b.poolRefs
    intakeQueue := s.keyring.intakeQueue.filter fun i => !(s.keyring.slots[i]).any o.abandons }

section
variable {r : Request} {rest : List Request} {rt : Route} {s : State} {o : Order}

/-- REVOKE by the checks of R74. -/
theorem exec_revoke_of_parsed (serving : Serving .revoke r rest rt s) (read : parseOrder r.body = some o)
    (tagOver : Option OrderTag) :
    exec (.revoke tagOver) s =
      .next
        (if orderVerifies tagOver o s.store = false then replied r rest rt .integrity [] s
        else if o.expires ≤ s.clock.now then replied r rest rt .badRequest [] s
        else
          (updateList s.revocations o).elim (replied r rest rt .listFull [] s) fun new =>
            answer r .ok
              (orderBody new.2 new.1 (applyOrder o (s.relisted new.1)).2.1 (applyOrder o (s.relisted new.1)).2.2)
              (applyOrder o (s.relisted new.1)).1) := by
  refine congrArg Host.Outcome.next ((serveWith_of_serving serving _ _).trans ?_)
  rw [read]
  simp only [← answer_withoutOldest serving.toTaking]
  dsimp only [withoutOldest_store, withoutOldest_clock, withoutOldest_revocations]
  congr 2
  cases updateList s.revocations o with
  | none => rfl
  | some new =>
    obtain ⟨list, action⟩ := new
    dsimp only [Option.elim_some, State.relisted, withoutOldest_store, withoutOldest_clock]
    generalize applyOrder o _ = out
    rfl

theorem order_answered (taking : Taking r rest rt s) (sync : SyncOk s) (list : List RevocationEntry)
    (body : List Byte) : Answered r rest rt .ok body s (answer r .ok body (applyOrder o (s.relisted list)).1) := by
  have can : CanHand (withoutOldest s) := fun _ => ⟨rt, taking.routed⟩
  have start : Stirred (withoutOldest s) (withoutOldest s) := Stirred.refl sync
  have listed : Stirred (withoutOldest s) (s.relisted list) := start.congr rfl rfl rfl
  exact (listed.applyOrder can o).answered taking ..

theorem applyOrder_keyring (settled : s.keyring.intakeQueue ≠ [] → intakeJobExists s.engine = true) :
    (applyOrder o s).1.keyring = s.keyringAfter o (applyOrder o s).1.keyring.slots := by
  dsimp only [State.keyringAfter]
  rw [← applyOrder_pool, ← applyOrder_listCursor o s, ← (Prod.mk.inj (applyOrder_jobs o s settled)).1]

/-- All of the state that an accepted order changes. -/
theorem answer_order_frame (settled : s.keyring.intakeQueue ≠ [] → intakeJobExists s.engine = true)
    (list : List RevocationEntry) (body : List Byte) :
    let t := answer r .ok body (applyOrder o (s.relisted list)).1
    t =
      { s with
        revocations := t.revocations, lanes := t.lanes, engine := t.engine, link := t.link
        keyring := s.keyringAfter o t.keyring.slots } := by
  intro t
  have keyring := applyOrder_keyring (o := o) (s := s.relisted list) settled
  have framed := applyOrder_frame o (s.relisted list)
  dsimp only [t]
  rw [answer_revocations, answer_lanes, answer_engine, answer_keyring]
  generalize (applyOrder o (s.relisted list)).1 = done at framed keyring ⊢
  have listed : done.revocations = list := congrArg State.revocations framed
  rw [keyring] at framed
  rw [listed]
  exact
    answer_over
      (s :=
        { s with
          revocations := list, lanes := done.lanes, engine := done.engine
          keyring := s.keyringAfter o done.keyring.slots })
      framed ..

theorem answer_order_engine (settled : s.keyring.intakeQueue ≠ [] → intakeJobExists s.engine = true)
    (list : List RevocationEntry) (body : List Byte) :
    (answer r .ok body (applyOrder o (s.relisted list)).1).engine =
      (s.engine.without (s.dropped o)).asking
        ((s.keyring.intakeQueue.filter fun i => !(s.keyring.slots[i]).any o.abandons).head?.bind
          s.keyring.nextReel) := by
  rw [answer_engine]
  exact (Prod.mk.inj (applyOrder_jobs o (s.relisted list) settled)).2

end

/-- What an accepted order leaves: the list it makes; the records and lanes it strikes; the frame of all else; and its
answer (R75 to R81). -/
structure OrderTaken (r : Request) (rest : List Request) (rt : Route) (o : Order) (s : State)
    (list : List RevocationEntry) (action : ListAction) (t : State) : Prop where
  listed : t.revocations = list
  slot (i : SlotNo) : t.keyring.slots[i] = (s.keyring.slots[i]).map (o.leaves s.clock.now)
  lane (l : LaneNo) : t.lanes[l] = (s.lanes[l]).map fun sc => o.onLane s.keyring.slots[sc.bundleSlot] sc
  frame :
    t =
      { s with
        revocations := t.revocations, lanes := t.lanes, engine := t.engine, link := t.link
        keyring := s.keyringAfter o t.keyring.slots }
  engine :
    t.engine =
      (s.engine.without (s.dropped o)).asking
        ((s.keyring.intakeQueue.filter fun i => !(s.keyring.slots[i]).any o.abandons).head?.bind s.keyring.nextReel)
  notices : t.link.notices = s.link.notices
  answered :
    Answered r rest rt .ok
      (orderBody action list ((List.finRange 64).countP fun i => (s.keyring.slots[i]).any o.affects)
        ((List.finRange 32).countP (s.halted o)))
      s t

theorem answer_order_taken {r : Request} {rest : List Request} {rt : Route} {s : State} {o : Order}
    (taking : Taking r rest rt s) (sync : SyncOk s)
    (settled : s.keyring.intakeQueue ≠ [] → intakeJobExists s.engine = true) (list : List RevocationEntry)
    (action : ListAction) :
    OrderTaken r rest rt o s list action
      (answer r .ok
        (orderBody action list (applyOrder o (s.relisted list)).2.1 (applyOrder o (s.relisted list)).2.2)
        (applyOrder o (s.relisted list)).1) where
  listed := by
    rw [answer_revocations, applyOrder_frame]
    rfl
  slot i := by
    rw [answer_keyring, applyOrder_slots]
    rfl
  lane l := by
    rw [answer_lanes, applyOrder_lane]
    rfl
  frame := answer_order_frame settled ..
  engine := answer_order_engine settled ..
  notices := by
    rw [answer_link_notices, applyOrder_notices]
    rfl
  answered := by
    rw [applyOrder_affected, applyOrder_stopped]
    exact order_answered taking sync ..

/-- Settles O45: the checks are those of `exec_revoke_of_parsed`, the list's ways those of `updateList`, and the rest is
what `answer_order_taken` says of the slots' strikes taken together. -/
theorem ordersStrikeTheKeyring : Obligations.OrdersStrikeTheKeyring := by
  unfold Obligations.OrdersStrikeTheKeyring
  intro tagOver r rest rt s serving ⟨room, distinct⟩ jobs
  obtain ⟨-, -, -, -, settled⟩ := jobs
  refine ⟨fun malformed => congrArg Host.Outcome.next (serveWith_malformed serving malformed _), fun o read => ?_⟩
  have checks := exec_revoke_of_parsed serving read tagOver
  intro verifies same listed later outlasts
  have checked : orderVerifies tagOver o s.store = false ↔ ¬verifies := by
    rw [← Bool.not_eq_true, orderVerifies_iff]
  refine ⟨fun bad => ?_, fun good past => ?_, fun good ahead unlisted full short => ?_,
    fun good ahead accepted sync => ?_⟩
  · rw [checks, if_pos (checked.2 bad)]
  · rw [checks, if_neg (not_not.2 good ∘ checked.1), if_pos past]
  · rw [checks, if_neg (not_not.2 good ∘ checked.1), if_neg (Nat.not_le.2 ahead), updateList_of_full unlisted full,
      if_neg (Bool.eq_false_iff.1 short)]
    rfl
  · obtain ⟨list, action, updated⟩ := updateList_of_accepted (o := o) room distinct accepted
    rw [if_neg (not_not.2 good ∘ checked.1), if_neg (Nat.not_le.2 ahead), updated, Option.elim_some] at checks
    obtain ⟨revocations, slot, lane, frame, engine, notices, answered⟩ :=
      answer_order_taken (o := o) serving.toTaking sync settled list action
    dsimp only at checks
    generalize answer r .ok _ _ = t at checks revocations slot lane frame engine notices answered
    refine ⟨action.code, t, checks, fun found outlasted => ?_, fun found outlived => ?_, fun unlisted short => ?_,
      fun unlisted full => ?_, ?_⟩
    · have new := (updateList_of_listed distinct found).trans (congrArg some (if_pos outlasted))
      cases new.symm.trans updated
      exact ⟨rfl, revocations⟩
    · have new := (updateList_of_listed distinct found).trans (congrArg some (if_neg (Bool.eq_false_iff.1 outlived)))
      cases new.symm.trans updated
      exact ⟨rfl, revocations⟩
    · cases (updateList_of_room unlisted short).symm.trans updated
      exact ⟨rfl, revocations⟩
    · obtain ⟨replaced, n, h, replacing, earliest⟩ := updateList_replaced unlisted full updated
      rw [replaced]
      exact ⟨rfl, n, h, revocations.trans replacing, earliest⟩
    · intro hit open_ struck seized raised abandoned stopped dropped queue kept asked
      refine ⟨fun i => ?_, fun l => ?_, ?_, notices, ?_⟩
      · rw [slot]
        cases s.keyring.slots[i] with
        | none => rfl
        | some b =>
          rw [Option.map_some, Order.leaves]
          simp only [apply_ite some]
          rfl
      · have halted : stopped l = s.halted o l := rfl
        rw [lane, halted, State.halted]
        cases s.lanes[l] with
        | none => rfl
        | some sc =>
          rw [Option.map_some, Order.onLane]
          simp only [apply_ite some]
          rfl
      · have drops : dropped = s.dropped o := by
          funext item
          cases item <;> rfl
        have asks : asked =
            (queue.head?.bind s.keyring.nextReel).elim [] fun next =>
              if intakeJobExists { s.engine with queued := kept } then []
              else [{ item := .intake next.1 next.2, inSnapshot := false }] := by
          dsimp only [asked]
          cases queue with
          | nil => rfl
          | cons head later =>
            rw [List.head?_cons, Option.bind_some, Keyring.nextReel]
            dsimp only
            cases s.keyring.slots[head] <;> rfl
        have jobs := Engine.asking_without_eq (s.dropped o) (queue.head?.bind s.keyring.nextReel) s.engine
        rw [← drops, ← asks] at jobs
        rw [engine.trans jobs] at frame
        exact frame
      · rw [revocations]
        exact answered

end Sys2Proof.Machine
